-- ==== Sys2Proof/Word.lean ====
section
/-! DEFINITION. The 40-bit word of the device (R16) and the signed difference of stage times (R6). -/

namespace Sys2Proof

/-- The native word: Erten registers, object addresses, object data and stage time (R16). -/
abbrev Word := BitVec 40

/-- `sdiff a b`: `(a − b) mod 2^40` read as a 40-bit two's-complement value (R6). -/
def sdiff (a b : Word) : Int := (a - b).toInt

end Sys2Proof
end

