-- ==== Sys2Proof/Syntax.lean ====
section
/-! DEFINITION. The commands of the OX9640: one constructor of `Instr` for each row of spec/opcode_table.json, with the
operands that the rule of the row takes from outside the device. -/

namespace Sys2Proof

/-- A hardware context: core 0–79 (R206) and context 0–15 (R24; 0 for prompters). -/
structure Cx where
  core : Nat
  ctx : Nat
deriving DecidableEq, Repr

/-- The three context types of R23. -/
inductive CtxKind where
  | prompter (tree : Nat)
  | system
  | script
deriving DecidableEq, Repr

/-- The kinds of blocking object access (R38, R73). -/
inductive AccKind where
  | load | add | swap | set | clr | cas
deriving DecidableEq, Repr

/-- The fields of an instruction word below its opcode (R63): in format C `imm` is `wc` and `imm13`. -/
structure Fields where
  wd : BitVec 5
  wa : BitVec 5
  wb : BitVec 5
  imm : BitVec 18
deriving DecidableEq, Repr

/-- What the twin answers to an access or an operation with bit 39 set (R40): completion code, subcause, the data
word of a load or an atomic, `RESULT`, and the words of a copy. -/
structure TwinReply where
  code : Nat
  sub : Nat
  word : Word
  result : Nat
  words : List Word
deriving DecidableEq, Repr

/-- An image as `hexul-seal` lays it out (R60): the header fields, the words of the body, and `reserved`, the reserved
header bytes read as one number (zero in a well-formed image). -/
structure Image where
  magic : Nat
  format : Nat
  kind : Nat
  keysel : Nat
  tenant : Nat
  flags : Nat
  stepping : Nat
  reserved : Nat
  version : Nat
  icount : Nat
  dcount : Nat
  scount : Nat
  entry : Nat
  vector0 : Nat
  cycles : Nat
  tickets : Nat
  digest : Nat
  sig : Nat
  pubkey : Nat
  insts : List Word
  data : List Word
  state : List Word
deriving DecidableEq, Repr

/-- What a DMA read of an image buffer gives (R101): the header read fails, the header reads and the body fails, or all of it reads. -/
inductive Dma where
  | headerError
  | bodyError (hdr : Image)
  | ok (img : Image)
deriving DecidableEq, Repr

/-- A submission entry as the host wrote it (R98), with what the image buffer it names holds. -/
structure SubEntry where
  op : Nat
  flags : Nat
  reserved : Nat
  tag : Nat
  imageAddr : Nat
  imageLen : Nat
  target : Nat
  args : List Nat
  image : Dma
deriving DecidableEq, Repr

/-- Where a script is placed when the device takes its entry: which of the free script contexts (an index among
them), and the external segments the system program grants it (segment, first granule, granules; R34, R35). -/
structure Place where
  pick : Nat
  segs : List (Nat × Nat × Nat)
deriving DecidableEq, Repr

/-- The target of a `REGISTER_WRITE`: an object word stored by a context; a BAR0 register written by a function; the
mask bit of an MSI-X vector; SR-IOV VF Enable in configuration space; a read of BAR0, BAR2 or BAR4 (log 23). -/
inductive RegTarget where
  | object (cx : Cx) (addr : Word) (value : Word)
  | bar0 (func offset size value : Nat)
  | msixMask (func vec : Nat) (mask : Bool)
  | vfEnable (on : Bool)
  | bar0Read (func offset size : Nat)
  | bar2Read (func offset size : Nat)
  | bar4Read (offset length : Nat)
deriving DecidableEq, Repr

/-- What the burst receiver sees in a granted window (R139): the bit positions relative to P with their scores, the
header check, the ONU-ID the header names, the refined preset, whether energy runs into the next guard (R174), and the
arrival skew between the channels of a bonded pair in ticks (R125). -/
structure BurstObs where
  scores : List (Int × Nat)
  headerOk : Bool
  onu : Nat
  gain : Nat
  thr : Nat
  phase : Nat
  seed : Nat
  overrun : Bool
  skew : Nat
deriving DecidableEq, Repr

/-- What the queues a packet meets have come to: whether the sieve's input queue is full (R225: the rate offered decides, and no depth is given); how many entries have
been taken from the packet's control channel, and from channel 5, since the last packet met that queue (R272, R273, R279); whether the twin lanes have no capacity
left for cross traffic (R244). And what has gone wrong by itself since the last packet: the numbers of forwarding entries (R325), and 4,096 times bank plus row of
classifier rows (R287), whose parity no longer holds. -/
structure Full where
  input : Bool
  taken : Nat
  punt : Nat
  cross : Bool
  ents : List Nat
  rows : List Nat
deriving DecidableEq, Repr

/-- What the header of an encrypted frame carries (R376, R380, R386): key index or association number, and the packet number of a MACsec frame. -/
structure Seal where
  idx : Nat
  pn : Nat
deriving DecidableEq, Repr

/-- A packet that arrives at the sieve: ingress index (R270), bytes without the FCS, GEM port or LLID and terminal for an upstream frame of a head-role port,
what it is (0 a frame, 1 a PLOAM message for software, 2 a frame on the OMCC flow, 3 a message the port hardware consumes, R144), whether its FCS is
good (an encrypted upstream frame's once it is decrypted), what the queues have come to, and its encryption header where it is encrypted. -/
structure Packet where
  ingress : Nat
  bytes : List Nat
  flowId : Nat
  term : Nat
  kind : Nat
  fcsOk : Bool
  full : Full
  crypt : Option Seal
deriving DecidableEq, Repr

/-- A buffer report carried in a burst (R190): allocation, backlog, whether its own check passed. -/
structure BufReport where
  alloc : Nat
  backlog : Nat
  valid : Bool
deriving DecidableEq, Repr

/-- What decoding of one burst yields (R142): codeword and bit counts, the units of each allocation's grant that carried idle frames (R190), buffer reports, the frames no uncorrectable codeword discarded (R143). -/
structure Decoded where
  codewords : Nat
  corrected : Nat
  uncorrectable : Nat
  idle : List (Nat × Nat)
  reports : List BufReport
  frames : List Packet
deriving DecidableEq, Repr

/-- A discovery or ranging candidate whose header check has been made (R140): its offset from the window start in
upstream bits, its score, the check's outcome, the serial number or MAC address and the ONU-ID the header names, the timestamp that a
REGISTER_REQ carries in time quanta (R165), and the skew between bonded channels. -/
structure Candidate where
  x : Nat
  score : Nat
  headerOk : Bool
  snHi : Nat
  snLo : Nat
  onu : Nat
  ts : Nat
  skew : Nat
deriving DecidableEq, Repr

/-- A cue light frame or its copy on the twin lanes as it arrives (R239–R242): the carrier (false cue light, true lanes); whether its first bit stands 1,244 or 1,245
bits after that of the frame before; the fill bit received before it, if any; and its bits, the first received the most significant: the 1,244 bits of the frame as
sent, or over the lanes the 1,212 bits from `TYPE` to `CRC`. -/
structure RxFrame where
  lanes : Bool
  spaced : Bool
  fill : Option Bool
  line : Nat
deriving DecidableEq, Repr

/-- An answered alignment probe (R234, R237): the measured error in ticks, whether the twin's stage time runs, whether the twin started it alone, its extended stage
time, the one-way latency. -/
structure Probe where
  err : Int
  running : Bool
  alone : Bool
  twinExt : Nat
  latency : Nat
deriving DecidableEq, Repr

/-- An entry of the twin's sealed sheet (R256): kind (0 grant, 1 discovery, 2 ranging, 3 silence), allocation, terminal, start, size, overhead, profile,
report and PLOAM requests, joined, carried, channel, length of a window past the frame. -/
structure MsgEntry where
  kind : Nat
  alloc : Nat
  term : Nat
  start : Nat
  size : Nat
  ovh : Nat
  long : Bool
  report : Bool
  ploam : Bool
  joined : Bool
  carried : Bool
  chan : Nat
  left : Nat
deriving DecidableEq, Repr

/-- The active unit's sealed sheet of a frame with its applied shift in 1/8 tick and its burst summaries: delimiters found by frame (R255, R256).
Frames are numbered on the pair's shared grid (R531; log 102). -/
structure SheetMsg where
  frame : Nat
  entries : List MsgEntry
  shift : Int
  summary : List (Nat × Nat)
deriving DecidableEq, Repr

/-- What a tail-role port sees of a sync pattern (R145): the bit position, counted on over frames, and the bit errors of the 64 bits there. -/
structure SyncObs where
  pos : Nat
  errors : Nat
deriving DecidableEq, Repr

/-- A defect integration interval that has ended (R151): loss of signal, and whether there were no downstream transitions in it; the 1 s of upstream codewords; bits
received and corrected over the interval that would set or clear `DN_SD` or `DN_SF`. -/
inductive DefectObs where
  | los (still : Bool)
  | upDeg
  | dnSd (bits corrected : Nat)
  | dnSf (bits corrected : Nat)
deriving DecidableEq, Repr

/-- How an I²C transaction ends (R153). -/
inductive I2cEnd where
  | done (bytes : List Nat)
  | nack
  | stuck
deriving DecidableEq, Repr

/-- The message kinds a head-role port may see acknowledged (R168, R172). -/
inductive AckKind where
  | rangingTime | changePower | other
deriving DecidableEq, Repr

/-- A user of the cipher engine and what its request carries (R375, R376, R381, R385): a downstream unicast or broadcast flow; an upstream frame with
the key index of its header; a PLOAM or OMCI message; MACsec on an uplink, on receive with association number and packet number; a context. -/
inductive CUser where
  | down (z t : Nat)
  | bcast (z : Nat)
  | up (z t keyIdx : Nat)
  | mic (z t : Nat)
  | macTx (u : Nat)
  | macRx (u keyIdx pn : Nat)
  | context (cx : Cx)
deriving DecidableEq, Repr

/-- A frame whose timestamp point passes the ball of a timestamping port (R401): the port, 32 for the management port, sent or received, and its bytes without the
FCS. -/
structure PtpFrame where
  port : Nat
  rx : Bool
  bytes : List Nat
deriving DecidableEq, Repr

/-- The bytes of an alignment marker as one lane carries them (R424, R425): `REFORM`, `REFORM_ACK`, `TX_SET`, `RX_USABLE`. -/
structure Marker where
  reform : Bool
  ack : Bool
  txSet : Nat
  rxUsable : Nat
deriving DecidableEq, Repr

/-- What an uplink's negotiation resolves to (R421): `UL_MODE` and FEC. -/
structure LinkMode where
  mode : Nat
  fec : Nat
deriving DecidableEq, Repr

/-- What a lane's taps are wanted to be (R430, R431): the DFE taps by its own adaptation loop, the transmit FIR by the far end's training where it asks for it. -/
structure TapWish where
  rx : List Int
  tx : Option (Int × Int × Int)
deriving DecidableEq, Repr

/-- What a lane's receiver finds (R426, R432, R433): its locks; sync headers, valid or not; markers due; its skew in bits; the end of an interval of `SD` or of `SF`, with
the bits received in it; corrected bits and uncorrectable codewords; the errors of PRBS bits or symbols. -/
inductive LaneObs where
  | lock (block align : Bool)
  | headers (valid : List Bool)
  | markers (own : List Bool)
  | skew (bits : Nat)
  | sd (bits : Nat)
  | sf (bits : Nat)
  | counts (corr uncorr : Nat)
  | prbs (errs : List Nat)
deriving DecidableEq, Repr

/-- A 66-bit block of a twin lane behind the descrambler (R424): the sync header (1 data, 2 control; 0 and 3 are invalid) and the eight payload bytes. -/
structure Blk where
  header : Nat
  bytes : List Nat
deriving DecidableEq, Repr

/-- A twin-lane message as it completes: the blocks that arrived, and the messages that wait in channel 4's queue (R272, R429). -/
structure TwinRx where
  wire : List Blk
  waiting : Nat
deriving DecidableEq, Repr

/-- What a good twin-lane message carries to this unit, beside the messages that have commands of their own (R243, R306, R391, R429): an acknowledgement,
the twin's outcome of a curtain, its swap or erase of a key slot, the next packet number of a mirrored slot, whether it binds a slot, a port's mode and rate, the tag
and downstream policer of one of its flows (R313), a packet of cross traffic (class 6, R318). An answer to an operation asked of the twin names its message. -/
inductive TwinMsg where
  | ack (seq : Nat)
  | reply (seq : Nat) (r : TwinReply)
  | curtain (timedOut : Bool)
  | keyDone (slot what : Nat)
  | nextPn (slot pn : Nat)
  | keyBound (slot : Nat) (on : Bool)
  | portCfg (tree mode rate : Nat)
  | flowTag (tree flow tenant pol : Nat)
  | cross (dest tenant : Nat) (yellow replica : Bool) (bytes : List Nat)
deriving DecidableEq, Repr

/-- An entry of the forwarding table as unit 0 has it (R233, R319): its number and generation, its key and data words, its place; or that its number is free. -/
structure EntCopy where
  no : Nat
  gen : Nat
  key0 : Nat
  key1 : Nat
  data : Nat
  bucket : Nat
  way : Nat
  gone : Bool
deriving DecidableEq, Repr

/-- A write that the twin mirrors to this unit (R214, R266): an object word as software wrote it; a word as the twin's copy holds it, with what its hardware
keeps there (R233, R267); an operation on a shared structure; the sieve's current and previous versions with the change records that build them from nothing, and the
list staged since (R233, R267); an entry of a tree's standing list, its frame numbered
on the pair's shared grid (R531; log 102). -/
inductive MirrorOp where
  | word (addr : Nat) (value : Word)
  | copy (addr : Nat) (value : Word)
  | entries (l : List EntCopy)
  | learn (key0 key1 dest tenant : Nat) (bound moved : Bool)
  | raked (epoch : Nat) (entries : List (Nat × Nat × Nat))
  | stage (tenant : Nat) (records : List (List Word))
  | rules (vCur vPrev : Nat) (cur prev staged : List (List Word))
  | curtain (due : Nat)
  | keyWrite (slot : Nat) (ctl : Word) (key : List Word)
  | keyErase (slot : Nat)
  | keyLoad (unit tree term idx key : Nat) (slots : List Nat)
  | standing (tree alloc start size period grid : Nat) (long remove : Bool)
deriving DecidableEq, Repr

/-- An access with bit 39 set that arrives from the twin (R31, R40): an object load, store or atomic, or an asynchronous operation by its descriptor and the
number that its reply names. -/
inductive RemoteOp where
  | load (addr : Nat)
  | store (addr : Nat) (value : Word)
  | atomic (kind : AccKind) (addr : Nat) (b c : Word)
  | issue (number : Nat) (descriptor : List Word)
deriving DecidableEq, Repr

/-- What rehearsal tests (R480): a prompter pair by its core, a classifier bank, a cipher lane, a buffer of a pool, the burst receiver and
decoder of a port, the dark path of a port. -/
inductive SliceTarget where
  | prompter (core : Nat)
  | bank (b : Nat)
  | lane (l : Nat)
  | buffer (pool i : Nat)
  | receiver (z : Nat)
  | dark (z : Nat)
deriving DecidableEq, Repr

/-- What a segment of a slice gave (R479): patterns expected and run, signature expected and measured. -/
structure SegObs where
  expected : Nat
  run : Nat
  expSig : Nat
  sig : Nat
deriving DecidableEq, Repr

/-- What a boot finds (R508–R510, R521): the straps `TWIN_UNIT` and `BOOT_SRC`, the image of each flash slot (none where it cannot be read or reaches
past its slot), the channels that train, the entries of the rehearsal catalogue. -/
structure Boot where
  unit : Nat
  src : Nat
  slot0 : Option Image
  slot1 : Option Image
  trained : Nat
  entries : Nat
deriving DecidableEq, Repr

/-- What the margin monitors report to an update of the core voltage (R499): their slacks in ps, and whether one step lower
would leave every slack at its bound or above. -/
structure AvsObs where
  slacks : List Int
  lower : Bool
deriving DecidableEq, Repr

/-- The commands of the device, one for each row of the opcode table. -/
inductive Instr where
  /-- `ADD` (R66). Adds two registers modulo 2^40. -/
  | add (cx : Cx) (f : Fields)
  /-- `SUB` (R66). Subtracts wb from wa modulo 2^40. -/
  | sub (cx : Cx) (f : Fields)
  /-- `AND` (R66). Bitwise AND of two registers. -/
  | andR (cx : Cx) (f : Fields)
  /-- `OR` (R66). Bitwise OR of two registers. -/
  | orR (cx : Cx) (f : Fields)
  /-- `XOR` (R66). Bitwise XOR of two registers. -/
  | xorR (cx : Cx) (f : Fields)
  /-- `SHL` (R66). Shifts wa left by wb[5:0] places. -/
  | shl (cx : Cx) (f : Fields)
  /-- `SHR` (R66). Shifts wa right by wb[5:0] places with zero fill. -/
  | shr (cx : Cx) (f : Fields)
  /-- `SAR` (R66). Shifts wa right by wb[5:0] places with sign fill. -/
  | sar (cx : Cx) (f : Fields)
  /-- `MUL` (R66). Writes the low 40 bits of the product. -/
  | mul (cx : Cx) (f : Fields)
  /-- `MULHU` (R66). Writes the high 40 bits of the unsigned 80-bit product. -/
  | mulhu (cx : Cx) (f : Fields)
  /-- `DIVU` (R66). Unsigned division, with a fixed result when dividing by zero. -/
  | divu (cx : Cx) (f : Fields)
  /-- `REMU` (R66). Unsigned remainder, with a fixed result when dividing by zero. -/
  | remu (cx : Cx) (f : Fields)
  /-- `SLT` (R66). Signed less-than comparison into a register. -/
  | slt (cx : Cx) (f : Fields)
  /-- `SLTU` (R66). Unsigned less-than comparison into a register. -/
  | sltu (cx : Cx) (f : Fields)
  /-- `SAFT` (R68). Writes 1 when sdiff(wa, wb) is greater than 0. -/
  | saft (cx : Cx) (f : Fields)
  /-- `MINU` (R66). Unsigned minimum of two registers. -/
  | minu (cx : Cx) (f : Fields)
  /-- `MAXU` (R66). Unsigned maximum of two registers. -/
  | maxu (cx : Cx) (f : Fields)
  /-- `CLZ` (R66). Counts the leading zero bits of wa. -/
  | clz (cx : Cx) (f : Fields)
  /-- `POPC` (R66). Counts the set bits of wa. -/
  | popc (cx : Cx) (f : Fields)
  /-- `ADDI` (R66). Adds the sign-extended immediate to wa. -/
  | addi (cx : Cx) (f : Fields)
  /-- `ANDI` (R66). ANDs wa with the zero-extended immediate. -/
  | andi (cx : Cx) (f : Fields)
  /-- `ORI` (R66). ORs wa with the zero-extended immediate. -/
  | ori (cx : Cx) (f : Fields)
  /-- `XORI` (R66). XORs wa with the zero-extended immediate. -/
  | xori (cx : Cx) (f : Fields)
  /-- `SHLI` (R66). Shifts left by an immediate amount. -/
  | shli (cx : Cx) (f : Fields)
  /-- `SHRI` (R66). Shifts right by an immediate amount with zero fill. -/
  | shri (cx : Cx) (f : Fields)
  /-- `SARI` (R66). Shifts right by an immediate amount with sign fill. -/
  | sari (cx : Cx) (f : Fields)
  /-- `SLTI` (R66). Signed less-than comparison against the immediate. -/
  | slti (cx : Cx) (f : Fields)
  /-- `LI` (R67). Loads the sign-extended 18-bit immediate. -/
  | li (cx : Cx) (f : Fields)
  /-- `LIM` (R67). Shifts wa left by 18 and inserts the immediate. -/
  | lim (cx : Cx) (f : Fields)
  /-- `BEQ` (R69). Branches when the two registers are equal. -/
  | beq (cx : Cx) (f : Fields)
  /-- `BNE` (R69). Branches when the two registers differ. -/
  | bne (cx : Cx) (f : Fields)
  /-- `BLT` (R69). Branches on signed less-than. -/
  | blt (cx : Cx) (f : Fields)
  /-- `BGE` (R69). Branches on signed greater-or-equal. -/
  | bge (cx : Cx) (f : Fields)
  /-- `BLTU` (R69). Branches on unsigned less-than. -/
  | bltu (cx : Cx) (f : Fields)
  /-- `BGEU` (R69). Branches on unsigned greater-or-equal. -/
  | bgeu (cx : Cx) (f : Fields)
  /-- `BAFT` (R69). Branches when sdiff(wa, wb) is greater than 0. -/
  | baft (cx : Cx) (f : Fields)
  /-- `BNAFT` (R69). Branches when sdiff(wa, wb) is at most 0. -/
  | bnaft (cx : Cx) (f : Fields)
  /-- `J` (R69). Jumps to a pc-relative target. -/
  | j (cx : Cx) (f : Fields)
  /-- `CALL` (R69). Writes the return address to w31 and jumps. -/
  | call (cx : Cx) (f : Fields)
  /-- `JR` (R69). Jumps to the address held in wa. -/
  | jr (cx : Cx) (f : Fields)
  /-- `CALLR` (R69). Writes the return address to w31 and jumps to wa. -/
  | callr (cx : Cx) (f : Fields)
  /-- `LD` (R71). Loads a word from the local address map. -/
  | ld (cx : Cx) (f : Fields)
  /-- `ST` (R71). Stores a word to the local address map, posted. -/
  | st (cx : Cx) (f : Fields)
  /-- `OLD` (R72). Issues a blocking object load. -/
  | old (cx : Cx) (f : Fields)
  /-- `OST` (R72). Issues a posted object store. -/
  | ost (cx : Cx) (f : Fields)
  /-- `OADD` (R73). Atomic add on an object word. -/
  | oadd (cx : Cx) (f : Fields)
  /-- `OSWAP` (R73). Atomic exchange on an object word. -/
  | oswap (cx : Cx) (f : Fields)
  /-- `OSET` (R73). Atomic OR on an object word. -/
  | oset (cx : Cx) (f : Fields)
  /-- `OCLR` (R73). Atomic AND-NOT on an object word. -/
  | oclr (cx : Cx) (f : Fields)
  /-- `OCAS` (R73). Atomic compare-and-swap on an object word. -/
  | ocas (cx : Cx) (f : Fields)
  /-- `OBJECT_ACCESS_RETURN` (R38). The owning block returns the data of a blocked load or atomic, and the context resumes. -/
  | objectAccessReturn (cx : Cx) (tw : Option TwinReply)
  /-- `REFUSED_STORE_EXCEPTION` (R39). The refusal of a posted store returns, and the exception is taken at the next instruction boundary. -/
  | refusedStoreException (cx : Cx) (tw : Option (Nat × Nat × Nat))
  /-- `WAIT` (R43). Blocks until the named ticket completes. -/
  | wait (cx : Cx) (f : Fields)
  /-- `WAIT_RESUME` (R43). A waited ticket completes, and the completion word is written to wd. -/
  | waitResume (cx : Cx)
  /-- `POLL` (R43). Returns the completion word of a ticket, or 0. -/
  | poll (cx : Cx) (f : Fields)
  /-- `ORDER` (R46). Splits the context's accesses into before and after. -/
  | order (cx : Cx) (f : Fields)
  /-- `ORDER_RELEASE` (R46). An access held behind ORDER starts once earlier operations complete and stores are visible. -/
  | orderRelease (cx : Cx)
  /-- `FENCE` (R47). Blocks the context until all earlier operations complete and stores are visible. -/
  | fence (cx : Cx) (f : Fields)
  /-- `FENCE_RELEASE` (R47). The fence condition holds, and the blocked context resumes. -/
  | fenceRelease (cx : Cx)
  /-- `NOW` (R76). Samples stage time into a register. -/
  | now (cx : Cx) (f : Fields)
  /-- `WAITUNTIL` (R76). Blocks until stage time reaches wa, or returns the lateness at once. -/
  | waitUntil (cx : Cx) (f : Fields)
  /-- `WAITUNTIL_RESUME` (R76). Stage time reaches the awaited time, and the context resumes with the overrun. -/
  | waitUntilResume (cx : Cx)
  /-- `GRANT` (R77). Adds a grant to the open cue sheet after the checks of R78. -/
  | grant (cx : Cx) (f : Fields)
  /-- `QUIET` (R77). Adds a quiet window to the open cue sheet. -/
  | quiet (cx : Cx) (f : Fields)
  /-- `SEAL` (R79). Seals the open sheet and returns the sheet ticket. -/
  | seal (cx : Cx) (f : Fields)
  /-- `STANDING` (R80). Adds or removes a standing entry. -/
  | standing (cx : Cx) (f : Fields)
  /-- `REPORT_GET` (R81). Returns the digest word of an allocation. -/
  | reportGet (cx : Cx) (f : Fields)
  /-- `YIELD` (R25). Ends a prompter run, or gives up the stagehand core. -/
  | yield (cx : Cx) (f : Fields)
  /-- `TRAP` (R52). Raises FAULT with subcause 0x08. -/
  | trap (cx : Cx) (f : Fields)
  /-- `TABLE_INSERT` (R323). Inserts or replaces a forwarding entry, moving or evicting entries as needed. -/
  | tableInsert (cx : Cx) (f : Fields) (tw : Option TwinReply)
  /-- `TABLE_DELETE` (R85). Deletes a forwarding entry by handle or by key. -/
  | tableDelete (cx : Cx) (f : Fields) (tw : Option TwinReply)
  /-- `TABLE_READ` (R86). Reads an entry by handle into local memory. -/
  | tableRead (cx : Cx) (f : Fields) (tw : Option TwinReply)
  /-- `KEY_WRITE` (R367). Unwraps a key into the shadow bank of a slot. -/
  | keyWrite (cx : Cx) (f : Fields) (tw : Option TwinReply)
  /-- `KEY_ERASE` (R374). Starts erasing a key slot. -/
  | keyErase (cx : Cx) (f : Fields) (tw : Option TwinReply)
  /-- `KEY_ERASE_DONE` (R374). INFLIGHT reaches 0, both banks are zeroed, and the erase completes. -/
  | keyEraseDone (n : Nat)
  /-- `KEY_SWAP` (R371). INFLIGHT reaches 0, the banks swap, and held requests are released. -/
  | keySwap (n : Nat)
  /-- `MEM_COPY` (R88). Copies words between local or object ranges. -/
  | memCopy (cx : Cx) (f : Fields) (tw : Option TwinReply)
  /-- `PB_QUERY` (R447). Scans the prompt book and writes the matching records. -/
  | pbQuery (cx : Cx) (f : Fields) (tw : Option TwinReply)
  /-- `BUF_FREE` (R358). Frees a buffer under the owner and share checks. -/
  | bufFree (cx : Cx) (f : Fields) (tw : Option TwinReply)
  /-- `BUF_RELEASE` (R358). Drops one share of a buffer. -/
  | bufRelease (cx : Cx) (f : Fields) (tw : Option TwinReply)
  /-- `CUE_AT` (R396). Programs a cue, or handles it at once as late or stale. -/
  | cueAt (cx : Cx) (f : Fields) (tw : Option TwinReply)
  /-- `CUE_FIRE` (R399). A pending cue reaches its time or frame boundary and stores its value. -/
  | cueFire (e : Nat) (tw : Option TwinReply)
  /-- `STAGE` (R296). Checks a list of sieve changes and applies it to the staged set. -/
  | stage (cx : Cx) (f : Fields) (tw : Option TwinReply)
  /-- `CURTAIN` (R303). Schedules the commit of the staged set as a new version. -/
  | curtain (cx : Cx) (f : Fields) (tw : Option TwinReply)
  /-- `CURTAIN_DUE` (R303). The effect time is reached, and the device switches or waits for holders to drain. -/
  | curtainDue
  /-- `CURTAIN_SWITCH` (R303). HOLD_PREV reaches 0, and the versions rotate. -/
  | curtainSwitch
  /-- `CURTAIN_TIMEOUT` (R304). CURTAIN_TO expires, and the old version is force-retired. -/
  | curtainTimeout
  /-- `COUNTER_FLUSH` (R458). Flushes, and optionally clears, a range of counters. -/
  | counterFlush (cx : Cx) (f : Fields) (tw : Option TwinReply)
  /-- `RUN` (R99). Fetches a script image and runs it once. -/
  | run (f : Nat) (e : SubEntry) (p : Place)
  /-- `RUN_RESIDENT` (R99). Runs a resident image once. -/
  | runResident (f : Nat) (e : SubEntry) (p : Place)
  /-- `LOAD_RESIDENT` (R99). Loads a script image into the resident store. -/
  | loadResident (f : Nat) (e : SubEntry) (p : Place)
  /-- `UNLOAD_RESIDENT` (R99). Removes a resident image once its instances end. -/
  | unloadResident (f : Nat) (e : SubEntry) (p : Place)
  /-- `LOAD_PROMPTER` (R99). Loads a prompter image for a port's tree. -/
  | loadPrompter (f : Nat) (e : SubEntry) (p : Place)
  /-- `NOP` (R99). Submission that does nothing. -/
  | nop (f : Nat) (e : SubEntry) (p : Place)
  /-- `SQ_TAIL` (R102). Doorbell write that admits new submission entries or is refused. -/
  | sqTail (f : Nat) (v : Nat) (es : List SubEntry)
  /-- `SQ_TAKE` (R103). The device takes the entry at SQ_HEAD once the taking conditions hold. -/
  | sqTake (p : Place)
  /-- `CQ_HEAD` (R102). Host write that consumes completion ring entries. -/
  | cqHead (f : Nat) (v : Nat)
  /-- `EQ_HEAD` (R102). Host write that consumes event ring entries. -/
  | eqHead (f : Nat) (v : Nat)
  /-- `SQ_EN` (R97). Enables or stops the submission ring. -/
  | sqEn (f : Nat) (on : Bool)
  /-- `CQ_EN` (R97). Enables or disables the completion ring. -/
  | cqEn (f : Nat) (on : Bool)
  /-- `EQ_EN` (R97). Enables or disables the event ring. -/
  | eqEn (f : Nat) (on : Bool)
  /-- `SELF_END` (R100). A script ends itself with a completion code. -/
  | selfEnd (cx : Cx) (v : Nat)
  /-- `COAL_US_EXPIRY` (R108). The coalescing time runs out and an interrupt is sent. -/
  | coalUsExpiry (f : Nat) (events : Bool)
  /-- `SCRIPT_RUN_LIMIT` (R59). A script reaches its run limit and ends with FAULT 0x06. -/
  | scriptRunLimit (cx : Cx)
  /-- `TENANT_DISABLE` (R30). Tenant 0 clears EN and the tenant's scripts are stopped. -/
  | tenantDisable (cx : Cx) (t : Nat)
  /-- `DEV_RESET` (R115). Keyed write that resets the device, after notice in graft-understudy mode. -/
  | devReset (key : Nat) (b : Boot)
  /-- `RESET_AFTER_NOTICE` (R264). The unit has gone dark or 274 µs have passed, and the deferred reset acts. -/
  | resetAfterNotice (b : Boot)
  /-- `BOOT_GO` (R116). Fetches and checks the system image over PCIe. -/
  | bootGo (d : Dma) (trained : Nat)
  /-- `FUNCTION_LEVEL_RESET` (R115). An FLR of a VF resets its ring state. -/
  | functionLevelReset (v : Nat)
  /-- `PF_RESET` (R115). A PF FLR, hot reset or link down resets all host-side state. -/
  | pfReset (down : Bool)
  /-- `PERST_N` (R522). Assertion resets only the PCIe endpoint. -/
  | perstN
  /-- `REGISTER_WRITE` (R8). A write to an object or register with no row of its own, judged by the checks of R28. -/
  | registerWrite (target : RegTarget)
  /-- `FRAME_BOUNDARY` (R184). A tree's frame boundary: digest snapshot, checkpoint, footlight decision and prompter entry. -/
  | frameBoundary (z : Nat) (plain : Bool)
  /-- `SHEET_DEADLINE` (R197). The deadline D_k fixes the sheet, and the assembler packs it and queues arming. -/
  | sheetDeadline (z : Nat)
  /-- `LOCKSTEP_MISMATCH` (R207). A lockstep mismatch retires the pair and starts a spare from the wings. -/
  | lockstepMismatch (z : Nat)
  /-- `BURST_RECEIVE` (R139). A granted window's delimiter search finds a burst, which is received with preset writeback. -/
  | burstReceive (z : Nat) (obs : BurstObs)
  /-- `BURST_WINDOW_MISSED` (R141). A granted window ends with no delimiter found. -/
  | burstWindowMissed (z : Nat)
  /-- `DISCOVERY_WINDOW` (R140). A discovery window is searched and its candidates are decoded one at a time. -/
  | discoveryWindow (z : Nat) (cs : List Candidate)
  /-- `BURST_DECODED` (R142). Decoding ends and reports, data, counts and the burst record go onward. -/
  | burstDecoded (z : Nat) (d : Decoded)
  /-- `ENERGY_DETECTED` (R141). Optical energy outside every window is passed to ranging as rogue evidence. -/
  | energyDetected (z : Nat)
  /-- `LIGHT` (R131). Software requests that a port be lit or darkened at the next boundary. -/
  | light (cx : Cx) (p : Nat) (v : Nat)
  /-- `PORT_MODE_CHANGE` (R122). A change of MODE, UP_RATE or ROLE retrains the port and clears its state. -/
  | portModeChange (cx : Cx) (p : Nat) (mode : Nat) (up : Nat) (role : Nat)
  /-- `BOND` (R123). Joins or separates a bonded 50G-EPON pair. -/
  | bond (cx : Cx) (p : Nat) (v : Nat)
  /-- `TRAINING_DONE` (R122). SerDes retraining ends, and the downstream engine starts on the grid. -/
  | trainingDone (p : Nat)
  /-- `I2C_GO` (R153). Starts an I²C transaction. -/
  | i2cGo (cx : Cx) (m : Nat)
  /-- `I2C_DONE` (R153). An I²C transaction ends with data, a NACK or a stuck bus. -/
  | i2cDone (m : Nat) (e : I2cEnd)
  /-- `TAIL_SYNC_PATTERN` (R145). A tail port sees or misses a sync pattern while hunting or in SYNC. -/
  | tailSyncPattern (p : Nat) (o : SyncObs)
  /-- `TAIL_MAP_ENTRY` (R146). A tail port takes a bandwidth map entry for one of its allocations. -/
  | tailMapEntry (p : Nat) (a : Nat) (start : Nat) (size : Nat) (frame : Nat)
  /-- `TAIL_BURST_SEND` (R147). A tail port transmits its granted burst at the derived time. -/
  | tailBurstSend (p : Nat) (ploam : Bool)
  /-- `TAIL_TX_GUARD` (R147). TXEN outlasts the longest burst, and the port is forced dark. -/
  | tailTxGuard (p : Nat)
  /-- `TAIL_TO2_EXPIRY` (R148). SYNC does not return within TAIL_TO2, and the identity is forgotten. -/
  | tailTo2Expiry (p : Nat)
  /-- `PONP_LOS` (R151). A change on the LOS input. -/
  | ponpLos (p : Nat) (level : Bool)
  /-- `PORT_DEFECT_INTERVAL` (R151). A defect integration interval ends, and the defect sets or clears. -/
  | portDefectInterval (p : Nat) (o : DefectObs)
  /-- `SERIAL_NUMBER_ONU` (R157). A discovery response is matched against the terminal records. -/
  | serialNumberOnu (z : Nat)
  /-- `RANGING_RESPONSE` (R164). A ranging response gives the equalisation delay and activates the terminal. -/
  | rangingResponse (z : Nat) (cs : List Candidate) (gain : Nat) (thr : Nat) (phase : Nat) (seed : Nat)
  /-- `RANGING_WINDOW_END` (R157). A ranging window ends with no response. -/
  | rangingWindowEnd (z : Nat)
  /-- `REGISTRATION` (R157). A Registration reply sets REG_SEEN and is copied to software. -/
  | registration (z : Nat) (t : Nat) (id : List Nat)
  /-- `ACKNOWLEDGE` (R168). A terminal acknowledges a hardware-originated message. -/
  | acknowledge (z : Nat) (t : Nat) (k : AckKind)
  /-- `RANGING_TIME_ACK_TIMEOUT` (R168). A drift correction goes unacknowledged for 4 frames and is resent. -/
  | rangingTimeAckTimeout (z : Nat) (t : Nat)
  /-- `REGISTER_REQ` (R158). An EPON REGISTER_REQ starts registration and round-trip measurement. -/
  | registerReq (z : Nat)
  /-- `REGISTER_ACK` (R158). An EPON REGISTER_ACK activates the terminal. -/
  | registerAck (z : Nat) (t : Nat)
  /-- `REPORT` (R190). An MPCP REPORT reaches the report digest. -/
  | report (z : Nat) (rs : List BufReport)
  /-- `LOST_TO_EXPIRY` (R157). LOST_TO runs out in SN_KNOWN, LOST or EPON registration. -/
  | lostToExpiry (z : Nat) (t : Nat)
  /-- `ADMIN` (R178). A write of a terminal's ADMIN changes granting and may deactivate it. -/
  | admin (cx : Cx) (z : Nat) (t : Nat) (v : Nat)
  /-- `DISABLE` (R157). Software disables or enables a terminal. -/
  | disable (cx : Cx) (z : Nat) (t : Nat) (v : Nat)
  /-- `ROGUE_HELD_CLEAR` (R175). Software releases a terminal held by isolation. -/
  | rogueHeldClear (cx : Cx) (z : Nat) (t : Nat)
  /-- `STATE_WRITE` (R177). A software write of STATE is judged against the device's value. -/
  | stateWrite (cx : Cx) (z : Nat) (t : Nat) (v : Nat)
  /-- `PWR_CMD` (R172). Sends Change_Power_Level to a terminal. -/
  | pwrCmd (cx : Cx) (z : Nat) (t : Nat) (v : Nat)
  /-- `RSSI_REQ` (R172). Requests an RSSI pulse on the terminal's next burst. -/
  | rssiReq (cx : Cx) (z : Nat) (t : Nat)
  /-- `REREG` (R157). Sends Request_Registration. -/
  | rereg (cx : Cx) (z : Nat) (t : Nat)
  /-- `ROGUE_WATCH_END` (R175). A watch of ROGUE_WATCH frames ends and the isolation test moves on. -/
  | rogueWatchEnd (z : Nat)
  /-- `BURST_PROFILE` (R146). A tail port takes a Burst_Profile message. -/
  | burstProfile (p : Nat) (preamble : Nat)
  /-- `ASSIGN_ONU_ID` (R146). A tail port takes its ONU-ID. -/
  | assignOnuId (p : Nat) (id : Nat) (vendor : Nat) (number : Nat)
  /-- `RANGING_TIME` (R146). A tail port takes its equalisation delay. -/
  | rangingTime (p : Nat) (id : Nat) (eqd : Nat)
  /-- `DEACTIVATE_ONU_ID` (R148). A tail port forgets its identity. -/
  | deactivateOnuId (p : Nat) (id : Nat)
  /-- `DISABLE_SERIAL_NUMBER` (R148). A tail port is silenced or enabled. -/
  | disableSerialNumber (p : Nat) (vendor : Nat) (number : Nat) (enable : Bool)
  /-- `KEY_CONTROL` (R144). A tail port consumes a Key_Control message. -/
  | keyControl (p : Nat) (id : Nat) (index : Nat)
  /-- `CHANGE_POWER_LEVEL` (R144). A tail port consumes a Change_Power_Level message. -/
  | changePowerLevel (p : Nat) (id : Nat)
  /-- `PAIR_SEL` (R232). The system program selects the pairing mode, which starts stage time or pair forming. -/
  | pairSel (cx : Cx) (m : Nat)
  /-- `ALIGNMENT_PROBE` (R237). A round-trip alignment measurement with the twin. -/
  | alignmentProbe (p : Probe)
  /-- `PAIR_WAIT_EXPIRY` (R234). No probe is answered within PAIR_WAIT, and stage time starts alone. -/
  | pairWaitExpiry
  /-- `CUE_LIGHT_FRAME_TX` (R238). A cue light frame and its claim copy are sent. -/
  | cueLightFrameTx
  /-- `CUE_LIGHT_FRAME_RX` (R241). A cue light frame or claim copy is received and judged. -/
  | cueLightFrameRx (r : RxFrame)
  /-- `TWIN_CLAIM_LOST` (R242). Neither carrier has been current for 24 µs. -/
  | twinClaimLost
  /-- `SEALED_SHEET_RX` (R256). The understudy receives the active unit's sheet and burst summary and compares them. -/
  | sealedSheetRx (z : Nat) (m : SheetMsg)
  /-- `SHEET_MISSING` (R256). A sheet has not arrived 20 µs after F_{k+1}. -/
  | sheetMissing (z : Nat)
  /-- `VERIFICATION_END` (R259). N_verify frames pass without a delimiter, and the take-over fails. -/
  | verificationEnd (z : Nat)
  /-- `TKO_FAIL` (R261). Software clears the take-over-failed penalty. -/
  | tkoFail (cx : Cx) (z : Nat)
  /-- `WTR_EXPIRY` (R262). Wait-to-restore runs out, and a dark rehearsal is requested. -/
  | wtrExpiry (z : Nat)
  /-- `MIRRORED_WRITE` (R266). A mirrored or shared-object write arrives and is applied on the twin copy. -/
  | mirroredWrite (seq : Nat) (m : MirrorOp)
  /-- `REMOTE_ACCESS` (R40). An access with bit 39 set arrives from the twin and is judged. -/
  | remoteAccess (cx : Cx) (kind : CtxKind) (tenant : Nat) (op : RemoteOp)
  /-- `MIRROR_RESYNC` (R267). The pair forms or the lanes return, and shared state is copied. -/
  | mirrorResync (ms : List MirrorOp)
  /-- `HOLDER` (R268). A write of HOLDER is judged against the footlight state. -/
  | holder (cx : Cx) (z : Nat) (v : Nat)
  /-- `SIEVE_PACKET` (R271). A packet enters the sieve, is parsed and classified, and its action is carried out. -/
  | sievePacket (p : Packet)
  /-- `RECIRC_PASS` (R292). A recirculated packet leaves the queue and starts its next pass. -/
  | recircPass
  /-- `PUNT_INJECT` (R273). A context injects a packet on channel 5. -/
  | puntInject (cx : Cx) (action : Word) (bytes : List Nat) (full : Full)
  /-- `PARITY_SCRUB` (R287). A background scrub reads a classifier row. -/
  | parityScrub (bank : Nat) (row : Nat) (bad : Bool)
  /-- `SPARE_BANK_SWITCH` (R286). A spare bank takes over a logical bank. -/
  | spareBankSwitch (bank : Nat) (phys : Nat)
  /-- `LEARN` (R326). The insert engine publishes a queued learn. -/
  | learn
  /-- `RAKE_VISIT` (R329). The rake visits a bucket and ages its entries. -/
  | rakeVisit (bucket : Nat) (bad : List Nat) (twin : List Nat)
  /-- `QUEUE_SEND` (R336). A shaper node picks a child and sends a frame. -/
  | queueSend (z : Nat)
  /-- `OWNER` (R355). A store that rewrites a buffer's owner word. -/
  | owner (cx : Cx) (ref : Nat) (v : Nat)
  /-- `BUF_OPEN` (R347). Fixes the pool partition and enables allocation. -/
  | bufOpen (cx : Cx)
  /-- `CIPHER_REQUEST` (R371). A request enters the cipher queue and is bound, held or refused. -/
  | cipherRequest (u : CUser)
  /-- `CIPHER_REQUEST_DONE` (R371). A request completes and leaves INFLIGHT. -/
  | cipherRequestDone (u : CUser) (n : Nat) (ok : Bool)
  /-- `REKEY` (R378). Starts a terminal re-key with Key_Control. -/
  | rekey (cx : Cx) (z : Nat) (t : Nat)
  /-- `KEY_REPORT` (R378). The Key_Report is decrypted and the successors are loaded. -/
  | keyReport (z : Nat) (t : Nat) (idx : Nat) (frags : List Nat)
  /-- `REKEY_TIMEOUT` (R378). Key_Report does not arrive within 100 ms. -/
  | rekeyTimeout (z : Nat) (t : Nat)
  /-- `CGO` (R385). Starts a context cipher request. -/
  | cgo (cx : Cx)
  /-- `ENTROPY_SAMPLE` (R390). An entropy sample is tested. -/
  | entropySample (ok : Bool)
  /-- `OFS_IN` (R404). Commits an offset to a PTP domain. -/
  | ofsIn (cx : Cx) (d : Nat) (v : Nat)
  /-- `STEP_APPLY` (R406). Applies a pending step to a domain. -/
  | stepApply (cx : Cx) (d : Nat)
  /-- `STEP_DROP` (R406). Discards a pending step. -/
  | stepDrop (cx : Cx) (d : Nat)
  /-- `SWITCH` (R408). Commanded switch of the output domain. -/
  | switch (cx : Cx) (d : Nat)
  /-- `HOLD_ENTRY_EXPIRY` (R407). A domain loses its master, which may switch the output automatically. -/
  | holdEntryExpiry (d : Nat)
  /-- `PTP_TIMESTAMP` (R401). A PTP event message is timestamped, or written one-step. -/
  | ptpTimestamp (m : PtpFrame)
  /-- `TS_POP` (R411). Removes the oldest timestamp record. -/
  | tsPop (cx : Cx) (q : Nat) (r : Nat) (v : Nat)
  /-- `SNAP` (R412). Latches a time snapshot. -/
  | snap (cx : Cx)
  /-- `TOD_SF_LO` (R413). Arms the time-of-day latch and predicts the time. -/
  | todSfLo (cx : Cx) (z : Nat) (v : Nat)
  /-- `TOD_LATCHED` (R413). Superframe N passes the ball and the actual time is latched. -/
  | todLatched (z : Nat)
  /-- `PPS_IN` (R416). A PPS_IN edge is latched and may give an offset. -/
  | ppsIn
  /-- `PPS_OUT_EDGE` (R415). PPS_OUT rises at a whole second of output time. -/
  | ppsOutEdge
  /-- `STAGE_WRAP` (R394). Stage time wraps and STAGE_WRAPS increments. -/
  | stageWrap
  /-- `UL_MODE` (R420). Sets an uplink port's mode and retrains its lanes. -/
  | ulMode (cx : Cx) (u : Nat) (m : Nat)
  /-- `UL_EN` (R422). Enables or disables an uplink port. -/
  | ulEn (cx : Cx) (u : Nat) (v : Nat)
  /-- `AUTO_NEGOTIATION_DONE` (R421). Auto-negotiation resolves and brings the link up or fails. -/
  | autoNegotiationDone (u : Nat) (resolved : LinkMode)
  /-- `UL_LINK` (R422). LINK_UP of an uplink changes. -/
  | ulLink (u : Nat) (up : Bool) (remote : Bool)
  /-- `ALIGNMENT_MARKER` (R427). A twin marker row is received and the transmit set is updated. -/
  | alignmentMarker (ms : List Marker)
  /-- `TWIN_REFORM` (R428). A set lane loses lock and the direction is re-formed. -/
  | twinReform (l : Nat) (block : Bool)
  /-- `TW_RESTORE_EXPIRY` (R427). A lane stays usable for TW_RESTORE and is added. -/
  | twRestoreExpiry (l : Nat)
  /-- `TWIN_MESSAGE_RX` (R429). A twin-lane message completes and is checked. -/
  | twinMessageRx (rx : TwinRx) (m : TwinMsg)
  /-- `TWIN_RETRANSMIT` (R429). A class 4 or 5 message goes unacknowledged for 20 µs. -/
  | twinRetransmit (seq : Nat)
  /-- `EQ_UPDATE` (R431). The adaptive equaliser updates a lane. -/
  | eqUpdate (l : Nat) (ctle : Int) (taps : TapWish)
  /-- `PRBS_START` (R432). Starts the PRBS generator or checker of a lane. -/
  | prbsStart (cx : Cx) (l : Nat) (checker : Bool) (v : Nat)
  /-- `PWR_TX_RX` (R434). Sets a lane side's power state. -/
  | pwrTxRx (cx : Cx) (l : Nat) (tx : Nat) (rx : Nat)
  /-- `LANE_DEFECT_EVAL` (R433). A lane's SD or SF sets or clears at the end of its interval. -/
  | laneDefectEval (l : Nat) (o : LaneObs)
  /-- `MEM_OPEN` (R436). Fixes the memory configuration and region layout. -/
  | memOpen (cx : Cx)
  /-- `PATROL_SCRUB` (R439). The patrol scrub reads and repairs a unit. -/
  | patrolScrub (unit : Nat) (outcome : Nat)
  /-- `THRESHOLD_SAMPLE` (R460). A threshold counter compares its signal with TH_N. -/
  | thresholdSample (j : Nat)
  /-- `EVENT_WINDOW_CLOSE` (R530). A rate-limit window closes and a summary event is raised. -/
  | eventWindowClose (code : Nat) (key : Nat)
  /-- `EVENT_DELIVER` (R469). The collector delivers a record to the rings and the history. -/
  | eventDeliver
  /-- `TR_FREEZE` (R470). Freezes a core's branch trace. -/
  | trFreeze (cx : Cx) (core : Nat)
  /-- `TR_CLEAR` (R470). Empties and unfreezes a trace. -/
  | trClear (cx : Cx) (core : Nat)
  /-- `SLICE_START` (R478). Rehearsal starts a slice once its condition holds. -/
  | sliceStart (e : Nat) (t : SliceTarget)
  /-- `SLICE_END` (R479). A slice ends and is judged. -/
  | sliceEnd (e : Nat) (os : List SegObs) (whole : Bool)
  /-- `SLICE_YIELD` (R483). A slice yields to service at a safe point and completes INCOMPLETE. -/
  | sliceYield (e : Nat)
  /-- `DARK_GO` (R486). Requests dark rehearsal of a port. -/
  | darkGo (cx : Cx) (z : Nat)
  /-- `LC_REQ` (R474). Requests a life-cycle step with the written token. -/
  | lcReq (cx : Cx)
  /-- `LC_GO` (R475). Checks the token and burns the life-cycle fuses. -/
  | lcGo (cx : Cx)
  /-- `MFG_TEST` (R488). Hands the device to manufacturing test. -/
  | mfgTest (cx : Cx)
  /-- `EXTEST` (R476). Boundary-scan EXTEST takes the balls and resets the device. -/
  | extest (b : Boot)
  /-- `TRST_N` (R522). Resets only the boundary-scan logic. -/
  | trstN
  /-- `POWER_UP` (R508). VIN becomes valid and power-up and boot run. -/
  | powerUp (powerOn : Bool) (b : Boot)
  /-- `BOOT_READY` (R508). The system program sets READY. -/
  | bootReady
  /-- `DIP_START` (R495). VIN falls below VIN_WARN and the dip penalty applies. -/
  | dipStart (vin : Nat)
  /-- `SUPPLY_DIP` (R495). The dip ends in service and its hold begins. -/
  | supplyDip (low : Nat) (vin : Nat) (us : Nat)
  /-- `DIP_HOLD_EXPIRY` (R495). The dip hold runs out and the penalty clears. -/
  | dipHoldExpiry
  /-- `VIN_RESET` (R490). VIN falls below 1.55 V and the device resets. -/
  | vinReset (low : Nat)
  /-- `SUPPLY_OV_WARN` (R497). VIN crosses the over-voltage warning level. -/
  | supplyOvWarn (vin : Nat)
  /-- `OVER_VOLTAGE_SHUTDOWN` (R497). VIN above 3.95 V turns the regulators off and resets. -/
  | overVoltageShutdown (vin : Nat)
  /-- `RAIL_OUT_OF_REGULATION` (R493). A rail leaves its window for 2 µs and the device resets. -/
  | railOutOfRegulation (r : Nat) (mv : Nat)
  /-- `RAIL_CRITICAL` (R493). A rail becomes critical or clears. -/
  | railCritical (r : Nat) (mv : Nat) (critical : Bool)
  /-- `THERMAL_WARN` (R498). TEMP_MAX crosses TJ_WARN. -/
  | thermalWarn (temp : Int) (sensor : Nat)
  /-- `THERMAL_SHUTDOWN` (R498). The junction reaches the shutdown level and the device resets. -/
  | thermalShutdown (temp : Int)
  /-- `AVS_UPDATE` (R499). The adaptive voltage loop moves VCORE. -/
  | avsUpdate (o : AvsObs)
  /-- `ROOT_PLL_UNLOCK` (R503). The root PLL loses lock and the device resets. -/
  | rootPllUnlock
  /-- `FRACTIONAL_PLL_UNLOCK` (R503). A fractional PLL loses lock and squelches its transmitter. -/
  | fractionalPllUnlock (j : Nat)
  /-- `RESET_N` (R522). RESET_N is held low for 1 µs and the device resets. -/
  | resetN
  /-- `WATCHDOG_EXPIRY` (R507). The watchdog period runs out and the device resets. -/
  | watchdogExpiry (b : Boot)
  /-- `WDOG_KICK` (R507). Restarts the watchdog period. -/
  | wdogKick (cx : Cx) (v : Nat)
  /-- `ROLLBACK_BURN` (R511). Burns the running version as the fused minimum. -/
  | rollbackBurn (cx : Cx)
  /-- `UPLINK_FRAME_SEND` (R341). An uplink port serves its 8 egress queues in strict order 7 to 0 and sends a frame, freeing its buffer under R354. -/
  | uplinkFrameSend (u : Nat)
  /-- `PCIE_LINK_UP` (R115). The PCIe link comes up again, LINK_UP and its rate and width follow, and the host-side reset completes within 10 ms. -/
  | pcieLinkUp (gts : Nat) (width : Nat)
  /-- `ROOT_PLL_LOCK` (R503). The root PLL regains lock and a device held in reset for cause 7 leaves reset at step 4 of power-up. -/
  | rootPllLock (b : Boot)
  /-- `FRACTIONAL_PLL_LOCK` (R503). A fractional PLL regains lock, its PLL_STAT bit clears and its transmit side is no longer squelched. -/
  | fractionalPllLock (j : Nat)
  /-- `RESET_N_RELEASE` (R506). RESET_N goes high after holding the device in reset, and power-up starts at its fourth step. -/
  | resetNRelease (b : Boot)
  /-- `THERMAL_SHUTDOWN_RELEASE` (R498). TEMP_MAX falls 15 °C below the shutdown level and the device leaves its thermal reset hold at step 4 of power-up. -/
  | thermalShutdownRelease (temp : Int) (b : Boot)
  /-- `CUE_LINK` (R241). The cue light receiver misses its fourth consecutive expected SYNC pattern, loses frame lock and raises CUE_LINK. -/
  | cueLink
  /-- `COVERAGE_CYCLE_LATE` (R485). A rehearsal coverage cycle runs past 20 minutes and CYCLE_LATE sets. -/
  | coverageCycleLate
  /-- `ISSUE` (R74). ISSUE with an undefined descriptor TYPE or a LEN of 0 either faults at once or returns a ticket that completes FAULT subcause 0x01. -/
  | issue (cx : Cx) (f : Fields) (tw : Option TwinReply)
deriving DecidableEq, Repr

end Sys2Proof
end

