-- ==== Sys2Proof/Decode.lean ====
section
/-! DEFINITION. The encoding of Erten instructions (R63, R65), and the host's `decodeTableWord`: the opcode table gives its rows
no bits, so no word of it spells a command. -/

namespace Sys2Proof

/-- The instruction word of an opcode and its fields (R63). -/
def ertenWord (op : Nat) (f : Fields) : Word :=
  BitVec.ofNat 7 op ++ f.wd ++ f.wa ++ f.wb ++ f.imm

/-- The 18-bit immediate, sign-extended. -/
def Fields.sext (f : Fields) : Word := f.imm.signExtend 40
/-- The 18-bit immediate, zero-extended. -/
def Fields.zext (f : Fields) : Word := f.imm.setWidth 40
/-- The third source register of format C. -/
def Fields.wc (f : Fields) : Nat := f.imm.toNat / 8192
/-- The 13-bit immediate of format C. -/
def Fields.imm13 (f : Fields) : Nat := f.imm.toNat % 8192
/-- The 13-bit immediate, sign-extended. -/
def Fields.sext13 (f : Fields) : Word := (f.imm.setWidth 13).signExtend 40

/-! ### Erten words

A word of an image names a command of its context by its opcode. `ISSUE` names one of fourteen rows by the descriptor it points at, and so has no place here. -/

/-- Opcodes of the arithmetic, constant and comparison instructions (R65). -/
def opsAlu : List (Nat × (Cx → Fields → Instr)) := [
  (0x01, .add), (0x02, .sub), (0x03, .andR), (0x04, .orR), (0x05, .xorR), (0x06, .shl),
  (0x07, .shr), (0x08, .sar), (0x09, .mul), (0x0A, .mulhu), (0x0B, .divu), (0x0C, .remu),
  (0x0D, .slt), (0x0E, .sltu), (0x0F, .saft), (0x10, .minu), (0x11, .maxu), (0x12, .clz),
  (0x13, .popc), (0x18, .addi), (0x19, .andi), (0x1A, .ori), (0x1B, .xori), (0x1C, .shli),
  (0x1D, .shri), (0x1E, .sari), (0x1F, .slti), (0x20, .li), (0x21, .lim)]

/-- Opcodes of the branches (R65). -/
def opsBranch : List (Nat × (Cx → Fields → Instr)) := [
  (0x28, .beq), (0x29, .bne), (0x2A, .blt), (0x2B, .bge), (0x2C, .bltu), (0x2D, .bgeu),
  (0x2E, .baft), (0x2F, .bnaft), (0x30, .j), (0x31, .call), (0x32, .jr), (0x33, .callr)]

/-- Opcodes of the memory, ordering, time, prompter and system instructions (R65). -/
def opsOther : List (Nat × (Cx → Fields → Instr)) := [
  (0x38, .ld), (0x39, .st), (0x3A, .old), (0x3B, .ost), (0x3C, .oadd), (0x3D, .oswap),
  (0x3E, .oset), (0x3F, .oclr), (0x40, .ocas), (0x49, .wait), (0x4A, .poll), (0x4B, .order),
  (0x4C, .fence), (0x50, .now), (0x51, .waitUntil), (0x58, .grant), (0x59, .quiet), (0x5A, .seal),
  (0x5B, .standing), (0x5C, .reportGet), (0x60, .yield), (0x61, .trap)]

/-- The opcode table of Erten (R65) without `ISSUE`. -/
def opTable : List (Nat × (Cx → Fields → Instr)) := opsAlu ++ opsBranch ++ opsOther

/-- The fields of an instruction word (R63). -/
def wordFields (w : Word) : Fields :=
  { wd := w.extractLsb' 28 5, wa := w.extractLsb' 23 5, wb := w.extractLsb' 18 5, imm := w.extractLsb' 0 18 }

/-- The opcode of an instruction word. -/
def wordOp (w : Word) : Nat := (w.extractLsb' 33 7).toNat

/-- The command that an Erten word is in a context; none for an opcode the table does not give, and for `ISSUE`. -/
def decodeErten (cx : Cx) (w : Word) : Option Instr :=
  match opTable.find? (fun x => x.1 == wordOp w) with
  | some x => some (x.2 cx (wordFields w))
  | none => none

/-- The opcode, context and fields of a command that is an Erten instruction; none for every other command. -/
def ertenOf : Instr → Option (Nat × Cx × Fields)
  | .add cx f => some (0x01, cx, f)
  | .sub cx f => some (0x02, cx, f)
  | .andR cx f => some (0x03, cx, f)
  | .orR cx f => some (0x04, cx, f)
  | .xorR cx f => some (0x05, cx, f)
  | .shl cx f => some (0x06, cx, f)
  | .shr cx f => some (0x07, cx, f)
  | .sar cx f => some (0x08, cx, f)
  | .mul cx f => some (0x09, cx, f)
  | .mulhu cx f => some (0x0A, cx, f)
  | .divu cx f => some (0x0B, cx, f)
  | .remu cx f => some (0x0C, cx, f)
  | .slt cx f => some (0x0D, cx, f)
  | .sltu cx f => some (0x0E, cx, f)
  | .saft cx f => some (0x0F, cx, f)
  | .minu cx f => some (0x10, cx, f)
  | .maxu cx f => some (0x11, cx, f)
  | .clz cx f => some (0x12, cx, f)
  | .popc cx f => some (0x13, cx, f)
  | .addi cx f => some (0x18, cx, f)
  | .andi cx f => some (0x19, cx, f)
  | .ori cx f => some (0x1A, cx, f)
  | .xori cx f => some (0x1B, cx, f)
  | .shli cx f => some (0x1C, cx, f)
  | .shri cx f => some (0x1D, cx, f)
  | .sari cx f => some (0x1E, cx, f)
  | .slti cx f => some (0x1F, cx, f)
  | .li cx f => some (0x20, cx, f)
  | .lim cx f => some (0x21, cx, f)
  | .beq cx f => some (0x28, cx, f)
  | .bne cx f => some (0x29, cx, f)
  | .blt cx f => some (0x2A, cx, f)
  | .bge cx f => some (0x2B, cx, f)
  | .bltu cx f => some (0x2C, cx, f)
  | .bgeu cx f => some (0x2D, cx, f)
  | .baft cx f => some (0x2E, cx, f)
  | .bnaft cx f => some (0x2F, cx, f)
  | .j cx f => some (0x30, cx, f)
  | .call cx f => some (0x31, cx, f)
  | .jr cx f => some (0x32, cx, f)
  | .callr cx f => some (0x33, cx, f)
  | .ld cx f => some (0x38, cx, f)
  | .st cx f => some (0x39, cx, f)
  | .old cx f => some (0x3A, cx, f)
  | .ost cx f => some (0x3B, cx, f)
  | .oadd cx f => some (0x3C, cx, f)
  | .oswap cx f => some (0x3D, cx, f)
  | .oset cx f => some (0x3E, cx, f)
  | .oclr cx f => some (0x3F, cx, f)
  | .ocas cx f => some (0x40, cx, f)
  | .wait cx f => some (0x49, cx, f)
  | .poll cx f => some (0x4A, cx, f)
  | .order cx f => some (0x4B, cx, f)
  | .fence cx f => some (0x4C, cx, f)
  | .now cx f => some (0x50, cx, f)
  | .waitUntil cx f => some (0x51, cx, f)
  | .grant cx f => some (0x58, cx, f)
  | .quiet cx f => some (0x59, cx, f)
  | .seal cx f => some (0x5A, cx, f)
  | .standing cx f => some (0x5B, cx, f)
  | .reportGet cx f => some (0x5C, cx, f)
  | .yield cx f => some (0x60, cx, f)
  | .trap cx f => some (0x61, cx, f)
  | _ => none

/-- The word of a command that is an Erten instruction. -/
def encodeErten (i : Instr) : Option Word := (ertenOf i).map (fun x => ertenWord x.1 x.2.2)

/-- The command that a word spells by the bits of the opcode table: the table gives no row any bits, so no word spells one. -/
def decodeTableWord (_nbits _w : Nat) : Option Instr := none

end Sys2Proof
end

