-- ==== Sys2Proof/Config.lean ====
section
/-! DEFINITION. The free values: what the spec, or a standard it names, decides and this model leaves open.
Each is a constant with no body, so nothing can be proved of a value of it. -/

namespace Sys2Proof.Config

/-- A choice the spec leaves to the device: which free ticket entry `ISSUE` takes (R41), which buffer a pool gives,
which handle a resident image gets. Applied to the counter `State.freeCtr` (log 3). -/
opaque choice : Nat → Nat

/-- A word the spec says the device writes without saying which: `EADDR` where no address is concerned, `EINSTR` where no
instruction word was fetched (R49). Applied to the counter `State.freeCtr` (log 3). -/
opaque freeWord : Nat → Word

/-- SHA-384 of a list of bytes, as a number; the algorithm is the standard's, not the spec's (R61) (log 4). -/
opaque sha384 : List Nat → Nat

/-- Whether an ECDSA P-384 signature verifies: public key, signature, signed bytes (R61, R474) (log 4). -/
opaque ecdsaOk : Nat → Nat → List Nat → Bool

/-- RFC 3394 unwrap: the wrapping key, the wrapped bytes; the key, or none where the integrity check fails (R367) (log 4). -/
opaque unwrap : Nat → List Nat → Option Nat

/-- AES as a context request uses it: mode of R365, decrypt or verify, key, nonce, leading bytes authenticated only, source bytes; byte `i` of what is written at
`DST`, or none where a tag does not verify (R385, R386) (log 4). -/
opaque aes : Nat → Bool → Nat → Nat → Nat → List Nat → Option (Nat → Nat)

/-- A frame as it leaves encrypted: mode of R365, key, count, bytes (R130, R380, R391) (log 4). -/
opaque sealedFrame : Nat → Nat → Nat → List Nat → List Nat

/-- A received frame as it is decrypted: mode of R365, key, packet number, the bytes received (R376, R386) (log 4). -/
opaque openedFrame : Nat → Nat → Nat → List Nat → List Nat

/-- A key reported by a terminal, decrypted under the key of its `TKEK_SLOT` (R378) (log 4). -/
opaque reportedKey : Nat → List Nat → Nat

/-- The wrapping key in the device's fuses, under which slot 0 is unwrapped (R368) (log 4). -/
opaque fusedKey : Nat

/-- The key hash in the device's fuses, which SHA-384 of a root public key must equal (R61, R474, R511) (log 4). -/
opaque rootHash : Nat

/-- Hash function number `h` (0 or 1) of the forwarding table on a key of two words: a bucket, reduced modulo 262,144 (R319) (log 4). -/
opaque bucketHash : Nat → Nat → Nat → Nat

/-- What a word of external memory reads as before it is written: undefined after any reset (R494). Arguments: the resets so far, the byte address (log 5). -/
opaque memInit : Nat → Nat → Word

/-- The value of `RAND` at a sample of the entropy source (R390), by sample number (log 4). -/
opaque rand : Nat → BitVec 32

/-- The external segments of a stagehand's system context, by core: segment, first granule of the usable capacity, granules. The system program lays them out, and the
spec says no more than that they are there, and that they reach every region (R34, R35, R441) (log 109). -/
opaque systemSegs : Nat → List (Nat × Nat × Nat)

end Sys2Proof.Config
end

