-- ==== Sys2Proof/Machine/RegTypes.lean ====
section
/-! DEFINITION. What an object map says of a field (R7, R8): where it lies, its width, its access code, its reset value. -/

namespace Sys2Proof.Machine

/-- The access codes of R7. -/
inductive Acc where
  | ro | rw | wo | w1c | rc
deriving DecidableEq, Repr

/-- One index of an object map's offset: `stride·i` for `lo ≤ i ≤ hi`, or a queue node, whose two indexes are its level
(1–4) and its number, at the level's own base (R344). -/
inductive Dim where
  | s (stride lo hi : Nat)
  | lvl
deriving DecidableEq, Repr

/-- The reset value of a field: a constant, the value of an index, a table over an index, or a value that the straps,
the fuses or the port's mode family decide. -/
inductive Rst where
  | k (n : Nat)
  | idx (d : Nat)
  | tab (d : Nat) (vals : List Nat) (other : Nat)
  | allocId | allocTerm | home | lanePower | tjWarn | portDefault | order
deriving DecidableEq, Repr

/-- What a write of the field does besides storing it; `none` for a plain field. Each tag names the fields that carry it. -/
inductive Act where
  | none
  | tenEn  -- Aut.EN
  | tenVf  -- Aut.VF
  | minVersion  -- Aut.MIN_VERSION
  | selfRes0  -- Hst.SELF_RES0
  | selfRes1  -- Hst.SELF_RES1
  | selfEnd  -- Hst.SELF_END
  | portWord  -- Pon.MODE, Pon.UP_RATE, Pon.ROLE, Pon.BOND
  | light  -- Pon.LIGHT
  | preset  -- Pon.GAIN, Pon.THR, Pon.PHASE, Pon.VALID, Pon.EQ_SEED
  | limits  -- Pon.SD_LIM, Pon.SF_LIM
  | i2cGo  -- Pon.I2C_GO
  | rngLimits  -- Rng.EQD_ZERO, Rng.L_MIN, Rng.L_MAX
  | admin  -- Rng.ADMIN
  | state  -- Rng.STATE
  | disable  -- Rng.DISABLE
  | rogueHeld  -- Rng.ROGUE_HELD
  | pwrCmd  -- Rng.PWR_CMD
  | rereg  -- Rng.REREG
  | serial  -- Rng.SN_HI, Rng.SN_LO
  | mapLead  -- Cue.MAP_LEAD
  | sealLead  -- Cue.SEAL_LEAD
  | gateCycle  -- Cue.GATE_CYCLE
  | allocId  -- Cue.ALLOC_ID
  | allocEn  -- Cue.EN
  | pairSel  -- Twn.PAIR_SEL
  | holderW  -- Twn.HOLDER
  | tkoFail  -- Twn.TKO_FAIL
  | deltaCfg  -- Twn.DELTA_CFG
  | mirrorDest  -- Sve.M_DEST
  | mirrorTrunc  -- Sve.M_TRUNC
  | flow  -- Fwd.FLOW_ID, Fwd.F_EN, Fwd.TENANT
  | flowQueue  -- Fwd.QUEUE
  | upPol  -- Fwd.UP_POL
  | dnPol  -- Fwd.DN_POL
  | upDest  -- Fwd.UP_DEST
  | dnDest  -- Fwd.DN_DEST
  | bcGroup  -- Fwd.BC_GROUP
  | group  -- Fwd.G_BASE, Fwd.G_COUNT, Fwd.G_TENANT
  | member  -- Fwd.M_DEST
  | pir  -- Fwd.PIR
  | node_  -- Que.MIN, Que.MAX, Que.MIN_DEPTH, Que.MAX_DEPTH, Que.N_EN
  | parent  -- Que.PARENT
  | yLimit  -- Que.YLIMIT
  | bufOpen  -- Buf.BUF_OPEN
  | gran  -- Buf.GRAN
  | eUnits  -- Buf.E_UNITS
  | marks  -- Buf.WM_LOW, Buf.WM_HIGH
  | owner  -- Buf.OWNER
  | shares  -- Buf.SHARES
  | scaOff  -- Key.SCA_OFF
  | keyTenant  -- Key.TENANT
  | bindTerm  -- Key.DN_SLOT, Key.UP_SLOT, Key.MIC_SLOT, Key.TKEK_SLOT
  | bindRx  -- Key.RX_SLOT
  | bindTx  -- Key.BC_SLOT, Key.TX_SLOT
  | rekeyGo  -- Key.REKEY
  | creqWord  -- Key.CREQ
  | cgo  -- Key.CGO
  | ofsIn  -- Tim.OFS_IN
  | stepApply  -- Tim.STEP_APPLY
  | stepDrop  -- Tim.STEP_DROP
  | switchD  -- Tim.SWITCH
  | tsPop  -- Tim.TS_POP
  | snap  -- Tim.SNAP
  | tod  -- Tim.TOD_SF_LO
  | slewPpm  -- Tim.SLEW_PPM
  | ulMode  -- Lan.UL_MODE
  | ulEn  -- Lan.UL_EN
  | fecMode  -- Lan.FEC_SEL
  | power  -- Lan.PWR_TX, Lan.PWR_RX
  | ctle  -- Lan.CTLE_MIN, Lan.CTLE_MAX
  | exps  -- Lan.SF_EXP, Lan.SD_EXP
  | prbsGen  -- Lan.PRBS_GEN
  | prbsChk  -- Lan.PRBS_CHK
  | prbsInv  -- Lan.PRBS_INV
  | ppsEn  -- Tim.PPS_EN
  | twLanes  -- Lan.TW_LANE_EN, Lan.TW_DROP_SD, Lan.TW_MIN_LANES
  | memCfg  -- Mem.MEM_MTS, Mem.CH_GIB, Mem.RANKS, Mem.PB_GIB
  | memOpen  -- Mem.MEM_OPEN
  | pbTerm  -- Mem.PB_TERM
  | cntTenant  -- Cnt.TENANT
  | threshold  -- Cnt.TH_INDEX, Cnt.TH_KIND
  | thEn  -- Cnt.TH_EN
  | evBucket  -- Cnt.EV_TENANT_RATE, Cnt.EV_TENANT_BURST
  | trMode  -- Cnt.TR_MODE
  | eRate  -- Buf.E_RATE
  | anEn  -- Lan.AN_EN
  | txTap  -- Lan.TX_PRE, Lan.TX_MAIN, Lan.TX_POST
  | evMask  -- Cnt.EV_MASK
  | trFreeze  -- Cnt.TR_FREEZE
  | trClear  -- Cnt.TR_CLEAR
  | lcReq  -- Reh.LC_REQ
  | lcGo  -- Reh.LC_GO
  | lcToken  -- Reh.LC_TOKEN
  | mfgTest  -- Reh.MFG_TEST
  | darkGo  -- Reh.DARK_GO
  | vcore  -- Pwr.VCORE_MIN, Pwr.VCORE_MAX
  | wdogEn  -- Pwr.WDOG_EN
  | wdogKick  -- Pwr.WDOG_KICK
  | rollbackBurn  -- Pwr.ROLLBACK_BURN
deriving DecidableEq, Repr

/-- How a read finds a field: `stored` where its value is held, else what it is computed from (Machine/Views.lean). -/
inductive View where
  | stored
  | ticketsHeld
  | ctxRunning
  | ticketFree
  | ticketLow
  | freeMin
  | selfRes0
  | selfRes1
  | selfFunc
  | selfTenant
  | selfTag
  | sqHeadF
  | cqTailF
  | cqStallF
  | changeOk
  | profileLong
  | guard
  | profileShort
  | discW
  | rangeW
  | dPre
  | stAlloc
  | stValid
  | stPeriod
  | stPhase
  | stLong
  | stStart
  | stSize
  | stateWin
  | pdata
  | wingsFree
  | unit
  | pairOk
  | eligible
  | prioAdv
  | wtrLeft
  | holder
  | holdCur
  | holdPrev
  | rowsFree
  | node
  | arc
  | profile
  | start
  | rulePrio
  | ruleWidth
  | ruleTenant
  | ruleBank
  | ruleRow
  | rulePresent
  | inCur
  | inPrev
  | inStaged
  | ruleCnt
  | ruleCntEn
  | ruleAction
  | ruleValue
  | ruleMask
  | pattern
  | macCount
  | eKey0
  | eKey1
  | eData
  | eGen
  | ePresent
  | eParity
  | eBucket
  | eWay
  | qDepth
  | bufOwner
  | bufTenant
  | bufInUse
  | bufHwDone
  | bufTesting
  | bufShares
  | bufGen
  | rand
  | randValid
  | creq
  | cstat
  | stageNow
  | stageWraps
  | carry
  | snStage
  | snNs
  | snSec
  | snSecHi
  | snEpoch
  | snOutDom
  | fecSel
  | inTxSet
  | inRxSet
  | segWord
  | pbBase
  | segBase
  | segFree
  | mixed
  | dipHoldLeft
  | bootTime
  | railMa
  | thAbove
deriving DecidableEq, Repr

/-- A named field of an object map. `op` marks an operator field (R27); `vmin`–`vmax` is the range of values the map
defines (R8); `sel` is 1 for fields of uplink lanes only, 2 for fields of twin lanes only (R435). -/
structure Field where
  blk : Nat
  base : Nat
  dims : List Dim
  lo : Nat
  w : Nat
  acc : Acc
  rst : Rst := .k 0
  op : Bool := false
  vmin : Nat := 0
  vmax : Nat := 2 ^ w - 1
  act : Act := .none
  view : View := .stored
  sel : Nat := 0
deriving DecidableEq, Repr

end Sys2Proof.Machine
end

