-- ==== Sys2Proof/Machine/RegCue.lean ====
section
/-! DEFINITION. The object map of cue sheets and prompters (0x02) and the twin (0x0A): one constant per named field, transcribed from the map tables of spec/. -/

namespace Sys2Proof.Machine.Reg.Cue

/-- [1:0] RW (R212): M_z, 1 or 2 (R185) -/
def MAP_LEAD : Field :=
  { blk := 0x2, base := 0x0, dims := [.s 131072 0 63], lo := 0, w := 2, acc := .rw, op := true, vmin := 1, vmax := 2, act := .mapLead, rst := .k 1 }
/-- [8:2] RW (R212): t_seal in µs, 5–60 (R183) -/
def SEAL_LEAD : Field :=
  { blk := 0x2, base := 0x0, dims := [.s 131072 0 63], lo := 2, w := 7, acc := .rw, op := true, vmin := 5, vmax := 60, act := .sealLead, rst := .k 10 }
/-- [12:9] RW (R212): n, 1–8; EPON modes only, 1 in ITU modes (R182) -/
def GATE_CYCLE : Field :=
  { blk := 0x2, base := 0x0, dims := [.s 131072 0 63], lo := 9, w := 4, acc := .rw, op := true, vmin := 1, vmax := 8, act := .gateCycle, rst := .k 1 }
/-- [6:0] RO (R212): Core serving the tree; 0x7F none (R209) -/
def CORE : Field :=
  { blk := 0x2, base := 0x1, dims := [.s 131072 0 63], lo := 0, w := 7, acc := .ro, rst := .idx 0 }
/-- [7] RO (R212): Served by a wings pair -/
def SPARE : Field :=
  { blk := 0x2, base := 0x1, dims := [.s 131072 0 63], lo := 7, w := 1, acc := .ro }
/-- [8] RO (R212): Prompter halted (R51) -/
def HALTED : Field :=
  { blk := 0x2, base := 0x1, dims := [.s 131072 0 63], lo := 8, w := 1, acc := .ro }
/-- [9] RO (R212): Tail role or odd bonded port; no prompter runs -/
def IDLE_TREE : Field :=
  { blk := 0x2, base := 0x1, dims := [.s 131072 0 63], lo := 9, w := 1, acc := .ro }
/-- [10] RO (R212): A spare is being loaded (R207) -/
def LOADING : Field :=
  { blk := 0x2, base := 0x1, dims := [.s 131072 0 63], lo := 10, w := 1, acc := .ro }
/-- [11] RO (R212): An image is loaded for the tree (R210) -/
def LOADED : Field :=
  { blk := 0x2, base := 0x1, dims := [.s 131072 0 63], lo := 11, w := 1, acc := .ro }
/-- [39:0] RO (R212): Frame number of the present run (w1) -/
def FRAME : Field :=
  { blk := 0x2, base := 0x2, dims := [.s 131072 0 63], lo := 0, w := 40, acc := .ro }
/-- [39:0] RO (R212): F_k of the present frame -/
def F_START : Field :=
  { blk := 0x2, base := 0x3, dims := [.s 131072 0 63], lo := 0, w := 40, acc := .ro }
/-- [39:0] RO (R212): D_k of the present frame -/
def DEADLINE : Field :=
  { blk := 0x2, base := 0x4, dims := [.s 131072 0 63], lo := 0, w := 40, acc := .ro }
/-- [19:0] RO (R212): Budget in cycles (R183) -/
def BUDGET : Field :=
  { blk := 0x2, base := 0x5, dims := [.s 131072 0 63], lo := 0, w := 20, acc := .ro, rst := .k 88224 }
/-- [39:20] RO (R212): Declared cycles of the loaded image (R58) -/
def DECLARED : Field :=
  { blk := 0x2, base := 0x5, dims := [.s 131072 0 63], lo := 20, w := 20, acc := .ro }
/-- [19:0] RO (R212): Cycle after entry at which the last run sealed; 0xF_FFFF none -/
def SEAL_CYCLE : Field :=
  { blk := 0x2, base := 0x6, dims := [.s 131072 0 63], lo := 0, w := 20, acc := .ro, rst := .k 1048575 }
/-- [39:20] RC (R212): Highest SEAL_CYCLE since last read -/
def SEAL_MAX : Field :=
  { blk := 0x2, base := 0x6, dims := [.s 131072 0 63], lo := 20, w := 20, acc := .rc }
/-- [10:0] RO (R212): Entries transmitted in the last sheet -/
def ENTRIES : Field :=
  { blk := 0x2, base := 0x7, dims := [.s 131072 0 63], lo := 0, w := 11, acc := .ro }
/-- [39:0] RC (R212): Sheets sealed in time -/
def SHEETS_OK : Field :=
  { blk := 0x2, base := 0x10, dims := [.s 131072 0 63], lo := 0, w := 40, acc := .rc }
/-- [39:0] RC (R212): Sheets standing alone (R197) -/
def LATE_SHEETS : Field :=
  { blk := 0x2, base := 0x11, dims := [.s 131072 0 63], lo := 0, w := 40, acc := .rc }
/-- [39:0] RC (R212): Abandoned runs (R25) -/
def RUNS_ABANDONED : Field :=
  { blk := 0x2, base := 0x12, dims := [.s 131072 0 63], lo := 0, w := 40, acc := .rc }
/-- [39:0] RC (R212): Null tickets returned (R42) -/
def TICKETS_EXH : Field :=
  { blk := 0x2, base := 0x13, dims := [.s 131072 0 63], lo := 0, w := 40, acc := .rc }
/-- [39:0] RC (R212): Entries left out (R196, R80) -/
def OMITTED : Field :=
  { blk := 0x2, base := 0x14, dims := [.s 131072 0 63], lo := 0, w := 40, acc := .rc }
/-- [39:0] RC (R212): GRANT, QUIET and STANDING completing other than OK -/
def REFUSED : Field :=
  { blk := 0x2, base := 0x15, dims := [.s 131072 0 63], lo := 0, w := 40, acc := .rc }
/-- [39:0] RC (R212): Pairs retired from this tree (R207) -/
def LOCKSTEP_RETIRES : Field :=
  { blk := 0x2, base := 0x16, dims := [.s 131072 0 63], lo := 0, w := 40, acc := .rc }
/-- [31:0] RO (R212): Bit i: allocation 32j + i has FRESH = 1 (j = 0–127) -/
def FRESH : Field :=
  { blk := 0x2, base := 0x100, dims := [.s 131072 0 63, .s 1 0 127], lo := 0, w := 32, acc := .ro }
/-- [31:0] RO (R212): Bit i: allocation 32j + i has BACKLOG ≠ 0 -/
def BUSY : Field :=
  { blk := 0x2, base := 0x180, dims := [.s 131072 0 63, .s 1 0 127], lo := 0, w := 32, acc := .ro }
/-- [11:0] RO (R212): Standing entry e (0–511): allocation -/
def ST_ALLOC : Field :=
  { blk := 0x2, base := 0x400, dims := [.s 131072 0 63, .s 2 0 511], lo := 0, w := 12, acc := .ro, view := .stAlloc }
/-- [12] RO (R212): Entry e is in the list -/
def ST_VALID : Field :=
  { blk := 0x2, base := 0x400, dims := [.s 131072 0 63, .s 2 0 511], lo := 12, w := 1, acc := .ro, view := .stValid }
/-- [20:13] RO (R212): Period P in frames -/
def ST_PERIOD : Field :=
  { blk := 0x2, base := 0x400, dims := [.s 131072 0 63, .s 2 0 511], lo := 13, w := 8, acc := .ro, view := .stPeriod }
/-- [28:21] RO (R212): Issuing frame f mod P -/
def ST_PHASE : Field :=
  { blk := 0x2, base := 0x400, dims := [.s 131072 0 63, .s 2 0 511], lo := 21, w := 8, acc := .ro, view := .stPhase }
/-- [29] RO (R212): Long preamble forced -/
def ST_LONG : Field :=
  { blk := 0x2, base := 0x400, dims := [.s 131072 0 63, .s 2 0 511], lo := 29, w := 1, acc := .ro, view := .stLong }
/-- [19:0] RO (R212): Start, units of R186 -/
def ST_START : Field :=
  { blk := 0x2, base := 0x401, dims := [.s 131072 0 63, .s 2 0 511], lo := 0, w := 20, acc := .ro, view := .stStart }
/-- [39:20] RO (R212): Size, units of R186 -/
def ST_SIZE : Field :=
  { blk := 0x2, base := 0x401, dims := [.s 131072 0 63, .s 2 0 511], lo := 20, w := 20, acc := .ro, view := .stSize }
/-- [15:0] RW (R212): Alloc-ID or LLID (R188); RO for a ≤ 1,019 in ITU modes -/
def ALLOC_ID : Field :=
  { blk := 0x2, base := 0x1000, dims := [.s 131072 0 63, .s 1 0 4095], lo := 0, w := 16, acc := .rw, op := true, act := .allocId, rst := .allocId }
/-- [25:16] RW (R212): Terminal record; RO for a ≤ 1,019 in ITU modes -/
def TERM : Field :=
  { blk := 0x2, base := 0x1000, dims := [.s 131072 0 63, .s 1 0 4095], lo := 16, w := 10, acc := .rw, op := true, vmin := 0, vmax := 1019, rst := .allocTerm }
/-- [31:26] RW (R212): Tenant tag -/
def TENANT : Field :=
  { blk := 0x2, base := 0x1000, dims := [.s 131072 0 63, .s 1 0 4095], lo := 26, w := 6, acc := .rw, op := true }
/-- [32] RW (R212): Allocation assigned (R189) -/
def EN : Field :=
  { blk := 0x2, base := 0x1000, dims := [.s 131072 0 63, .s 1 0 4095], lo := 32, w := 1, acc := .rw, act := .allocEn }
/-- [39:0] RO (R212): Digest word of allocation a in the present snapshot (R190) -/
def DIGEST : Field :=
  { blk := 0x2, base := 0x2000, dims := [.s 131072 0 63, .s 1 0 4095], lo := 0, w := 40, acc := .ro }
/-- [39:0] RO (R212): The tree's state window, word for word (R36) -/
def STATE_WIN : Field :=
  { blk := 0x2, base := 0x10000, dims := [.s 131072 0 63, .s 1 0 65535], lo := 0, w := 40, acc := .ro, view := .stateWin }
/-- [39:0] RO (R212): Word w (0–32,767) of the data memory of the core serving tree z -/
def PDATA : Field :=
  { blk := 0x2, base := 0x1000000, dims := [.s 32768 0 63, .s 1 0 32767], lo := 0, w := 40, acc := .ro, view := .pdata }
/-- [3:0] RO (R212): Free wings pairs -/
def WINGS_FREE : Field :=
  { blk := 0x2, base := 0x2000000, dims := [], lo := 0, w := 4, acc := .ro, view := .wingsFree, rst := .k 8 }
/-- [11:4] RO (R212): Bit m: core 64 + m serves a tree -/
def WINGS_BUSY : Field :=
  { blk := 0x2, base := 0x2000000, dims := [], lo := 4, w := 8, acc := .ro }
/-- [19:12] RO (R212): Bit m: core 64 + m is retired -/
def WINGS_RETIRED : Field :=
  { blk := 0x2, base := 0x2000000, dims := [], lo := 12, w := 8, acc := .ro }
/-- [31:0] RO (R212): Bit n: prompter n (0–31) is retired -/
def RETIRED_LO : Field :=
  { blk := 0x2, base := 0x2000001, dims := [], lo := 0, w := 32, acc := .ro }
/-- [31:0] RO (R212): Bit n: prompter 32 + n is retired -/
def RETIRED_HI : Field :=
  { blk := 0x2, base := 0x2000002, dims := [], lo := 0, w := 32, acc := .ro }
/-- Fields of the map, part 0. -/
def part0 : List Field :=
  [ MAP_LEAD, SEAL_LEAD, GATE_CYCLE, CORE, SPARE, HALTED, IDLE_TREE, LOADING, LOADED, FRAME, F_START, DEADLINE, BUDGET, DECLARED, SEAL_CYCLE, SEAL_MAX, ENTRIES, SHEETS_OK, LATE_SHEETS, RUNS_ABANDONED]
/-- Fields of the map, part 1. -/
def part1 : List Field :=
  [ TICKETS_EXH, OMITTED, REFUSED, LOCKSTEP_RETIRES, FRESH, BUSY, ST_ALLOC, ST_VALID, ST_PERIOD, ST_PHASE, ST_LONG, ST_START, ST_SIZE, ALLOC_ID, TERM, TENANT, EN, DIGEST, STATE_WIN, PDATA]
/-- Fields of the map, part 2. -/
def part2 : List Field :=
  [ WINGS_FREE, WINGS_BUSY, WINGS_RETIRED, RETIRED_LO, RETIRED_HI]
/-- Every named field of the map. -/
def all : List Field := part0 ++ part1 ++ part2

end Sys2Proof.Machine.Reg.Cue

namespace Sys2Proof.Machine.Reg.Twn

/-- [1:0] RO (R269): 0 solo, 1 graft-wide, 2 graft-understudy -/
def PAIRING : Field :=
  { blk := 0xA, base := 0x0, dims := [], lo := 0, w := 2, acc := .ro }
/-- [2] RO (R269): TWIN_UNIT -/
def UNIT : Field :=
  { blk := 0xA, base := 0x0, dims := [], lo := 2, w := 1, acc := .ro, view := .unit }
/-- [3] RO (R269): R235 -/
def PAIR_OK : Field :=
  { blk := 0xA, base := 0x0, dims := [], lo := 3, w := 1, acc := .ro, view := .pairOk }
/-- [4] RO (R269): Twin lanes up -/
def LANES_UP : Field :=
  { blk := 0xA, base := 0x0, dims := [], lo := 4, w := 1, acc := .ro }
/-- [5] RO (R269): Cue light in frame lock -/
def CUE_UP : Field :=
  { blk := 0xA, base := 0x0, dims := [], lo := 5, w := 1, acc := .ro }
/-- [6] RO (R269): Twin claim lost (R242) -/
def TWIN_LOST : Field :=
  { blk := 0xA, base := 0x0, dims := [], lo := 6, w := 1, acc := .ro }
/-- [7] RO (R269): R237 -/
def ALIGN_OK : Field :=
  { blk := 0xA, base := 0x0, dims := [], lo := 7, w := 1, acc := .ro }
/-- [8] RO (R269): R236; cleared only by reset -/
def PAIR_MISMATCH : Field :=
  { blk := 0xA, base := 0x0, dims := [], lo := 8, w := 1, acc := .ro }
/-- [3:0] RW (R269): 1–15, used by R151 and R246 -/
def N_MISS : Field :=
  { blk := 0xA, base := 0x1, dims := [], lo := 0, w := 4, acc := .rw, vmin := 1, vmax := 15, rst := .k 3 }
/-- [7:4] RW (R269): 1–15 (R254) -/
def N_SILENT : Field :=
  { blk := 0xA, base := 0x1, dims := [], lo := 4, w := 4, acc := .rw, vmin := 1, vmax := 15, rst := .k 4 }
/-- [12:8] RW (R269): 2–31 (R259) -/
def N_VERIFY : Field :=
  { blk := 0xA, base := 0x1, dims := [], lo := 8, w := 5, acc := .rw, vmin := 2, vmax := 31, rst := .k 6 }
/-- [24:13] RW (R269): Seconds, 0–3,600 (R262) -/
def WTR : Field :=
  { blk := 0xA, base := 0x1, dims := [], lo := 13, w := 12, acc := .rw, vmin := 0, vmax := 3600, rst := .k 300 }
/-- [7:0] RO (R269): Last alignment measurement, ticks, two's complement -/
def ALIGN_ERR : Field :=
  { blk := 0xA, base := 0x2, dims := [], lo := 0, w := 8, acc := .ro }
/-- [23:0] RO (R269): Last heartbeat sent -/
def HB_TX : Field :=
  { blk := 0xA, base := 0x3, dims := [], lo := 0, w := 24, acc := .ro }
/-- [23:0] RO (R269): Last heartbeat accepted -/
def HB_RX : Field :=
  { blk := 0xA, base := 0x4, dims := [], lo := 0, w := 24, acc := .ro }
/-- [31:0] RO (R269): Bit z: the twin lights tree z (0–31), from its last valid frame -/
def TWIN_LIT_LO : Field :=
  { blk := 0xA, base := 0x5, dims := [], lo := 0, w := 32, acc := .ro }
/-- [31:0] RO (R269): Bit z: the twin lights tree 32 + z -/
def TWIN_LIT_HI : Field :=
  { blk := 0xA, base := 0x6, dims := [], lo := 0, w := 32, acc := .ro }
/-- [1:0] RW (R269): Pairing mode chosen; written once per reset by the system context (R232) -/
def PAIR_SEL : Field :=
  { blk := 0xA, base := 0x7, dims := [], lo := 0, w := 2, acc := .rw, act := .pairSel }
/-- [2] RO (R269): PAIR_SEL has been written -/
def PAIR_SET : Field :=
  { blk := 0xA, base := 0x7, dims := [], lo := 2, w := 1, acc := .ro }
/-- [18:3] RW (R269): ms, 100–60,000; effective only before PAIR_SEL is written (R234) -/
def PAIR_WAIT : Field :=
  { blk := 0xA, base := 0x7, dims := [], lo := 3, w := 16, acc := .rw, vmin := 100, vmax := 60000, rst := .k 2000 }
/-- [39:0] RC (R269): Frames failing SYNC, TYPE or CRC -/
def CUE_CRC_ERR : Field :=
  { blk := 0xA, base := 0x10, dims := [], lo := 0, w := 40, acc := .rc }
/-- [39:0] RC (R269): Frames failing the STAMP check -/
def CUE_STALE : Field :=
  { blk := 0xA, base := 0x11, dims := [], lo := 0, w := 40, acc := .rc }
/-- [39:0] RC (R269): Entries to the lost state -/
def CLAIM_LOSSES : Field :=
  { blk := 0xA, base := 0x12, dims := [], lo := 0, w := 40, acc := .rc }
/-- [39:0] RC (R269): Boundaries held for want of continuity -/
def CUT_GAPS : Field :=
  { blk := 0xA, base := 0x13, dims := [], lo := 0, w := 40, acc := .rc }
/-- [39:0] RC (R269): R252 -/
def DOUBLE_LIGHTS : Field :=
  { blk := 0xA, base := 0x14, dims := [], lo := 0, w := 40, acc := .rc }
/-- [39:0] RC (R269): R256 -/
def SHEETS_MISSING : Field :=
  { blk := 0xA, base := 0x15, dims := [], lo := 0, w := 40, acc := .rc }
/-- [39:0] RC (R269): Mirrored writes completing FAULT -/
def MIRROR_FAULTS : Field :=
  { blk := 0xA, base := 0x16, dims := [], lo := 0, w := 40, acc := .rc }
/-- [39:0] RC (R269): Cross-traffic packets dropped (R244) -/
def CROSS_DROP : Field :=
  { blk := 0xA, base := 0x17, dims := [], lo := 0, w := 40, acc := .rc }
/-- [15:0] RO (R269): Claim word as last advertised -/
def CLAIM : Field :=
  { blk := 0xA, base := 0x100, dims := [.s 16 0 63], lo := 0, w := 16, acc := .ro }
/-- [31:16] RO (R269): Twin claim from the last valid frame -/
def TWIN_CLAIM : Field :=
  { blk := 0xA, base := 0x100, dims := [.s 16 0 63], lo := 16, w := 16, acc := .ro }
/-- [32] RO (R269): Twin claim valid -/
def TWIN_VALID : Field :=
  { blk := 0xA, base := 0x100, dims := [.s 16 0 63], lo := 32, w := 1, acc := .ro }
/-- [33] RO (R269): R245 -/
def ELIGIBLE : Field :=
  { blk := 0xA, base := 0x100, dims := [.s 16 0 63], lo := 33, w := 1, acc := .ro, view := .eligible }
/-- [3:0] RW (R269): R247 -/
def PRIO : Field :=
  { blk := 0xA, base := 0x101, dims := [.s 16 0 63], lo := 0, w := 4, acc := .rw, op := true, rst := .home }
/-- [7:4] RO (R269): Advertised priority -/
def PRIO_ADV : Field :=
  { blk := 0xA, base := 0x101, dims := [.s 16 0 63], lo := 4, w := 4, acc := .ro, view := .prioAdv }
/-- [8] RO (R269): Wait-to-restore or its dark rehearsal under way -/
def WTR_RUN : Field :=
  { blk := 0xA, base := 0x101, dims := [.s 16 0 63], lo := 8, w := 1, acc := .ro }
/-- [20:9] RO (R269): Seconds remaining -/
def WTR_LEFT : Field :=
  { blk := 0xA, base := 0x101, dims := [.s 16 0 63], lo := 9, w := 12, acc := .ro, view := .wtrLeft }
/-- [6:0] RO (R269): [0] rail or margin, [1] wings, [2] no terminal (lighting), [3] no terminal (understudy), [4] rehearsal, [5] supply dip, [6] take-over failed -/
def PEN : Field :=
  { blk := 0xA, base := 0x102, dims := [.s 16 0 63], lo := 0, w := 7, acc := .ro }
/-- [7] W1C (R269): Writing 1 clears the take-over-failed penalty -/
def TKO_FAIL : Field :=
  { blk := 0xA, base := 0x102, dims := [.s 16 0 63], lo := 7, w := 1, acc := .w1c, act := .tkoFail }
/-- [14:8] RO (R269): R249 -/
def EPOCH : Field :=
  { blk := 0xA, base := 0x102, dims := [.s 16 0 63], lo := 8, w := 7, acc := .ro, rst := .k 1 }
/-- [1:0] RW (R269): 0 this unit, 1 twin, 2 neither; writes under R268 -/
def HOLDER : Field :=
  { blk := 0xA, base := 0x103, dims := [.s 16 0 63], lo := 0, w := 2, acc := .rw, act := .holderW, view := .holder, rst := .k 2 }
/-- [31:0] RO (R269): Δ in 1/8 tick, two's complement -/
def DELTA : Field :=
  { blk := 0xA, base := 0x104, dims := [.s 16 0 63], lo := 0, w := 32, acc := .ro }
/-- [32] RO (R269): R257 -/
def DELTA_VALID : Field :=
  { blk := 0xA, base := 0x104, dims := [.s 16 0 63], lo := 32, w := 1, acc := .ro }
/-- [31:0] RW (R269): Configured Δ in 1/8 tick, within ±497,664 -/
def DELTA_CFG : Field :=
  { blk := 0xA, base := 0x105, dims := [.s 16 0 63], lo := 0, w := 32, acc := .rw, op := true, act := .deltaCfg }
/-- [31:0] RO (R269): Applied shift s in 1/8 tick, two's complement (R258) -/
def SHIFT : Field :=
  { blk := 0xA, base := 0x106, dims := [.s 16 0 63], lo := 0, w := 32, acc := .ro }
/-- [39:0] RO (R269): Stage time of the last take-over -/
def LAST_TKO : Field :=
  { blk := 0xA, base := 0x107, dims := [.s 16 0 63], lo := 0, w := 40, acc := .ro }
/-- [7:0] RO (R269): OK or TAKEOVER_FAILED of the last verification -/
def TKO_CODE : Field :=
  { blk := 0xA, base := 0x108, dims := [.s 16 0 63], lo := 0, w := 8, acc := .ro }
/-- [8] RO (R269): Verification period running -/
def VERIFYING : Field :=
  { blk := 0xA, base := 0x108, dims := [.s 16 0 63], lo := 8, w := 1, acc := .ro }
/-- [14:9] RO (R269): Silent frames counted, 0–63 (R254) -/
def SILENT_CNT : Field :=
  { blk := 0xA, base := 0x108, dims := [.s 16 0 63], lo := 9, w := 6, acc := .ro }
/-- [39:0] RC (R269): R256 -/
def SHADOW_MISS : Field :=
  { blk := 0xA, base := 0x109, dims := [.s 16 0 63], lo := 0, w := 40, acc := .rc }
/-- [39:0] RC (R269): Sheet divergences -/
def DIVERGE : Field :=
  { blk := 0xA, base := 0x10A, dims := [.s 16 0 63], lo := 0, w := 40, acc := .rc }
/-- [39:0] RC (R269): Take-overs by this unit -/
def TAKEOVERS : Field :=
  { blk := 0xA, base := 0x10B, dims := [.s 16 0 63], lo := 0, w := 40, acc := .rc }
/-- Fields of the map, part 0. -/
def part0 : List Field :=
  [ PAIRING, UNIT, PAIR_OK, LANES_UP, CUE_UP, TWIN_LOST, ALIGN_OK, PAIR_MISMATCH, N_MISS, N_SILENT, N_VERIFY, WTR, ALIGN_ERR, HB_TX, HB_RX, TWIN_LIT_LO, TWIN_LIT_HI, PAIR_SEL, PAIR_SET, PAIR_WAIT]
/-- Fields of the map, part 1. -/
def part1 : List Field :=
  [ CUE_CRC_ERR, CUE_STALE, CLAIM_LOSSES, CUT_GAPS, DOUBLE_LIGHTS, SHEETS_MISSING, MIRROR_FAULTS, CROSS_DROP, CLAIM, TWIN_CLAIM, TWIN_VALID, ELIGIBLE, PRIO, PRIO_ADV, WTR_RUN, WTR_LEFT, PEN, TKO_FAIL, EPOCH, HOLDER]
/-- Fields of the map, part 2. -/
def part2 : List Field :=
  [ DELTA, DELTA_VALID, DELTA_CFG, SHIFT, LAST_TKO, TKO_CODE, VERIFYING, SILENT_CNT, SHADOW_MISS, DIVERGE, TAKEOVERS]
/-- Every named field of the map. -/
def all : List Field := part0 ++ part1 ++ part2

end Sys2Proof.Machine.Reg.Twn
end

