-- ==== Sys2Proof/Machine/RegData.lean ====
section
/-! DEFINITION. The object map of the sieve (0x04), forwarding (0x05), queues (0x06) and buffers (0x07): one constant per named field, transcribed from the map tables of spec/. -/

namespace Sys2Proof.Machine.Reg.Sve

/-- [15:0] RO (R307): Current version -/
def V_CUR : Field :=
  { blk := 0x4, base := 0x0, dims := [], lo := 0, w := 16, acc := .ro, rst := .k 1 }
/-- [31:16] RO (R307): Previous version; 0 none -/
def V_PREV : Field :=
  { blk := 0x4, base := 0x0, dims := [], lo := 16, w := 16, acc := .ro }
/-- [32] RO (R307): R305 -/
def CURTAIN_PEND : Field :=
  { blk := 0x4, base := 0x0, dims := [], lo := 32, w := 1, acc := .ro }
/-- [15:0] RW (R307): µs, 100–65,535 (R304) -/
def CURTAIN_TO : Field :=
  { blk := 0x4, base := 0x1, dims := [], lo := 0, w := 16, acc := .rw, vmin := 100, vmax := 65535, rst := .k 10000 }
/-- [23:0] RO (R307): Packets holding the current version -/
def HOLD_CUR : Field :=
  { blk := 0x4, base := 0x2, dims := [], lo := 0, w := 24, acc := .ro, view := .holdCur }
/-- [23:0] RO (R307): Packets holding the previous version -/
def HOLD_PREV : Field :=
  { blk := 0x4, base := 0x3, dims := [], lo := 0, w := 24, acc := .ro, view := .holdPrev }
/-- [11:0] RW (R307): R285 -/
def TENANT_PRIO_MAX : Field :=
  { blk := 0x4, base := 0x4, dims := [], lo := 0, w := 12, acc := .rw, rst := .k 2047 }
/-- [23:0] RW (R307): Packets/s, 1–16,777,215 (R279) -/
def SLOW_RATE : Field :=
  { blk := 0x4, base := 0x5, dims := [], lo := 0, w := 24, acc := .rw, vmin := 1, vmax := 16777215, rst := .k 200000 }
/-- [39:24] RW (R307): Packets, 1–65,535 -/
def SLOW_BURST : Field :=
  { blk := 0x4, base := 0x5, dims := [], lo := 24, w := 16, acc := .rw, vmin := 1, vmax := 65535, rst := .k 4096 }
/-- [19:0] RO (R307): Change records applied since the last switch -/
def STAGED : Field :=
  { blk := 0x4, base := 0x6, dims := [], lo := 0, w := 20, acc := .ro }
/-- [39:0] RC (R307): R279, R291 -/
def SLOW_DROP : Field :=
  { blk := 0x4, base := 0x10, dims := [], lo := 0, w := 40, acc := .rc }
/-- [39:0] RC (R307): R292 -/
def RECIRC_DROP : Field :=
  { blk := 0x4, base := 0x11, dims := [], lo := 0, w := 40, acc := .rc }
/-- [39:0] RC (R307): R304 -/
def RETIRED_CNT : Field :=
  { blk := 0x4, base := 0x12, dims := [], lo := 0, w := 40, acc := .rc }
/-- [39:0] RC (R307): R287 -/
def PARITY_ERR : Field :=
  { blk := 0x4, base := 0x13, dims := [], lo := 0, w := 40, acc := .rc }
/-- [39:0] RC (R307): R291, R293 -/
def MIRROR_DROP : Field :=
  { blk := 0x4, base := 0x14, dims := [], lo := 0, w := 40, acc := .rc }
/-- [39:0] RC (R307): Channel c (0–5), R273 -/
def CTRL_DROP : Field :=
  { blk := 0x4, base := 0x20, dims := [.s 1 0 5], lo := 0, w := 40, acc := .rc }
/-- [12:0] RO (R307): Logical bank b (0–63): rows free in all three slots -/
def ROWS_FREE : Field :=
  { blk := 0x4, base := 0x100, dims := [.s 1 0 63], lo := 0, w := 13, acc := .ro, view := .rowsFree, rst := .k 4096 }
/-- [19:13] RO (R307): Physical bank serving b, 0–65 (R286) -/
def PHYS : Field :=
  { blk := 0x4, base := 0x100, dims := [.s 1 0 63], lo := 13, w := 7, acc := .ro, rst := .idx 0 }
/-- [0] RW (R307): R294 -/
def MAL_COPY : Field :=
  { blk := 0x4, base := 0x200, dims := [.s 1 0 96], lo := 0, w := 1, acc := .rw }
/-- [8:1] RW (R307): Profile for MALFORMED packets -/
def MAL_PROF : Field :=
  { blk := 0x4, base := 0x200, dims := [.s 1 0 96], lo := 1, w := 8, acc := .rw }
/-- [6:0] RW (R307): Session m (0–63): uplink index 64–95, or 127 host punt channel -/
def M_DEST : Field :=
  { blk := 0x4, base := 0x300, dims := [.s 1 0 63], lo := 0, w := 7, acc := .rw, act := .mirrorDest }
/-- [20:7] RW (R307): Bytes kept, 64–10,240; 0 whole packet -/
def M_TRUNC : Field :=
  { blk := 0x4, base := 0x300, dims := [.s 1 0 63], lo := 7, w := 14, acc := .rw, act := .mirrorTrunc }
/-- [26:21] RW (R307): Session tenant -/
def M_TENANT : Field :=
  { blk := 0x4, base := 0x300, dims := [.s 1 0 63], lo := 21, w := 6, acc := .rw, op := true }
/-- [27] RW (R307): Session enabled -/
def M_EN : Field :=
  { blk := 0x4, base := 0x300, dims := [.s 1 0 63], lo := 27, w := 1, acc := .rw }
/-- [39:0] RC (R307): R225 -/
def SIEVE_DROP : Field :=
  { blk := 0x4, base := 0x400, dims := [.s 1 0 96], lo := 0, w := 40, acc := .rc }
/-- [39:0] RC (R307): R294 -/
def MAL_CNT : Field :=
  { blk := 0x4, base := 0x500, dims := [.s 1 0 96], lo := 0, w := 40, acc := .rc }
/-- [39:0] RC (R307): PARSE_DEPTH packets -/
def DEPTH_CNT : Field :=
  { blk := 0x4, base := 0x600, dims := [.s 1 0 96], lo := 0, w := 40, acc := .rc }
/-- [39:0] RC (R307): R275 kind 3 -/
def NO_PARSE : Field :=
  { blk := 0x4, base := 0x700, dims := [.s 1 0 96], lo := 0, w := 40, acc := .rc }
/-- [39:0] RO (R307): Word w (0–2) of node n -/
def NODE : Field :=
  { blk := 0x4, base := 0x1000, dims := [.s 4 0 255, .s 1 0 2], lo := 0, w := 40, acc := .ro, view := .node }
/-- [25:0] RO (R307): Arc a (0–4,095) -/
def ARC : Field :=
  { blk := 0x4, base := 0x2000, dims := [.s 1 0 4095], lo := 0, w := 26, acc := .ro, view := .arc }
/-- [39:0] RO (R307): Word w (0–19) of profile p -/
def PROFILE : Field :=
  { blk := 0x4, base := 0x4000, dims := [.s 32 0 255, .s 1 0 19], lo := 0, w := 40, acc := .ro, view := .profile }
/-- [9:0] RO (R307): Port start entry -/
def START : Field :=
  { blk := 0x4, base := 0x6000, dims := [.s 1 0 96], lo := 0, w := 10, acc := .ro, view := .start, rst := .k 0x300 }
/-- [11:0] RO (R307): Rule r (0–1,048,575): priority -/
def R_PRIO : Field :=
  { blk := 0x4, base := 0x100000000, dims := [.s 64 0 1048575], lo := 0, w := 12, acc := .ro, view := .rulePrio }
/-- [13:12] RO (R307): Width -/
def R_WIDTH : Field :=
  { blk := 0x4, base := 0x100000000, dims := [.s 64 0 1048575], lo := 12, w := 2, acc := .ro, view := .ruleWidth }
/-- [19:14] RO (R307): Tenant -/
def R_TENANT : Field :=
  { blk := 0x4, base := 0x100000000, dims := [.s 64 0 1048575], lo := 14, w := 6, acc := .ro, view := .ruleTenant }
/-- [25:20] RO (R307): First logical bank -/
def R_BANK : Field :=
  { blk := 0x4, base := 0x100000000, dims := [.s 64 0 1048575], lo := 20, w := 6, acc := .ro, view := .ruleBank }
/-- [37:26] RO (R307): Row -/
def R_ROW : Field :=
  { blk := 0x4, base := 0x100000000, dims := [.s 64 0 1048575], lo := 26, w := 12, acc := .ro, view := .ruleRow }
/-- [38] RO (R307): Rule held by some slot -/
def R_PRESENT : Field :=
  { blk := 0x4, base := 0x100000000, dims := [.s 64 0 1048575], lo := 38, w := 1, acc := .ro, view := .rulePresent }
/-- [0] RO (R307): In the current version -/
def IN_CUR : Field :=
  { blk := 0x4, base := 0x100000001, dims := [.s 64 0 1048575], lo := 0, w := 1, acc := .ro, view := .inCur }
/-- [1] RO (R307): In the previous version -/
def IN_PREV : Field :=
  { blk := 0x4, base := 0x100000001, dims := [.s 64 0 1048575], lo := 1, w := 1, acc := .ro, view := .inPrev }
/-- [2] RO (R307): In the staged set -/
def IN_STAGED : Field :=
  { blk := 0x4, base := 0x100000001, dims := [.s 64 0 1048575], lo := 2, w := 1, acc := .ro, view := .inStaged }
/-- [19:3] RO (R307): Counter index -/
def R_CNT : Field :=
  { blk := 0x4, base := 0x100000001, dims := [.s 64 0 1048575], lo := 3, w := 17, acc := .ro, view := .ruleCnt }
/-- [20] RO (R307): Counter enabled -/
def R_CNT_EN : Field :=
  { blk := 0x4, base := 0x100000001, dims := [.s 64 0 1048575], lo := 20, w := 1, acc := .ro, view := .ruleCntEn }
/-- [39:0] RO (R307): Action word -/
def R_ACTION : Field :=
  { blk := 0x4, base := 0x100000002, dims := [.s 64 0 1048575], lo := 0, w := 40, acc := .ro, view := .ruleAction }
/-- [39:0] RO (R307): Value word j (0–15) -/
def R_VALUE : Field :=
  { blk := 0x4, base := 0x100000008, dims := [.s 64 0 1048575, .s 1 0 15], lo := 0, w := 40, acc := .ro, view := .ruleValue }
/-- [39:0] RO (R307): Mask word j (0–15) -/
def R_MASK : Field :=
  { blk := 0x4, base := 0x100000018, dims := [.s 64 0 1048575, .s 1 0 15], lo := 0, w := 40, acc := .ro, view := .ruleMask }
/-- [39:0] RO (R307): Word w (0–26) of pattern q, as in kind 7 words 1–27 -/
def PATTERN : Field :=
  { blk := 0x4, base := 0x200000000, dims := [.s 32 0 16383, .s 1 0 26], lo := 0, w := 40, acc := .ro, view := .pattern }
/-- Fields of the map, part 0. -/
def part0 : List Field :=
  [ V_CUR, V_PREV, CURTAIN_PEND, CURTAIN_TO, HOLD_CUR, HOLD_PREV, TENANT_PRIO_MAX, SLOW_RATE, SLOW_BURST, STAGED, SLOW_DROP, RECIRC_DROP, RETIRED_CNT, PARITY_ERR, MIRROR_DROP, CTRL_DROP, ROWS_FREE, PHYS, MAL_COPY, MAL_PROF]
/-- Fields of the map, part 1. -/
def part1 : List Field :=
  [ M_DEST, M_TRUNC, M_TENANT, M_EN, SIEVE_DROP, MAL_CNT, DEPTH_CNT, NO_PARSE, NODE, ARC, PROFILE, START, R_PRIO, R_WIDTH, R_TENANT, R_BANK, R_ROW, R_PRESENT, IN_CUR, IN_PREV]
/-- Fields of the map, part 2. -/
def part2 : List Field :=
  [ IN_STAGED, R_CNT, R_CNT_EN, R_ACTION, R_VALUE, R_MASK, PATTERN]
/-- Every named field of the map. -/
def all : List Field := part0 ++ part1 ++ part2

end Sys2Proof.Machine.Reg.Sve

namespace Sys2Proof.Machine.Reg.Fwd

/-- [7:0] RW (R343): Seconds, 1–255 (R329) -/
def RAKE_PERIOD : Field :=
  { blk := 0x5, base := 0x0, dims := [], lo := 0, w := 8, acc := .rw, vmin := 1, vmax := 255, rst := .k 20 }
/-- [11:8] RO (R343): Rake epoch -/
def EPOCH : Field :=
  { blk := 0x5, base := 0x0, dims := [], lo := 8, w := 4, acc := .ro }
/-- [14:0] RO (R343): Learns queued -/
def LEARN_Q : Field :=
  { blk := 0x5, base := 0x1, dims := [], lo := 0, w := 15, acc := .ro }
/-- [39:0] RC (R343): R310 -/
def NO_SERVICE : Field :=
  { blk := 0x5, base := 0x10, dims := [], lo := 0, w := 40, acc := .rc }
/-- [39:0] RC (R343): R313 -/
def TENANT_DROP : Field :=
  { blk := 0x5, base := 0x11, dims := [], lo := 0, w := 40, acc := .rc }
/-- [39:0] RC (R343): R315, R316 -/
def SPOOF_DROP : Field :=
  { blk := 0x5, base := 0x12, dims := [], lo := 0, w := 40, acc := .rc }
/-- [39:0] RC (R343): R315 -/
def SRC_INVALID : Field :=
  { blk := 0x5, base := 0x13, dims := [], lo := 0, w := 40, acc := .rc }
/-- [39:0] RC (R343): R315 -/
def MAC_LIMIT_DROP : Field :=
  { blk := 0x5, base := 0x14, dims := [], lo := 0, w := 40, acc := .rc }
/-- [39:0] RC (R343): R316 -/
def MOVES : Field :=
  { blk := 0x5, base := 0x15, dims := [], lo := 0, w := 40, acc := .rc }
/-- [39:0] RC (R343): R316 -/
def MOVE_DROP : Field :=
  { blk := 0x5, base := 0x16, dims := [], lo := 0, w := 40, acc := .rc }
/-- [39:0] RC (R343): R317 -/
def HAIRPIN_DROP : Field :=
  { blk := 0x5, base := 0x17, dims := [], lo := 0, w := 40, acc := .rc }
/-- [39:0] RC (R343): R310, R312 -/
def UNKNOWN_DROP : Field :=
  { blk := 0x5, base := 0x18, dims := [], lo := 0, w := 40, acc := .rc }
/-- [39:0] RC (R343): R309 -/
def UNKNOWN_FLOW : Field :=
  { blk := 0x5, base := 0x19, dims := [], lo := 0, w := 40, acc := .rc }
/-- [39:0] RC (R343): R311 -/
def NULL_DROP : Field :=
  { blk := 0x5, base := 0x1A, dims := [], lo := 0, w := 40, acc := .rc }
/-- [39:0] RC (R343): R318 -/
def DARK_DROP : Field :=
  { blk := 0x5, base := 0x1B, dims := [], lo := 0, w := 40, acc := .rc }
/-- [39:0] RC (R343): R342 -/
def POLICE_DROP : Field :=
  { blk := 0x5, base := 0x1C, dims := [], lo := 0, w := 40, acc := .rc }
/-- [39:0] RC (R343): R323 -/
def EVICTED : Field :=
  { blk := 0x5, base := 0x1D, dims := [], lo := 0, w := 40, acc := .rc }
/-- [39:0] RC (R343): R329 -/
def AGED : Field :=
  { blk := 0x5, base := 0x1E, dims := [], lo := 0, w := 40, acc := .rc }
/-- [39:0] RC (R343): R325 -/
def PARITY_ERR : Field :=
  { blk := 0x5, base := 0x1F, dims := [], lo := 0, w := 40, acc := .rc }
/-- [39:0] RC (R343): R326 -/
def LEARN_DROP : Field :=
  { blk := 0x5, base := 0x20, dims := [], lo := 0, w := 40, acc := .rc }
/-- [39:0] RC (R343): R323 -/
def LEARN_FULL : Field :=
  { blk := 0x5, base := 0x21, dims := [], lo := 0, w := 40, acc := .rc }
/-- [39:0] RC (R343): R328 -/
def LEARN_HELD : Field :=
  { blk := 0x5, base := 0x22, dims := [], lo := 0, w := 40, acc := .rc }
/-- [15:0] RW (R343): Port ID or LLID (R308) -/
def FLOW_ID : Field :=
  { blk := 0x5, base := 0x1000000, dims := [.s 65536 0 63, .s 4 0 16383], lo := 0, w := 16, acc := .rw, act := .flow }
/-- [25:16] RW (R343): Terminal, 0–1,019 -/
def TERM : Field :=
  { blk := 0x5, base := 0x1000000, dims := [.s 65536 0 63, .s 4 0 16383], lo := 16, w := 10, acc := .rw, vmin := 0, vmax := 1019 }
/-- [31:26] RW (R343): Tenant tag -/
def TENANT : Field :=
  { blk := 0x5, base := 0x1000000, dims := [.s 65536 0 63, .s 4 0 16383], lo := 26, w := 6, acc := .rw, op := true, act := .flow }
/-- [32] RW (R343): Flow enabled -/
def F_EN : Field :=
  { blk := 0x5, base := 0x1000000, dims := [.s 65536 0 63, .s 4 0 16383], lo := 32, w := 1, acc := .rw, act := .flow }
/-- [33] RW (R343): Downstream multicast flow -/
def MCAST : Field :=
  { blk := 0x5, base := 0x1000000, dims := [.s 65536 0 63, .s 4 0 16383], lo := 33, w := 1, acc := .rw }
/-- [35:34] RW (R343): R315 -/
def SRC_MODE : Field :=
  { blk := 0x5, base := 0x1000000, dims := [.s 65536 0 63, .s 4 0 16383], lo := 34, w := 2, acc := .rw, vmin := 0, vmax := 2 }
/-- [17:0] RW (R343): Downstream queue (R335) -/
def QUEUE : Field :=
  { blk := 0x5, base := 0x1000001, dims := [.s 65536 0 63, .s 4 0 16383], lo := 0, w := 18, acc := .rw, act := .flowQueue }
/-- [35:18] RW (R343): Upstream policer; 0 none -/
def UP_POL : Field :=
  { blk := 0x5, base := 0x1000001, dims := [.s 65536 0 63, .s 4 0 16383], lo := 18, w := 18, acc := .rw, act := .upPol }
/-- [17:0] RW (R343): Downstream policer; 0 none -/
def DN_POL : Field :=
  { blk := 0x5, base := 0x1000002, dims := [.s 65536 0 63, .s 4 0 16383], lo := 0, w := 18, acc := .rw, act := .dnPol }
/-- [33:18] RW (R343): 0 none -/
def MAC_LIMIT : Field :=
  { blk := 0x5, base := 0x1000002, dims := [.s 65536 0 63, .s 4 0 16383], lo := 18, w := 16, acc := .rw }
/-- [37:34] RW (R343): Tail role only (R340) -/
def TAIL_ALLOC : Field :=
  { blk := 0x5, base := 0x1000002, dims := [.s 65536 0 63, .s 4 0 16383], lo := 34, w := 4, acc := .rw }
/-- [11:0] RW (R343): R342 -/
def S_VID : Field :=
  { blk := 0x5, base := 0x1000003, dims := [.s 65536 0 63, .s 4 0 16383], lo := 0, w := 12, acc := .rw }
/-- [12] RW (R343): R342 -/
def S_PUSH : Field :=
  { blk := 0x5, base := 0x1000003, dims := [.s 65536 0 63, .s 4 0 16383], lo := 12, w := 1, acc := .rw }
/-- [32:13] RO (R343): Learned entries of the flow -/
def MAC_COUNT : Field :=
  { blk := 0x5, base := 0x1000003, dims := [.s 65536 0 63, .s 4 0 16383], lo := 13, w := 20, acc := .ro, view := .macCount }
/-- [1:0] RW (R343): R310; 3 reserved -/
def KIND : Field :=
  { blk := 0x5, base := 0x2000000, dims := [.s 4 0 262143], lo := 0, w := 2, acc := .rw, op := true, vmin := 0, vmax := 2 }
/-- [7:2] RW (R343): Service tenant -/
def S_TENANT : Field :=
  { blk := 0x5, base := 0x2000000, dims := [.s 4 0 262143], lo := 2, w := 6, acc := .rw, op := true }
/-- [8] RW (R343): R326 -/
def LEARN : Field :=
  { blk := 0x5, base := 0x2000000, dims := [.s 4 0 262143], lo := 8, w := 1, acc := .rw }
/-- [9] RW (R343): R317 -/
def HAIRPIN : Field :=
  { blk := 0x5, base := 0x2000000, dims := [.s 4 0 262143], lo := 9, w := 1, acc := .rw, op := true }
/-- [10] RW (R343): R316 -/
def MOVE_OK : Field :=
  { blk := 0x5, base := 0x2000000, dims := [.s 4 0 262143], lo := 10, w := 1, acc := .rw, rst := .k 1 }
/-- [14:11] RW (R343): Sweeps, 0–15; 0 no ageing (R329) -/
def AGE_LIMIT : Field :=
  { blk := 0x5, base := 0x2000000, dims := [.s 4 0 262143], lo := 11, w := 4, acc := .rw, rst := .k 15 }
/-- [22:0] RW (R343): R310 -/
def UP_DEST : Field :=
  { blk := 0x5, base := 0x2000001, dims := [.s 4 0 262143], lo := 0, w := 23, acc := .rw, op := true, act := .upDest }
/-- [22:0] RW (R343): Cross-connect only -/
def DN_DEST : Field :=
  { blk := 0x5, base := 0x2000002, dims := [.s 4 0 262143], lo := 0, w := 23, acc := .rw, act := .dnDest }
/-- [15:0] RW (R343): Bridge only; 0 none -/
def BC_GROUP : Field :=
  { blk := 0x5, base := 0x2000003, dims := [.s 4 0 262143], lo := 0, w := 16, acc := .rw, act := .bcGroup }
/-- [17:0] RW (R343): Group g (1–65,535), R332 -/
def G_BASE : Field :=
  { blk := 0x5, base := 0x3000000, dims := [.s 1 1 65535], lo := 0, w := 18, acc := .rw, act := .group }
/-- [30:18] RW (R343): 0–4,096 -/
def G_COUNT : Field :=
  { blk := 0x5, base := 0x3000000, dims := [.s 1 1 65535], lo := 18, w := 13, acc := .rw, act := .group }
/-- [36:31] RW (R343): Group tenant -/
def G_TENANT : Field :=
  { blk := 0x5, base := 0x3000000, dims := [.s 1 1 65535], lo := 31, w := 6, acc := .rw, op := true, act := .group }
/-- [22:0] RW (R343): Member entry m (0–262,143) -/
def M_DEST : Field :=
  { blk := 0x5, base := 0x3100000, dims := [.s 1 0 262143], lo := 0, w := 23, acc := .rw, act := .member }
/-- [23:0] RW (R343): Policer p (1–262,143), 8 kb/s units -/
def CIR : Field :=
  { blk := 0x5, base := 0x4000000, dims := [.s 4 1 262143], lo := 0, w := 24, acc := .rw }
/-- [29:24] RW (R343): Policer tenant -/
def P_TENANT : Field :=
  { blk := 0x5, base := 0x4000000, dims := [.s 4 1 262143], lo := 24, w := 6, acc := .rw, op := true }
/-- [30] RW (R343): R342 -/
def COLOUR_AWARE : Field :=
  { blk := 0x5, base := 0x4000000, dims := [.s 4 1 262143], lo := 30, w := 1, acc := .rw }
/-- [23:0] RW (R343): 8 kb/s units, at least CIR -/
def PIR : Field :=
  { blk := 0x5, base := 0x4000001, dims := [.s 4 1 262143], lo := 0, w := 24, acc := .rw, act := .pir }
/-- [23:0] RW (R343): Bytes -/
def CBS : Field :=
  { blk := 0x5, base := 0x4000002, dims := [.s 4 1 262143], lo := 0, w := 24, acc := .rw, vmin := 10240, vmax := 16777215, rst := .k 10240 }
/-- [23:0] RW (R343): Bytes -/
def PBS : Field :=
  { blk := 0x5, base := 0x4000003, dims := [.s 4 1 262143], lo := 0, w := 24, acc := .rw, vmin := 10240, vmax := 16777215, rst := .k 10240 }
/-- [39:0] RO (R343): Entry number h (0–1,048,575): key word 0 -/
def E_KEY0 : Field :=
  { blk := 0x5, base := 0x100000000, dims := [.s 4 0 1048575], lo := 0, w := 40, acc := .ro, view := .eKey0 }
/-- [39:0] RO (R343): Key word 1 -/
def E_KEY1 : Field :=
  { blk := 0x5, base := 0x100000001, dims := [.s 4 0 1048575], lo := 0, w := 40, acc := .ro, view := .eKey1 }
/-- [39:0] RO (R343): Data word 0 -/
def E_DATA : Field :=
  { blk := 0x5, base := 0x100000002, dims := [.s 4 0 1048575], lo := 0, w := 40, acc := .ro, view := .eData }
/-- [10:0] RO (R343): Generation -/
def E_GEN : Field :=
  { blk := 0x5, base := 0x100000003, dims := [.s 4 0 1048575], lo := 0, w := 11, acc := .ro, view := .eGen }
/-- [11] RO (R343): Entry h is in the table -/
def E_PRESENT : Field :=
  { blk := 0x5, base := 0x100000003, dims := [.s 4 0 1048575], lo := 11, w := 1, acc := .ro, view := .ePresent }
/-- [12] RO (R343): Disabled by parity (R325) -/
def E_PARITY : Field :=
  { blk := 0x5, base := 0x100000003, dims := [.s 4 0 1048575], lo := 12, w := 1, acc := .ro, view := .eParity }
/-- [30:13] RO (R343): Present bucket -/
def E_BUCKET : Field :=
  { blk := 0x5, base := 0x100000003, dims := [.s 4 0 1048575], lo := 13, w := 18, acc := .ro, view := .eBucket }
/-- [32:31] RO (R343): Present way -/
def E_WAY : Field :=
  { blk := 0x5, base := 0x100000003, dims := [.s 4 0 1048575], lo := 31, w := 2, acc := .ro, view := .eWay }
/-- Fields of the map, part 0. -/
def part0 : List Field :=
  [ RAKE_PERIOD, EPOCH, LEARN_Q, NO_SERVICE, TENANT_DROP, SPOOF_DROP, SRC_INVALID, MAC_LIMIT_DROP, MOVES, MOVE_DROP, HAIRPIN_DROP, UNKNOWN_DROP, UNKNOWN_FLOW, NULL_DROP, DARK_DROP, POLICE_DROP, EVICTED, AGED, PARITY_ERR, LEARN_DROP]
/-- Fields of the map, part 1. -/
def part1 : List Field :=
  [ LEARN_FULL, LEARN_HELD, FLOW_ID, TERM, TENANT, F_EN, MCAST, SRC_MODE, QUEUE, UP_POL, DN_POL, MAC_LIMIT, TAIL_ALLOC, S_VID, S_PUSH, MAC_COUNT, KIND, S_TENANT, LEARN, HAIRPIN]
/-- Fields of the map, part 2. -/
def part2 : List Field :=
  [ MOVE_OK, AGE_LIMIT, UP_DEST, DN_DEST, BC_GROUP, G_BASE, G_COUNT, G_TENANT, M_DEST, CIR, P_TENANT, COLOUR_AWARE, PIR, CBS, PBS, E_KEY0, E_KEY1, E_DATA, E_GEN, E_PRESENT]
/-- Fields of the map, part 3. -/
def part3 : List Field :=
  [ E_PARITY, E_BUCKET, E_WAY]
/-- Every named field of the map. -/
def all : List Field := part0 ++ part1 ++ part2 ++ part3

end Sys2Proof.Machine.Reg.Fwd

namespace Sys2Proof.Machine.Reg.Que

/-- [23:0] RW (R344): Guaranteed rate, 8 kb/s units -/
def MIN : Field :=
  { blk := 0x6, base := 0x0, dims := [.lvl], lo := 0, w := 24, acc := .rw, op := true, act := .node_ }
/-- [23:0] RW (R344): Peak rate, 8 kb/s units -/
def MAX : Field :=
  { blk := 0x6, base := 0x1, dims := [.lvl], lo := 0, w := 24, acc := .rw, act := .node_ }
/-- [23:0] RW (R344): Bytes; σ_q for a queue -/
def MIN_DEPTH : Field :=
  { blk := 0x6, base := 0x2, dims := [.lvl], lo := 0, w := 24, acc := .rw, op := true, act := .node_, rst := .k 10240 }
/-- [23:0] RW (R344): Bytes -/
def MAX_DEPTH : Field :=
  { blk := 0x6, base := 0x3, dims := [.lvl], lo := 0, w := 24, acc := .rw, act := .node_, rst := .k 10240 }
/-- [17:0] RW (R344): Levels 3 and 4 only; RO 0 elsewhere -/
def PARENT : Field :=
  { blk := 0x6, base := 0x4, dims := [.lvl], lo := 0, w := 18, acc := .rw, op := true, act := .parent }
/-- [25:18] RW (R344): 1–255 -/
def WEIGHT : Field :=
  { blk := 0x6, base := 0x4, dims := [.lvl], lo := 18, w := 8, acc := .rw, vmin := 1, vmax := 255, rst := .k 1 }
/-- [27:26] RW (R344): 0–3, 0 first -/
def PRIO : Field :=
  { blk := 0x6, base := 0x4, dims := [.lvl], lo := 26, w := 2, acc := .rw, rst := .k 3 }
/-- [33:28] RW (R344): Node tenant -/
def N_TENANT : Field :=
  { blk := 0x6, base := 0x4, dims := [.lvl], lo := 28, w := 6, acc := .rw, op := true }
/-- [34] RW (R344): Node enabled -/
def N_EN : Field :=
  { blk := 0x6, base := 0x4, dims := [.lvl], lo := 34, w := 1, acc := .rw, op := true, act := .node_ }
/-- [23:0] RW (R344): Level 4 only, bytes (R339) -/
def QLIMIT : Field :=
  { blk := 0x6, base := 0x5, dims := [.lvl], lo := 0, w := 24, acc := .rw, rst := .k 65536 }
/-- [23:0] RW (R344): Level 4 only, bytes, at most QLIMIT -/
def YLIMIT : Field :=
  { blk := 0x6, base := 0x6, dims := [.lvl], lo := 0, w := 24, acc := .rw, act := .yLimit, rst := .k 32768 }
/-- [27:0] RO (R344): Bytes held below the node -/
def QDEPTH : Field :=
  { blk := 0x6, base := 0x7, dims := [.lvl], lo := 0, w := 28, acc := .ro, view := .qDepth }
/-- [23:0] RW (R344): Uplink u (0–31), queue c (0–7), bytes (R341) -/
def UQ_LIMIT : Field :=
  { blk := 0x6, base := 0x100, dims := [.s 8 0 31, .s 1 0 7], lo := 0, w := 24, acc := .rw, rst := .k 1048576 }
/-- [27:0] RO (R344): Bytes queued -/
def UQ_DEPTH : Field :=
  { blk := 0x6, base := 0x400, dims := [.s 8 0 31, .s 1 0 7], lo := 0, w := 28, acc := .ro }
/-- [39:0] RC (R344): R339 -/
def Q_DROP : Field :=
  { blk := 0x6, base := 0x10, dims := [], lo := 0, w := 40, acc := .rc }
/-- [39:0] RC (R344): R339 -/
def Y_DROP : Field :=
  { blk := 0x6, base := 0x11, dims := [], lo := 0, w := 40, acc := .rc }
/-- [39:0] RC (R344): R341 -/
def UQ_DROP : Field :=
  { blk := 0x6, base := 0x12, dims := [], lo := 0, w := 40, acc := .rc }
/-- Fields of the map, part 0. -/
def part0 : List Field :=
  [ MIN, MAX, MIN_DEPTH, MAX_DEPTH, PARENT, WEIGHT, PRIO, N_TENANT, N_EN, QLIMIT, YLIMIT, QDEPTH, UQ_LIMIT, UQ_DEPTH, Q_DROP, Y_DROP, UQ_DROP]
/-- Every named field of the map. -/
def all : List Field := part0

end Sys2Proof.Machine.Reg.Que

namespace Sys2Proof.Machine.Reg.Buf

/-- [0] RW (R364): Allocation enabled; writing 0 after 1 is refused (R347) -/
def BUF_OPEN : Field :=
  { blk := 0x7, base := 0x0, dims := [], lo := 0, w := 1, acc := .rw, act := .bufOpen }
/-- [11:0] RW (R364): Pools A–D (p = 0–3): granules (R346) -/
def GRAN : Field :=
  { blk := 0x7, base := 0x1, dims := [.s 1 0 3], lo := 0, w := 12, acc := .rw, act := .gran, rst := .tab 0 [512, 1024, 640, 800] 0 }
/-- [34:12] RO (R364): Buffers in the pool -/
def COUNT : Field :=
  { blk := 0x7, base := 0x1, dims := [.s 1 0 3], lo := 12, w := 23, acc := .ro, rst := .tab 0 [131072, 65536, 16384, 5120] 0 }
/-- [6:0] RW (R364): 0–64 (R346) -/
def E_UNITS : Field :=
  { blk := 0x7, base := 0x5, dims := [], lo := 0, w := 7, acc := .rw, vmin := 0, vmax := 64, act := .eUnits, rst := .k 16 }
/-- [29:7] RO (R364): Buffers in pool E -/
def E_COUNT : Field :=
  { blk := 0x7, base := 0x5, dims := [], lo := 7, w := 23, acc := .ro, rst := .k 1048576 }
/-- [11:0] RO (R364): Granules in the lending reserve -/
def RESERVE_GRAN : Field :=
  { blk := 0x7, base := 0x6, dims := [], lo := 0, w := 12, acc := .ro, rst := .k 96 }
/-- [8:0] RW (R364): Gb/s, 1–400 (R350) -/
def E_RATE : Field :=
  { blk := 0x7, base := 0x7, dims := [], lo := 0, w := 9, acc := .rw, vmin := 1, vmax := 400, rst := .k 400, act := .eRate }
/-- [15:0] RW (R364): Buffers per on-die pool, 0–4,096 (R348) -/
def CTRL_RESERVE : Field :=
  { blk := 0x7, base := 0x8, dims := [], lo := 0, w := 16, acc := .rw, vmin := 0, vmax := 4096, rst := .k 256 }
/-- [39:0] RC (R364): R349 -/
def NO_BUFFER_CNT : Field :=
  { blk := 0x7, base := 0x10, dims := [], lo := 0, w := 40, acc := .rc }
/-- [39:0] RC (R364): R359 -/
def FREE_DOUBLE_CNT : Field :=
  { blk := 0x7, base := 0x11, dims := [], lo := 0, w := 40, acc := .rc }
/-- [39:0] RC (R364): R359 -/
def FREE_NOT_OWNER_CNT : Field :=
  { blk := 0x7, base := 0x12, dims := [], lo := 0, w := 40, acc := .rc }
/-- [39:0] RC (R364): R359 -/
def FREE_SHARED_CNT : Field :=
  { blk := 0x7, base := 0x13, dims := [], lo := 0, w := 40, acc := .rc }
/-- [39:0] RC (R364): R350 -/
def E_RATE_DROP : Field :=
  { blk := 0x7, base := 0x14, dims := [], lo := 0, w := 40, acc := .rc }
/-- [39:0] RC (R364): R350 -/
def E_ECC_DROP : Field :=
  { blk := 0x7, base := 0x15, dims := [], lo := 0, w := 40, acc := .rc }
/-- [39:0] RC (R364): R356 -/
def SHARE_OVF : Field :=
  { blk := 0x7, base := 0x16, dims := [], lo := 0, w := 40, acc := .rc }
/-- [22:0] RO (R364): Free buffers of pool p (0–4) -/
def FREE : Field :=
  { blk := 0x7, base := 0x100, dims := [.s 16 0 4], lo := 0, w := 23, acc := .ro, rst := .tab 0 [131072, 65536, 16384, 5120, 1048576] 0 }
/-- [22:0] RC (R364): Lowest FREE since last read -/
def FREE_MIN : Field :=
  { blk := 0x7, base := 0x101, dims := [.s 16 0 4], lo := 0, w := 23, acc := .rc, rst := .tab 0 [131072, 65536, 16384, 5120, 1048576] 0 }
/-- [22:0] RW (R364): R361 -/
def WM_LOW : Field :=
  { blk := 0x7, base := 0x102, dims := [.s 16 0 4], lo := 0, w := 23, acc := .rw, act := .marks, rst := .tab 0 [8192, 4096, 1024, 320, 65536] 0 }
/-- [22:0] RW (R364): R361 -/
def WM_HIGH : Field :=
  { blk := 0x7, base := 0x103, dims := [.s 16 0 4], lo := 0, w := 23, acc := .rw, act := .marks, rst := .tab 0 [16384, 8192, 2048, 640, 131072] 0 }
/-- [0] RO (R364): Below WM_LOW and not yet above WM_HIGH -/
def LOW : Field :=
  { blk := 0x7, base := 0x104, dims := [.s 16 0 4], lo := 0, w := 1, acc := .ro }
/-- [7:1] RO (R364): Lent buffers, 0–64 (R362) -/
def LENT : Field :=
  { blk := 0x7, base := 0x104, dims := [.s 16 0 4], lo := 1, w := 7, acc := .ro }
/-- [39:0] RC (R364): Allocations from the pool -/
def ALLOCS : Field :=
  { blk := 0x7, base := 0x105, dims := [.s 16 0 4], lo := 0, w := 40, acc := .rc }
/-- [39:0] RC (R364): Allocations that fell back into the pool (R348) -/
def FALLBACK_IN : Field :=
  { blk := 0x7, base := 0x106, dims := [.s 16 0 4], lo := 0, w := 40, acc := .rc }
/-- [27:0] RW (R364): Buffer i, generation g: owner word (R352); writes under R355 -/
def OWNER : Field :=
  { blk := 0x7, base := 0x200000000, dims := [.s 1073741824 0 4, .s 256 0 4194303, .s 2 1 127], lo := 0, w := 28, acc := .rw, act := .owner, view := .bufOwner }
/-- [33:28] RO (R364): Tenant tag -/
def TENANT : Field :=
  { blk := 0x7, base := 0x200000000, dims := [.s 1073741824 0 4, .s 256 0 4194303, .s 2 1 127], lo := 28, w := 6, acc := .ro, view := .bufTenant }
/-- [34] RO (R364): Buffer allocated -/
def IN_USE : Field :=
  { blk := 0x7, base := 0x200000000, dims := [.s 1073741824 0 4, .s 256 0 4194303, .s 2 1 127], lo := 34, w := 1, acc := .ro, view := .bufInUse }
/-- [35] RO (R364): Hardware owner's use has ended (R354) -/
def HW_DONE : Field :=
  { blk := 0x7, base := 0x200000000, dims := [.s 1073741824 0 4, .s 256 0 4194303, .s 2 1 127], lo := 35, w := 1, acc := .ro, view := .bufHwDone }
/-- [36] RO (R364): Held by the rehearsal unit (R362) -/
def TESTING : Field :=
  { blk := 0x7, base := 0x200000000, dims := [.s 1073741824 0 4, .s 256 0 4194303, .s 2 1 127], lo := 36, w := 1, acc := .ro, view := .bufTesting }
/-- [15:0] RW (R364): Share count; only OADD of 1 (R356) -/
def SHARES : Field :=
  { blk := 0x7, base := 0x200000001, dims := [.s 1073741824 0 4, .s 256 0 4194303, .s 2 1 127], lo := 0, w := 16, acc := .rw, act := .shares, view := .bufShares }
/-- [22:16] RO (R364): Present generation -/
def GEN : Field :=
  { blk := 0x7, base := 0x200000001, dims := [.s 1073741824 0 4, .s 256 0 4194303, .s 2 1 127], lo := 16, w := 7, acc := .ro, view := .bufGen }
/-- Fields of the map, part 0. -/
def part0 : List Field :=
  [ BUF_OPEN, GRAN, COUNT, E_UNITS, E_COUNT, RESERVE_GRAN, E_RATE, CTRL_RESERVE, NO_BUFFER_CNT, FREE_DOUBLE_CNT, FREE_NOT_OWNER_CNT, FREE_SHARED_CNT, E_RATE_DROP, E_ECC_DROP, SHARE_OVF, FREE, FREE_MIN, WM_LOW, WM_HIGH, LOW]
/-- Fields of the map, part 1. -/
def part1 : List Field :=
  [ LENT, ALLOCS, FALLBACK_IN, OWNER, TENANT, IN_USE, HW_DONE, TESTING, SHARES, GEN]
/-- Every named field of the map. -/
def all : List Field := part0 ++ part1

end Sys2Proof.Machine.Reg.Buf
end

