-- ==== Sys2Proof/Machine/RegHid.lean ====
section
/-! DEFINITION. State words the rules of spec/ imply and give no object address: timers, phases and counts that the steps keep.
They are held like registers, in block numbers the object space does not have (0x40 and up), so no access reaches them. -/

namespace Sys2Proof.Machine.Reg.Hid

/-- What a tenant token bucket lacks of being full, in rate times ticks (R468). -/
def EV_DEFICIT : Field :=
  { blk := 0x40, base := 0, dims := [.s 1 0 63], lo := 0, w := 64, acc := .ro }
/-- Extended stage time at which EV_DEFICIT was brought up to date (R468). -/
def EV_DEFICIT_AT : Field :=
  { blk := 0x41, base := 0, dims := [.s 1 0 63], lo := 0, w := 64, acc := .ro }
/-- The context a stagehand runs now, plus one; 0 for none (R24). -/
def CUR_CTX : Field :=
  { blk := 0x42, base := 0, dims := [.s 1 0 79], lo := 0, w := 5, acc := .ro }
/-- Generation last used by a ticket entry (R41). -/
def TIX_GEN : Field :=
  { blk := 0x43, base := 0, dims := [.s 1 0 4095], lo := 0, w := 8, acc := .ro }
/-- Ticket entries in use at most since TICKET_LOW was last read (held as in use, so that zero is the reset value) (R32). -/
def TIX_LOW : Field :=
  { blk := 0x44, base := 0, dims := [.s 1 0 0], lo := 0, w := 13, acc := .ro }
/-- Phase the device writes into the completion ring of a function now (R106). -/
def CQ_PHASE : Field :=
  { blk := 0x45, base := 0, dims := [.s 1 0 15], lo := 0, w := 1, acc := .ro, rst := .k 1 }
/-- Phase the device writes into the event ring of a function now (R106). -/
def EQ_PHASE : Field :=
  { blk := 0x46, base := 0, dims := [.s 1 0 15], lo := 0, w := 1, acc := .ro, rst := .k 1 }
/-- Entries of a function taken and not yet completed (R103). -/
def INFLIGHT_F : Field :=
  { blk := 0x47, base := 0, dims := [.s 1 0 15], lo := 0, w := 13, acc := .ro }
/-- Completions of a function written and not yet signalled (R108). -/
def CQ_UNSIG : Field :=
  { blk := 0x48, base := 0, dims := [.s 1 0 15], lo := 0, w := 16, acc := .ro }
/-- Extended stage time of the first unsignalled completion plus one; 0 for none (R108). -/
def CQ_COAL_AT : Field :=
  { blk := 0x49, base := 0, dims := [.s 1 0 15], lo := 0, w := 64, acc := .ro }
/-- Event records of a function written and not yet signalled (R108). -/
def EQ_UNSIG : Field :=
  { blk := 0x4A, base := 0, dims := [.s 1 0 15], lo := 0, w := 16, acc := .ro }
/-- Extended stage time of the first unsignalled record plus one; 0 for none (R108). -/
def EQ_COAL_AT : Field :=
  { blk := 0x4B, base := 0, dims := [.s 1 0 15], lo := 0, w := 64, acc := .ro }
/-- Mask bit of an MSI-X vector of a function (R108). -/
def MSIX_MASK : Field :=
  { blk := 0x4C, base := 0, dims := [.s 16 0 15, .s 1 0 15], lo := 0, w := 1, acc := .ro }
/-- Pending bit of an MSI-X vector of a function (R108). -/
def MSIX_PEND : Field :=
  { blk := 0x4D, base := 0, dims := [.s 16 0 15, .s 1 0 15], lo := 0, w := 1, acc := .ro }
/-- Function whose entry the device took last, for the round robin (R104). -/
def RR_FUNC : Field :=
  { blk := 0x4E, base := 0, dims := [.s 1 0 0], lo := 0, w := 4, acc := .ro }
/-- Resident images loaded so far, from which the free handle is chosen (R99). -/
def NEXT_HANDLE : Field :=
  { blk := 0x4F, base := 0, dims := [.s 1 0 0], lo := 0, w := 40, acc := .ro }
/-- Consecutive frames in which the tree's run faulted (R51). -/
def PR_STREAK : Field :=
  { blk := 0x50, base := 0, dims := [.s 1 0 63], lo := 0, w := 2, acc := .ro }
/-- The previous run was abandoned or faulted (w5 bit 2 of the next run) (R25). -/
def PR_FLAG2 : Field :=
  { blk := 0x51, base := 0, dims := [.s 1 0 63], lo := 0, w := 1, acc := .ro }
/-- The next run is a cold start (w5 bit 0) (R25). -/
def PR_COLD : Field :=
  { blk := 0x52, base := 0, dims := [.s 1 0 63], lo := 0, w := 1, acc := .ro }
/-- The run of the present frame has faulted (R51). -/
def PR_FAULTED : Field :=
  { blk := 0x53, base := 0, dims := [.s 1 0 63], lo := 0, w := 1, acc := .ro }
/-- What the token bucket of pool E lacks of being full: 1 byte is 8 x 62,208 units (R350). -/
def E_DEFICIT : Field :=
  { blk := 0x54, base := 0, dims := [.s 1 0 0], lo := 0, w := 64, acc := .ro }
/-- Extended stage time at which E_DEFICIT was brought up to date (R350). -/
def E_DEFICIT_AT : Field :=
  { blk := 0x55, base := 0, dims := [.s 1 0 0], lo := 0, w := 64, acc := .ro }
/-- What the prompt book writer lacks of its allowance: 1 byte is 62,208 units (R445). -/
def PB_DEFICIT : Field :=
  { blk := 0x56, base := 0, dims := [.s 1 0 0], lo := 0, w := 64, acc := .ro }
/-- Extended stage time at which PB_DEFICIT was brought up to date (R445). -/
def PB_DEFICIT_AT : Field :=
  { blk := 0x57, base := 0, dims := [.s 1 0 0], lo := 0, w := 64, acc := .ro }
/-- Consecutive bursts on which one variable of a terminal preset was clamped (R137). -/
def FENCE_RUN : Field :=
  { blk := 0x58, base := 0, dims := [.s 6126 0 63, .s 6 0 1020, .s 1 0 5], lo := 0, w := 9, acc := .ro }
/-- Clamps counted per terminal and variable (R137). -/
def FENCE_CLAMPS : Field :=
  { blk := 0x59, base := 0, dims := [.s 6126 0 63, .s 6 0 1020, .s 1 0 5], lo := 0, w := 40, acc := .ro }
/-- Extended stage time at which a terminal entered its state (R157). -/
def TERM_SINCE : Field :=
  { blk := 0x5A, base := 0, dims := [.s 1020 0 63, .s 1 0 1019], lo := 0, w := 64, acc := .ro }
/-- Unacknowledged sends of a drift correction; 0 when none is outstanding (R168). -/
def DRIFT_SENDS : Field :=
  { blk := 0x5B, base := 0, dims := [.s 1020 0 63, .s 1 0 1019], lo := 0, w := 2, acc := .ro }
/-- Extended stage time of the last send of a drift correction (R168). -/
def DRIFT_SENT_AT : Field :=
  { blk := 0x5C, base := 0, dims := [.s 1020 0 63, .s 1 0 1019], lo := 0, w := 64, acc := .ro }
/-- Extended stage time until which DRIFT_AVG is not updated (R168). -/
def DRIFT_HOLD : Field :=
  { blk := 0x5D, base := 0, dims := [.s 1020 0 63, .s 1 0 1019], lo := 0, w := 64, acc := .ro }
/-- Equalisation delay in the unit of Ranging_Time, upstream bits (R164). -/
def EQD_BITS : Field :=
  { blk := 0x5E, base := 0, dims := [.s 1020 0 63, .s 1 0 1019], lo := 0, w := 32, acc := .ro }
/-- State before RANGING (R157). -/
def RNG_PREV : Field :=
  { blk := 0x5F, base := 0, dims := [.s 1020 0 63, .s 1 0 1019], lo := 0, w := 3, acc := .ro }
/-- Consecutive bursts whose gain code ended within 8 codes of GAIN_MIN (R173). -/
def LVL_LOW : Field :=
  { blk := 0x60, base := 0, dims := [.s 1020 0 63, .s 1 0 1019], lo := 0, w := 7, acc := .ro }
/-- Consecutive bursts whose gain code ended within 8 codes of GAIN_MAX (R173). -/
def LVL_HIGH : Field :=
  { blk := 0x61, base := 0, dims := [.s 1020 0 63, .s 1 0 1019], lo := 0, w := 7, acc := .ro }
/-- Extended stage time of the last levelling plus one; 0 for never (R173). -/
def LVL_AT : Field :=
  { blk := 0x62, base := 0, dims := [.s 1020 0 63, .s 1 0 1019], lo := 0, w := 64, acc := .ro }
/-- Terminal granted on channel 0 only for its skew (R125). -/
def SKEW_HELD : Field :=
  { blk := 0x63, base := 0, dims := [.s 1020 0 63, .s 1 0 1019], lo := 0, w := 1, acc := .ro }
/-- Consecutive bursts within BOND_SKEW_MAX while held (R125). -/
def SKEW_GOOD : Field :=
  { blk := 0x64, base := 0, dims := [.s 1020 0 63, .s 1 0 1019], lo := 0, w := 7, acc := .ro }
/-- Measured arrival skew between the channels in ticks (R125). -/
def SKEW : Field :=
  { blk := 0x65, base := 0, dims := [.s 1020 0 63, .s 1 0 1019], lo := 0, w := 40, acc := .ro }
/-- BOND_SKEW occurrences counted (R125). -/
def SKEW_EVENTS : Field :=
  { blk := 0x66, base := 0, dims := [.s 1 0 63], lo := 0, w := 40, acc := .ro }
/-- Frame number, plus one, of the last good burst that names the terminal (R162). -/
def GOOD_AT : Field :=
  { blk := 0x67, base := 0, dims := [.s 1020 0 63, .s 1 0 1019], lo := 0, w := 64, acc := .ro }
/-- Consecutive granted bursts of the terminal with no delimiter (R138). -/
def MISS_RUN : Field :=
  { blk := 0x68, base := 0, dims := [.s 1020 0 63, .s 1 0 1019], lo := 0, w := 2, acc := .ro }
/-- The downstream engine of a head-role port runs on the frame grid (R122). -/
def F_ON : Field :=
  { blk := 0x69, base := 0, dims := [.s 1 0 63], lo := 0, w := 1, acc := .ro }
/-- Extended stage time at which the present frame began (R531). -/
def F_EXT : Field :=
  { blk := 0x6A, base := 0, dims := [.s 1 0 63], lo := 0, w := 64, acc := .ro }
/-- Extended stage time of the sheet deadline of the present frame (R183). -/
def D_EXT : Field :=
  { blk := 0x6B, base := 0, dims := [.s 1 0 63], lo := 0, w := 64, acc := .ro }
/-- Extended stage time at which SerDes training ends (R122). -/
def TRAIN_UNTIL : Field :=
  { blk := 0x6C, base := 0, dims := [.s 1 0 63], lo := 0, w := 64, acc := .ro }
/-- Extended stage time at which the next cue light frame starts (R238). -/
def CUE_NEXT : Field :=
  { blk := 0x6D, base := 0, dims := [.s 1 0 0], lo := 0, w := 64, acc := .ro }
/-- Fractional accumulator of the frame spacing, in tenths of a tick (R238). -/
def CUE_ACC : Field :=
  { blk := 0x6E, base := 0, dims := [.s 1 0 0], lo := 0, w := 9, acc := .ro }
/-- A SYNC pattern has been seen since frame lock was lost (R241). -/
def CUE_SYNCS : Field :=
  { blk := 0x6F, base := 0, dims := [.s 1 0 0], lo := 0, w := 1, acc := .ro }
/-- Extended stage time of the last valid frame on a carrier (0 cue light, 1 twin lanes), plus one (R242). -/
def CARRIER_AT : Field :=
  { blk := 0x70, base := 0, dims := [.s 1 0 1], lo := 0, w := 64, acc := .ro }
/-- HB of the last valid frame on a carrier, plus one (R242). -/
def CARRIER_HB : Field :=
  { blk := 0x71, base := 0, dims := [.s 1 0 1], lo := 0, w := 25, acc := .ro }
/-- Extended stage time at which the twin claim was last lost, plus one (R250). -/
def LOST_AT : Field :=
  { blk := 0x72, base := 0, dims := [.s 1 0 0], lo := 0, w := 64, acc := .ro }
/-- Extended stage time at which the twin claim was last valid again (R250). -/
def BACK_AT : Field :=
  { blk := 0x73, base := 0, dims := [.s 1 0 0], lo := 0, w := 64, acc := .ro }
/-- The shared state has been copied since the pair formed or the lanes came back (R267). -/
def FORMED : Field :=
  { blk := 0x74, base := 0, dims := [.s 1 0 0], lo := 0, w := 1, acc := .ro }
/-- A reset in graft-understudy mode has been announced (R264). -/
def RST_NOTICE : Field :=
  { blk := 0x76, base := 0, dims := [.s 1 0 0], lo := 0, w := 1, acc := .ro }
/-- Extended stage time at which the announced reset acts at the latest (R264). -/
def RST_AT : Field :=
  { blk := 0x77, base := 0, dims := [.s 1 0 0], lo := 0, w := 64, acc := .ro }
/-- A window granted to an active terminal has passed in the present frame (R151). -/
def W_GRANT : Field :=
  { blk := 0x78, base := 0, dims := [.s 1 0 63], lo := 0, w := 1, acc := .ro }
/-- A delimiter has been found in a granted window in the present frame (R151). -/
def W_FOUND : Field :=
  { blk := 0x79, base := 0, dims := [.s 1 0 63], lo := 0, w := 1, acc := .ro }
/-- A window granted to an active terminal by a map of this unit has passed in the present frame (R259). -/
def W_OWN : Field :=
  { blk := 0x7A, base := 0, dims := [.s 1 0 63], lo := 0, w := 1, acc := .ro }
/-- Optical energy has been detected in the present frame (R254). -/
def W_ENERGY : Field :=
  { blk := 0x7B, base := 0, dims := [.s 1 0 63], lo := 0, w := 1, acc := .ro }
/-- Consecutive frames with grants and no delimiter (R151). -/
def NT_RUN : Field :=
  { blk := 0x7C, base := 0, dims := [.s 1 0 63], lo := 0, w := 4, acc := .ro }
/-- Consecutive frames in which the twin found delimiters and this unit none (R246). -/
def UNDER_RUN : Field :=
  { blk := 0x7D, base := 0, dims := [.s 1 0 63], lo := 0, w := 4, acc := .ro }
/-- Frames of the verification period that have passed (R259). -/
def VERIFY_N : Field :=
  { blk := 0x7E, base := 0, dims := [.s 1 0 63], lo := 0, w := 5, acc := .ro }
/-- Applied shift of the lighting unit as last received, in 1/8 tick, two's complement (R255). -/
def SA : Field :=
  { blk := 0x7F, base := 0, dims := [.s 1 0 63], lo := 0, w := 32, acc := .ro }
/-- Extended stage time at which the wait-to-restore has run, plus one; 0 when it is not running (R262). -/
def WTR_END : Field :=
  { blk := 0x80, base := 0, dims := [.s 1 0 63], lo := 0, w := 64, acc := .ro }
/-- The dark rehearsal of a wait-to-restore is under way (R262). -/
def WTR_DARK : Field :=
  { blk := 0x81, base := 0, dims := [.s 1 0 63], lo := 0, w := 1, acc := .ro }
/-- MODE of the port as mirrored from the lighting unit (R245). -/
def TWIN_MODE : Field :=
  { blk := 0x82, base := 0, dims := [.s 1 0 63], lo := 0, w := 3, acc := .ro }
/-- UP_RATE of the port as mirrored from the lighting unit (R245). -/
def TWIN_RATE : Field :=
  { blk := 0x83, base := 0, dims := [.s 1 0 63], lo := 0, w := 2, acc := .ro }
/-- TWIN_MODE and TWIN_RATE have been mirrored (R245). -/
def TWIN_CFG_V : Field :=
  { blk := 0x84, base := 0, dims := [.s 1 0 63], lo := 0, w := 1, acc := .ro }
/-- Extended stage time at which the port was last lit (R252). -/
def LIT_SINCE : Field :=
  { blk := 0x85, base := 0, dims := [.s 1 0 63], lo := 0, w := 64, acc := .ro }
/-- What the slow-path token bucket lacks of being full: 1 packet is 6,220,800,000 units (R279). -/
def SLOW_DEFICIT : Field :=
  { blk := 0x86, base := 0, dims := [.s 1 0 0], lo := 0, w := 64, acc := .ro }
/-- Extended stage time at which SLOW_DEFICIT was brought up to date (R279). -/
def SLOW_DEFICIT_AT : Field :=
  { blk := 0x87, base := 0, dims := [.s 1 0 0], lo := 0, w := 64, acc := .ro }
/-- Generation last used by a forwarding entry number (R319). -/
def FWD_GEN : Field :=
  { blk := 0x88, base := 0, dims := [.s 1 0 1048575], lo := 0, w := 11, acc := .ro }
/-- A run of MAC_LIMIT_DROP of the flow is under way (R315). -/
def MACL_RUN : Field :=
  { blk := 0x89, base := 0, dims := [.s 16384 0 63, .s 1 0 16383], lo := 0, w := 1, acc := .ro }
/-- What the committed bucket of a policer lacks of being full: 1 byte is 6,220,800 units (R342). -/
def POL_C : Field :=
  { blk := 0x8A, base := 0, dims := [.s 1 0 262143], lo := 0, w := 64, acc := .ro }
/-- Extended stage time at which POL_C was brought up to date (R342). -/
def POL_C_AT : Field :=
  { blk := 0x8B, base := 0, dims := [.s 1 0 262143], lo := 0, w := 64, acc := .ro }
/-- What the peak bucket of a policer lacks of being full (R342). -/
def POL_P : Field :=
  { blk := 0x8C, base := 0, dims := [.s 1 0 262143], lo := 0, w := 64, acc := .ro }
/-- Extended stage time at which POL_P was brought up to date (R342). -/
def POL_P_AT : Field :=
  { blk := 0x8D, base := 0, dims := [.s 1 0 262143], lo := 0, w := 64, acc := .ro }
/-- Upstream codewords decoded in the present defect interval (R151). -/
def CW_INT : Field :=
  { blk := 0x8E, base := 0, dims := [.s 1 0 63], lo := 0, w := 40, acc := .ro }
/-- Uncorrectable upstream codewords in the present defect interval (R151). -/
def UNC_INT : Field :=
  { blk := 0x8F, base := 0, dims := [.s 1 0 63], lo := 0, w := 40, acc := .ro }
/-- Consecutive intervals above UNC_LIM while UP_DEG is clear, at or below it while it is set (R151). -/
def UNC_RUN : Field :=
  { blk := 0x90, base := 0, dims := [.s 1 0 63], lo := 0, w := 5, acc := .ro }
/-- Extended stage time at which a tail port lost its downstream, plus one; 0 while it has it (R148). -/
def TAIL_LOST_AT : Field :=
  { blk := 0x91, base := 0, dims := [.s 1 0 63], lo := 0, w := 64, acc := .ro }
/-- A Disable_Serial_Number naming the tail port holds it silent (R148). -/
def TAIL_SILENT : Field :=
  { blk := 0x92, base := 0, dims := [.s 1 0 63], lo := 0, w := 1, acc := .ro }
/-- Preamble length in bits of the last Burst_Profile a tail port took; 0 for the long preamble of its rate (R146). -/
def TAIL_PRE : Field :=
  { blk := 0x93, base := 0, dims := [.s 1 0 63], lo := 0, w := 16, acc := .ro }
/-- Extended stage time at which PONp_TXEN of a tail port is due to fall, plus one; 0 while it is low (R147). -/
def TX_SINCE : Field :=
  { blk := 0x94, base := 0, dims := [.s 1 0 63], lo := 0, w := 64, acc := .ro }
/-- A frame boundary has passed since the port began to train (R531). -/
def F_RUN : Field :=
  { blk := 0x95, base := 0, dims := [.s 1 0 63], lo := 0, w := 1, acc := .ro }
/-- First frame of the tree whose burst summary has not gone to the twin (R256). -/
def SUM_NEXT : Field :=
  { blk := 0x96, base := 0, dims := [.s 1 0 63], lo := 0, w := 40, acc := .ro }
/-- Whether `L_MIN` or `EQD_ZERO` has changed since D_pre was last broadcast (R159). -/
def DPRE_DUE : Field :=
  { blk := 0x97, base := 0, dims := [.s 1 0 63], lo := 0, w := 1, acc := .ro }
/-- Late sheets of the tree since the last digest records (R211). -/
def LATE_INT : Field :=
  { blk := 0x98, base := 0, dims := [.s 1 0 63], lo := 0, w := 40, acc := .ro }
/-- Extended stage time of the boundary at which digest records were last written in an EPON mode (R211). -/
def DIG_AT : Field :=
  { blk := 0x99, base := 0, dims := [.s 1 0 63], lo := 0, w := 64, acc := .ro }
/-- Core of the wings pair taken for the tree and not yet entered, plus one (R207). -/
def SPARE_CORE : Field :=
  { blk := 0x9A, base := 0, dims := [.s 1 0 63], lo := 0, w := 7, acc := .ro }
/-- Frame boundaries that remain until the taken spare is entered (R207). -/
def SPARE_STEP : Field :=
  { blk := 0x9B, base := 0, dims := [.s 1 0 63], lo := 0, w := 2, acc := .ro }
/-- Context request words of context core x 16 + context (R385). -/
def CREQ : Field :=
  { blk := 0x9C, base := 0, dims := [.s 7 0 1279, .s 1 0 6], lo := 0, w := 40, acc := .ro }
/-- CSTAT of a context (R385). -/
def CSTAT : Field :=
  { blk := 0x9D, base := 0, dims := [.s 1 0 1279], lo := 0, w := 40, acc := .ro }
/-- The context request of a context runs (R385). -/
def CREQ_BUSY : Field :=
  { blk := 0x9E, base := 0, dims := [.s 1 0 1279], lo := 0, w := 1, acc := .ro }
/-- Key_Control messages sent in the present re-key of a terminal (R378). -/
def REKEY_TRY : Field :=
  { blk := 0x9F, base := 0, dims := [.s 1020 0 63, .s 1 0 1019], lo := 0, w := 2, acc := .ro }
/-- Extended stage time of the last Key_Control of a re-key (R378). -/
def REKEY_AT : Field :=
  { blk := 0xA0, base := 0, dims := [.s 1020 0 63, .s 1 0 1019], lo := 0, w := 64, acc := .ro }
/-- Consecutive entropy samples that passed both tests, up to 1,024 (R390). -/
def ENT_RUN : Field :=
  { blk := 0xA1, base := 0, dims := [.s 1 0 0], lo := 0, w := 11, acc := .ro }
/-- The twin binds the key slot for transmission (R391). -/
def TWIN_BOUND : Field :=
  { blk := 0xA2, base := 0, dims := [.s 1 0 147455], lo := 0, w := 1, acc := .ro }
/-- Frequency term f of the servo of a domain, in units of 2^-48, two's complement (R405). -/
def SERVO_F : Field :=
  { blk := 0xA3, base := 0, dims := [.s 1 0 1], lo := 0, w := 64, acc := .ro }
/-- Extended stage time at which a domain last accepted an offset (R407). -/
def MASTER_AT : Field :=
  { blk := 0xA4, base := 0, dims := [.s 1 0 1], lo := 0, w := 64, acc := .ro }
/-- TIME_STEP_PENDING has been raised in the present pending episode (R404). -/
def STEP_EP : Field :=
  { blk := 0xA5, base := 0, dims := [.s 1 0 1], lo := 0, w := 1, acc := .ro }
/-- Records written to a timestamp queue, modulo 256 (R409). -/
def TS_SEQ : Field :=
  { blk := 0xA6, base := 0, dims := [.s 2 0 32, .s 1 0 1], lo := 0, w := 8, acc := .ro }
/-- Snapshot words of context core x 16 + context: stage time; nanoseconds, seconds, high seconds of output, A, B; EPOCH; OUT_DOM (R412). -/
def SNAP : Field :=
  { blk := 0xA7, base := 0, dims := [.s 12 0 1279, .s 1 0 11], lo := 0, w := 40, acc := .ro }
/-- Extended stage time of the last edge of PPS_OUT plus one; 0 for none (R415). -/
def PPS_AT : Field :=
  { blk := 0xA8, base := 0, dims := [.s 1 0 0], lo := 0, w := 64, acc := .ro }
/-- Extended stage time of the last whole second of the output time that PPS_OUT has met (R415). -/
def PPS_CROSS : Field :=
  { blk := 0xA9, base := 0, dims := [.s 1 0 0], lo := 0, w := 64, acc := .ro }
/-- Extended stage time of the last accepted edge of PPS_IN plus one; 0 for none (R416). -/
def PPSI_AT : Field :=
  { blk := 0xAA, base := 0, dims := [.s 1 0 0], lo := 0, w := 64, acc := .ro }
/-- RX_USABLE: the twin lanes this unit advertises as usable (R427). -/
def TW_ADV : Field :=
  { blk := 0xAB, base := 0, dims := [.s 1 0 0], lo := 0, w := 24, acc := .ro }
/-- The first set of the direction from the twin has been formed (R427). -/
def TW_FORMED : Field :=
  { blk := 0xAC, base := 0, dims := [.s 1 0 0], lo := 0, w := 1, acc := .ro }
/-- Extended stage time since which a twin lane has been usable, plus one; 0 while it is not (R427). -/
def TW_SINCE : Field :=
  { blk := 0xAD, base := 0, dims := [.s 1 0 23], lo := 0, w := 64, acc := .ro }
/-- Message sequence last used for a class 4 or 5 message (R424). -/
def TW_SEQ : Field :=
  { blk := 0xAE, base := 0, dims := [.s 1 0 0], lo := 0, w := 16, acc := .ro }
/-- Consecutive equaliser updates at which a variable of a lane was clamped (0 CTLE, 1 + t tap t) (R431). -/
def EQ_RUN : Field :=
  { blk := 0xAF, base := 0, dims := [.s 13 0 87, .s 1 0 12], lo := 0, w := 9, acc := .ro }
/-- Prompter that joined the wings after its retirement: 1 free, 2 taken (R208). -/
def JOINED : Field :=
  { blk := 0xB0, base := 0, dims := [.s 1 0 63], lo := 0, w := 2, acc := .ro }
/-- Core of the tree that stands out of service for a test, plus one (R481). -/
def TEST_PAIR : Field :=
  { blk := 0xB1, base := 0, dims := [.s 1 0 63], lo := 0, w := 7, acc := .ro }
/-- Core of the wings pair that serves the tree during a test, plus one (R481). -/
def TEST_WING : Field :=
  { blk := 0xB2, base := 0, dims := [.s 1 0 63], lo := 0, w := 7, acc := .ro }
/-- Test of the serving pair of a tree: 0 none, 1 the wings pair is entered at the next boundary, 2 it serves, 3 the tested pair returns at the next boundary (R481). -/
def TEST_STEP : Field :=
  { blk := 0xB3, base := 0, dims := [.s 1 0 63], lo := 0, w := 2, acc := .ro }
/-- The catalogue entry has run to OK or a failure in the present coverage cycle (R485). -/
def E_DONE : Field :=
  { blk := 0xB4, base := 0, dims := [.s 1 0 1023], lo := 0, w := 1, acc := .ro }
/-- The target of the catalogue entry has been retired (R484). -/
def E_GONE : Field :=
  { blk := 0xB5, base := 0, dims := [.s 1 0 1023], lo := 0, w := 1, acc := .ro }
/-- Entries of the catalogue (R477). -/
def E_COUNT : Field :=
  { blk := 0xB6, base := 0, dims := [.s 1 0 0], lo := 0, w := 11, acc := .ro }
/-- LC_REQ has been written since the last LC_GO (R474). -/
def LC_ASKED : Field :=
  { blk := 0xB7, base := 0, dims := [.s 1 0 0], lo := 0, w := 1, acc := .ro }
/-- The fuses of the wrapping key have been blown (R475). -/
def WRAP_BLOWN : Field :=
  { blk := 0xB8, base := 0, dims := [.s 1 0 0], lo := 0, w := 1, acc := .ro }
/-- Manufacturing test has been asked for (R488). -/
def MFG : Field :=
  { blk := 0xB9, base := 0, dims := [.s 1 0 0], lo := 0, w := 1, acc := .ro }
/-- What holds the device in reset, a bit for each cause of R505; bit 0 until VIN has become valid (R506). -/
def HELD : Field :=
  { blk := 0xBA, base := 0, dims := [.s 1 0 0], lo := 0, w := 11, acc := .ro, rst := .k 1 }
/-- The system program has been started (R508). -/
def SYS_RUN : Field :=
  { blk := 0xBB, base := 0, dims := [.s 1 0 0], lo := 0, w := 1, acc := .ro }
/-- Extended stage time at which the watchdog period last began (R507). -/
def WDOG_AT : Field :=
  { blk := 0xBC, base := 0, dims := [.s 1 0 0], lo := 0, w := 64, acc := .ro }
/-- Lowest VIN of the present dip (R495). -/
def DIP_LOW : Field :=
  { blk := 0xBD, base := 0, dims := [.s 1 0 0], lo := 0, w := 13, acc := .ro }
/-- Extended stage time at which the present dip began (R495). -/
def DIP_AT : Field :=
  { blk := 0xBE, base := 0, dims := [.s 1 0 0], lo := 0, w := 64, acc := .ro }
/-- Extended stage time at which the dip hold has run, plus one; 0 when none runs (R495). -/
def DIP_END : Field :=
  { blk := 0xBF, base := 0, dims := [.s 1 0 0], lo := 0, w := 64, acc := .ro }
/-- Present VCORE in units of 0.5 mV (R499). -/
def VCORE_H : Field :=
  { blk := 0xC0, base := 0, dims := [.s 1 0 0], lo := 0, w := 11, acc := .ro }
/-- Consecutive updates at which the loop wanted to go beyond a fence (R500). -/
def AVS_RUN : Field :=
  { blk := 0xC1, base := 0, dims := [.s 1 0 0], lo := 0, w := 9, acc := .ro }
/-- Consecutive updates at VCORE_MAX with a slack below MARGIN_CRIT (R501). -/
def MARG_RUN : Field :=
  { blk := 0xC2, base := 0, dims := [.s 1 0 0], lo := 0, w := 7, acc := .ro }
/-- Consecutive updates since MARGIN_CRIT_S set in which every slack was at least MARGIN_CRIT (R501). -/
def MARG_OK : Field :=
  { blk := 0xC3, base := 0, dims := [.s 1 0 0], lo := 0, w := 17, acc := .ro }
/-- Number of the open value BOOT_TIME had when stage time started, plus one (R234). -/
def BOOT_FREE : Field :=
  { blk := 0xC4, base := 0, dims := [.s 1 0 0], lo := 0, w := 64, acc := .ro }
/-- Extended stage time at which stage time started (R234). -/
def BOOT_E : Field :=
  { blk := 0xC5, base := 0, dims := [.s 1 0 0], lo := 0, w := 64, acc := .ro }
/-- The script context of a stagehand that ran last, for the round robin (R24). -/
def RR_CTX : Field :=
  { blk := 0xC7, base := 0, dims := [.s 1 0 79], lo := 0, w := 4, acc := .ro }
/-- The last 58 bits that the cue light sent scrambled, newest lowest (R240). -/
def CUE_SCR_TX : Field :=
  { blk := 0xC8, base := 0, dims := [.s 1 0 0], lo := 0, w := 58, acc := .ro }
/-- The last 58 scrambled bits that the cue light received, newest lowest (R240). -/
def CUE_SCR_RX : Field :=
  { blk := 0xC9, base := 0, dims := [.s 1 0 0], lo := 0, w := 58, acc := .ro }
/-- The unit started stage time alone, and the twin has not been seen held since (R234). -/
def ALONE : Field :=
  { blk := 0xCA, base := 0, dims := [.s 1 0 0], lo := 0, w := 1, acc := .ro }
/-- An alignment probe has been answered (R234). -/
def PROBED : Field :=
  { blk := 0xCB, base := 0, dims := [.s 1 0 0], lo := 0, w := 1, acc := .ro }
/-- PAIR_WAIT as it stood when PAIR_SEL was written, in ms (R232). -/
def PAIR_WAIT_SET : Field :=
  { blk := 0xCC, base := 0, dims := [.s 1 0 0], lo := 0, w := 16, acc := .ro }
/-- Ticks that PAIR_WAIT adds to BOOT_TIME before a start alone (R234). -/
def BOOT_ADD : Field :=
  { blk := 0xCD, base := 0, dims := [.s 1 0 0], lo := 0, w := 40, acc := .ro }
/-- Entries that wait in the queue of a control channel (R272, R273). -/
def CHQ : Field :=
  { blk := 0xCE, base := 0, dims := [.s 1 0 5], lo := 0, w := 14, acc := .ro }
/-- Packets that a profile dropped because no rule matched (R291). -/
def MISS_DROP : Field :=
  { blk := 0xCF, base := 0, dims := [.s 1 0 255], lo := 0, w := 40, acc := .ro }
/-- TENANT of a flow of the twin in graft-wide mode, as the twin has told it (R313, R318). -/
def TWIN_FT : Field :=
  { blk := 0xD0, base := 0, dims := [.s 16384 0 63, .s 1 0 16383], lo := 0, w := 6, acc := .ro }
/-- DN_POL of a flow of the twin in graft-wide mode, as the twin has told it (R312, R318). -/
def TWIN_DP : Field :=
  { blk := 0xD1, base := 0, dims := [.s 16384 0 63, .s 1 0 16383], lo := 0, w := 18, acc := .ro }
/-- Whether a read has set the lowest level of a pool (0–4) or of the ticket entries (5) to zero, no change of that level having come since (R7). -/
def LOW_READ : Field :=
  { blk := 0xD2, base := 0, dims := [.s 1 0 5], lo := 0, w := 1, acc := .ro }
/-- Whether `FENCED` has been raised for the present run of clamps, per terminal and variable; variable 6 is the drift loop (R137, R169). -/
def FENCED_SET : Field :=
  { blk := 0xD3, base := 0, dims := [.s 7147 0 63, .s 7 0 1020, .s 1 0 6], lo := 0, w := 1, acc := .ro }
/-- Which of the eight frames up to `GOOD_AT` had a good burst of a terminal, the newest lowest (R162). -/
def GOOD_HIST : Field :=
  { blk := 0xD4, base := 0, dims := [.s 1020 0 63, .s 1 0 1019], lo := 0, w := 8, acc := .ro }
/-- Codewords of the terminal's bursts (R142). -/
def TERM_CW : Field :=
  { blk := 0xD5, base := 0, dims := [.s 1020 0 63, .s 1 0 1019], lo := 0, w := 40, acc := .ro }
/-- Corrected bits of the terminal's bursts (R142). -/
def TERM_COR : Field :=
  { blk := 0xD6, base := 0, dims := [.s 1020 0 63, .s 1 0 1019], lo := 0, w := 40, acc := .ro }
/-- Uncorrectable codewords of the terminal's bursts (R142). -/
def TERM_UNC : Field :=
  { blk := 0xD7, base := 0, dims := [.s 1020 0 63, .s 1 0 1019], lo := 0, w := 40, acc := .ro }
/-- Since when the integration interval of a defect runs: 0 the level of `PONp_LOS`, 1 `UP_DEG`, 2 `DN_SD`, 3 `DN_SF` (R151). -/
def DEF_AT : Field :=
  { blk := 0xD8, base := 0, dims := [.s 4 0 63, .s 1 0 3], lo := 0, w := 64, acc := .ro }
/-- Downstream frames of the flow discarded for want of a key (R130). -/
def FLOW_DISC : Field :=
  { blk := 0xD9, base := 0, dims := [.s 16384 0 63, .s 1 0 16383], lo := 0, w := 40, acc := .ro }
/-- Which of the last 64 sync headers of a lane with block lock were invalid, the newest in bit 0 (R426). -/
def HDR_BAD : Field :=
  { blk := 0xDA, base := 0, dims := [.s 1 0 87], lo := 0, w := 64, acc := .ro }
/-- Consecutive valid sync headers of a lane without block lock (R426). -/
def HDR_RUN : Field :=
  { blk := 0xDB, base := 0, dims := [.s 1 0 87], lo := 0, w := 7, acc := .ro }
/-- Consecutive markers of a lane's own number without marker lock (R426). -/
def MK_RUN : Field :=
  { blk := 0xDC, base := 0, dims := [.s 1 0 87], lo := 0, w := 2, acc := .ro }
/-- Consecutive expected markers that a lane with marker lock misses (R426). -/
def MK_MISS : Field :=
  { blk := 0xDD, base := 0, dims := [.s 1 0 87], lo := 0, w := 2, acc := .ro }
/-- Consecutive predicted bits, or symbols on a PAM4 lane, of a checker without lock (R432). -/
def PRBS_RUN : Field :=
  { blk := 0xDE, base := 0, dims := [.s 1 0 87], lo := 0, w := 9, acc := .ro }
/-- Which of the last 256 bits of a checker with lock were in error, the newest in bit 0 of word 0 (R432). -/
def PRBS_BAD : Field :=
  { blk := 0xDF, base := 0, dims := [.s 4 0 87, .s 1 0 3], lo := 0, w := 64, acc := .ro }
/-- Whether `FENCED` has been raised for the present run of clamps of a lane's variable (R431). -/
def EQ_FENCED : Field :=
  { blk := 0xE0, base := 0, dims := [.s 13 0 87, .s 1 0 12], lo := 0, w := 1, acc := .ro }
/-- Whether `FENCED` has been raised for the present run of the core voltage loop (R500). -/
def AVS_FENCED : Field :=
  { blk := 0xE1, base := 0, dims := [.s 1 0 0], lo := 0, w := 1, acc := .ro }
/-- The direction from the twin waits for the marker row that acknowledges its re-form (R428). -/
def RX_REFORM : Field :=
  { blk := 0xE2, base := 0, dims := [.s 1 0 0], lo := 0, w := 1, acc := .ro }
/-- Frames of the uplink discarded for want of a key (R375). -/
def UL_DISC : Field :=
  { blk := 0xE3, base := 0, dims := [.s 1 0 31], lo := 0, w := 40, acc := .ro }
/-- Catalogue entry whose slice starts once the wings pair serves the tree, plus one (R480, R481). -/
def TEST_ENTRY : Field :=
  { blk := 0xE4, base := 0, dims := [.s 1 0 63], lo := 0, w := 11, acc := .ro }
/-- Bit errors that the lane's ratio is estimated from, in the running interval of `SD` and of `SF` (R433). -/
def LANE_ERR : Field :=
  { blk := 0xE6, base := 0, dims := [.s 2 0 87, .s 1 0 1], lo := 0, w := 64, acc := .ro }
/-- The scrambler of a twin lane: the last 58 bits it sent (R424). -/
def TW_SCR : Field :=
  { blk := 0xE7, base := 0, dims := [.s 1 0 23], lo := 0, w := 58, acc := .ro }
/-- `TX_PRE`, `TX_MAIN` and `TX_POST` as software wrote them, in bits 0 to 18, and in bit 19 whether the far end's training has moved the FIR since (R430). -/
def TX_SAVED : Field :=
  { blk := 0xE8, base := 0, dims := [.s 1 0 31], lo := 0, w := 20, acc := .ro }

end Sys2Proof.Machine.Reg.Hid
end

