-- ==== Sys2Proof/Machine/RegHost.lean ====
section
/-! DEFINITION. The object map of tenants and authority (block 0x10), the host bridge (0x11) and BAR0: one constant per named field, transcribed from the map tables of spec/. -/

namespace Sys2Proof.Machine.Reg.Aut

/-- [0] RW (R32): Tenant t enabled. RO for t = 0. -/
def EN : Field :=
  { blk := 0x10, base := 0x0, dims := [.s 1 0 63], lo := 0, w := 1, acc := .rw, act := .tenEn, rst := .tab 0 [1] 0 }
/-- [4:1] RW (R32): Virtual function bound to tenant t, 1–15; 0 = none. Tenant 0 is always bound to the PF, and the field is RO 0 for t = 0. A VF bound to two tenants … -/
def VF : Field :=
  { blk := 0x10, base := 0x0, dims := [.s 1 0 63], lo := 1, w := 4, acc := .rw, act := .tenVf }
/-- [12:5] RW (R32): Bit k−1 set: operator key k may sign this tenant's scripts -/
def KEYMASK : Field :=
  { blk := 0x10, base := 0x0, dims := [.s 1 0 63], lo := 5, w := 8, acc := .rw, rst := .tab 0 [255] 0 }
/-- [22:13] RW (R32): Tickets tenant t may hold device-wide, 1–1,023 -/
def TICKET_QUOTA : Field :=
  { blk := 0x10, base := 0x0, dims := [.s 1 0 63], lo := 13, w := 10, acc := .rw, vmin := 1, vmax := 1023, rst := .k 256 }
/-- [29:23] RW (R32): Script contexts tenant t may occupy at once, 0–120 -/
def MAX_CTX : Field :=
  { blk := 0x10, base := 0x0, dims := [.s 1 0 63], lo := 23, w := 7, acc := .rw, vmin := 0, vmax := 120, rst := .k 8 }
/-- [9:0] RO (R32): Tickets tenant t holds now -/
def TICKETS_HELD : Field :=
  { blk := 0x10, base := 0x40, dims := [.s 1 0 63], lo := 0, w := 10, acc := .ro, view := .ticketsHeld }
/-- [16:10] RO (R32): Script contexts tenant t occupies now -/
def CTX_RUNNING : Field :=
  { blk := 0x10, base := 0x40, dims := [.s 1 0 63], lo := 10, w := 7, acc := .ro, view := .ctxRunning }
/-- [39:0] RW (R32): Object address of the first word of region n (n = 0–255) -/
def REGION_BASE : Field :=
  { blk := 0x10, base := 0x100, dims := [.s 4 0 255], lo := 0, w := 40, acc := .rw, rst := .tab 0 [0x2000000003, 0x2400000000] 0 }
/-- [33:0] RW (R32): Length of region n in words; 0 = empty -/
def REGION_LEN : Field :=
  { blk := 0x10, base := 0x101, dims := [.s 4 0 255], lo := 0, w := 34, acc := .rw, rst := .tab 0 [1, 2] 0 }
/-- [5:0] RW (R32): Tag given to objects in region n -/
def REGION_TENANT : Field :=
  { blk := 0x10, base := 0x102, dims := [.s 4 0 255], lo := 0, w := 6, acc := .rw }
/-- [6] RW (R32): Every tenant may read region n (R27) -/
def PUBLIC_RD : Field :=
  { blk := 0x10, base := 0x102, dims := [.s 4 0 255], lo := 6, w := 1, acc := .rw, rst := .tab 0 [1, 1] 0 }
/-- [7] RW (R32): Region n takes part in tagging -/
def VALID : Field :=
  { blk := 0x10, base := 0x102, dims := [.s 4 0 255], lo := 7, w := 1, acc := .rw, rst := .tab 0 [1, 1] 0 }
/-- [31:0] RW (R32): Operator key k (k = 1–8), word j = 0–23: bytes 4j to 4j+3 of the 96-byte P-384 public key (x then y), most significant byte in [31:24] -/
def OPKEY : Field :=
  { blk := 0x10, base := 0x7E0, dims := [.s 32 1 8, .s 1 0 23], lo := 0, w := 32, acc := .rw }
/-- [0] RW (R32): Key k may be used -/
def OPKEY_VALID : Field :=
  { blk := 0x10, base := 0x7F8, dims := [.s 32 1 8], lo := 0, w := 1, acc := .rw }
/-- [1] RW (R32): Once written 1, key k and this word are RO until device reset -/
def OPKEY_LOCK : Field :=
  { blk := 0x10, base := 0x7F8, dims := [.s 32 1 8], lo := 1, w := 1, acc := .rw }
/-- [31:0] RW (R32): Lowest image version accepted for kinds 2–3. A write lower than the present value completes DENIED with subcause 0x06. The words for kinds 0 and 1, … -/
def MIN_VERSION : Field :=
  { blk := 0x10, base := 0xA00, dims := [.s 1 2 3], lo := 0, w := 32, acc := .rw, act := .minVersion }
/-- [12:0] RO (R32): Free entries in the device ticket pool -/
def TICKET_FREE : Field :=
  { blk := 0x10, base := 0xB00, dims := [], lo := 0, w := 13, acc := .ro, view := .ticketFree, rst := .k 4096 }
/-- [12:0] RC (R32): Lowest value of TICKET_FREE since last read -/
def TICKET_LOW : Field :=
  { blk := 0x10, base := 0xB01, dims := [], lo := 0, w := 13, acc := .rc, view := .ticketLow, rst := .k 4096 }
/-- Fields of the map, part 0. -/
def part0 : List Field :=
  [ EN, VF, KEYMASK, TICKET_QUOTA, MAX_CTX, TICKETS_HELD, CTX_RUNNING, REGION_BASE, REGION_LEN, REGION_TENANT, PUBLIC_RD, VALID, OPKEY, OPKEY_VALID, OPKEY_LOCK, MIN_VERSION, TICKET_FREE, TICKET_LOW]
/-- Every named field of the map. -/
def all : List Field := part0

end Sys2Proof.Machine.Reg.Aut

namespace Sys2Proof.Machine.Reg.Hst

/-- [39:0] RW (R109): Carried to RES0 -/
def SELF_RES0 : Field :=
  { blk := 0x11, base := 0x0, dims := [], lo := 0, w := 40, acc := .rw, act := .selfRes0, view := .selfRes0 }
/-- [39:0] RW (R109): Carried to RES1 -/
def SELF_RES1 : Field :=
  { blk := 0x11, base := 0x1, dims := [], lo := 0, w := 40, acc := .rw, act := .selfRes1, view := .selfRes1 }
/-- [7:0] WO (R109): Ends the script with this completion code. A code that R92 does not define as a completion is refused under R8, and the script continues. This … -/
def SELF_END : Field :=
  { blk := 0x11, base := 0x2, dims := [], lo := 0, w := 8, acc := .wo, act := .selfEnd }
/-- [3:0] RO (R109): Submitting function: 0 PF, 1–15 VF -/
def SELF_FUNC : Field :=
  { blk := 0x11, base := 0x3, dims := [], lo := 0, w := 4, acc := .ro, view := .selfFunc }
/-- [9:4] RO (R109): Tenant of the script -/
def SELF_TENANT : Field :=
  { blk := 0x11, base := 0x3, dims := [], lo := 4, w := 6, acc := .ro, view := .selfTenant }
/-- [31:0] RO (R109): TAG of the submission -/
def SELF_TAG : Field :=
  { blk := 0x11, base := 0x4, dims := [], lo := 0, w := 32, acc := .ro, view := .selfTag }
/-- [11:0] RO (R109): Function f's SQ_HEAD (f = 0–15) -/
def SQ_HEAD_F : Field :=
  { blk := 0x11, base := 0x100, dims := [.s 1 0 15], lo := 0, w := 12, acc := .ro, view := .sqHeadF }
/-- [23:12] RO (R109): Function f's CQ_TAIL -/
def CQ_TAIL_F : Field :=
  { blk := 0x11, base := 0x100, dims := [.s 1 0 15], lo := 12, w := 12, acc := .ro, view := .cqTailF }
/-- [24] RO (R109): Function f's CQ_STALL -/
def CQ_STALL_F : Field :=
  { blk := 0x11, base := 0x100, dims := [.s 1 0 15], lo := 24, w := 1, acc := .ro, view := .cqStallF }
/-- [0] RO (R109): PCIe link is up -/
def LINK_UP : Field :=
  { blk := 0x11, base := 0x200, dims := [], lo := 0, w := 1, acc := .ro }
/-- [6:1] RO (R109): Trained rate in GT/s: 2, 5, 8, 16 or 32 (2 for 2.5) -/
def LINK_GTS : Field :=
  { blk := 0x11, base := 0x200, dims := [], lo := 1, w := 6, acc := .ro }
/-- [10:7] RO (R109): Trained width: 1, 2, 4 or 8 -/
def LINK_WIDTH : Field :=
  { blk := 0x11, base := 0x200, dims := [], lo := 7, w := 4, acc := .ro }
/-- [11] RO (R109): SR-IOV VF Enable is set -/
def VFS_EN : Field :=
  { blk := 0x11, base := 0x200, dims := [], lo := 11, w := 1, acc := .ro }
/-- Fields of the map, part 0. -/
def part0 : List Field :=
  [ SELF_RES0, SELF_RES1, SELF_END, SELF_FUNC, SELF_TENANT, SELF_TAG, SQ_HEAD_F, CQ_TAIL_F, CQ_STALL_F, LINK_UP, LINK_GTS, LINK_WIDTH, VFS_EN]
/-- Every named field of the map. -/
def all : List Field := part0

end Sys2Proof.Machine.Reg.Hst

namespace Sys2Proof.Machine.Reg.Bar

/-- [15:0] RO (R96): Device number -/
def DEVICE : Field :=
  { blk := 0x0, base := 0x0, dims := [], lo := 0, w := 16, acc := .ro, rst := .k 38464 }
/-- [23:16] RO (R96): Silicon stepping -/
def STEPPING : Field :=
  { blk := 0x0, base := 0x0, dims := [], lo := 16, w := 8, acc := .ro, rst := .k 176 }
/-- [24] RO (R96): 0 OX9640-C, 1 OX9640-I; selects the thermal levels of R498 and nothing else (R1) -/
def ORDER_I : Field :=
  { blk := 0x0, base := 0x0, dims := [], lo := 24, w := 1, acc := .ro, rst := .order }
/-- [25] RO (R96): TWIN_UNIT strap -/
def UNIT : Field :=
  { blk := 0x0, base := 0x0, dims := [], lo := 25, w := 1, acc := .ro }
/-- [27:26] RO (R96): 0 solo, 1 graft-wide, 2 graft-understudy -/
def PAIRING : Field :=
  { blk := 0x0, base := 0x0, dims := [], lo := 26, w := 2, acc := .ro }
/-- [0] RO (R96): The system program runs, and rings may be enabled -/
def READY : Field :=
  { blk := 0x0, base := 0x8, dims := [], lo := 0, w := 1, acc := .ro }
/-- [1] RO (R96): Waiting for a system image over PCIe -/
def BOOT_WAIT : Field :=
  { blk := 0x0, base := 0x8, dims := [], lo := 1, w := 1, acc := .ro }
/-- [2] RO (R96): The system context has halted (R51) -/
def SYS_HALTED : Field :=
  { blk := 0x0, base := 0x8, dims := [], lo := 2, w := 1, acc := .ro }
/-- [6:4] RO (R96): 0 BLANK, 1 PROVISION, 2 FIELD, 3 RETURN, 4 SCRAP -/
def LIFECYCLE : Field :=
  { blk := 0x0, base := 0x8, dims := [], lo := 4, w := 3, acc := .ro }
/-- [15:0] WO (R96): Must be 0xC1EA for the write to act -/
def RESET_KEY : Field :=
  { blk := 0x0, base := 0x10, dims := [], lo := 0, w := 16, acc := .wo }
/-- [16] WO (R96): Reset the device, see *Resets* -/
def DEV_RESET : Field :=
  { blk := 0x0, base := 0x10, dims := [], lo := 16, w := 1, acc := .wo }
/-- [63:0] RW (R96): Host address of the system image, 4 KiB aligned -/
def BOOT_ADDR : Field :=
  { blk := 0x0, base := 0x18, dims := [], lo := 0, w := 64, acc := .rw }
/-- [31:0] RW (R96): Image length in bytes -/
def BOOT_LEN : Field :=
  { blk := 0x0, base := 0x20, dims := [], lo := 0, w := 32, acc := .rw }
/-- [0] WO (R96): Fetch the image; accepted only while BOOT_WAIT is 1. A write of 1 while BOOT_WAIT is 0 is refused with DENIED subcause 0x06 and recorded in HOST_ERR. -/
def BOOT_GO : Field :=
  { blk := 0x0, base := 0x28, dims := [], lo := 0, w := 1, acc := .wo }
/-- [4:0] RW (R96): BAR4 shows prompt book bytes PB_WIN·2^32 onward -/
def PB_WIN : Field :=
  { blk := 0x0, base := 0x30, dims := [], lo := 0, w := 5, acc := .rw }
/-- [39:0] RO (R96): Byte offset in the prompt book region of the next record to be written -/
def PB_WPTR : Field :=
  { blk := 0x0, base := 0x38, dims := [], lo := 0, w := 40, acc := .ro }
/-- [39:0] RO (R96): Times the prompt book region has wrapped -/
def PB_WRAPS : Field :=
  { blk := 0x0, base := 0x40, dims := [], lo := 0, w := 40, acc := .ro }
/-- [39:0] RO (R96): Stage time sampled when the read is served -/
def STAGE_NOW : Field :=
  { blk := 0x0, base := 0x48, dims := [], lo := 0, w := 40, acc := .ro }
/-- [63:0] RW (R96): Submission ring address, 4 KiB aligned -/
def SQ_BASE : Field :=
  { blk := 0x0, base := 0x1000, dims := [.s 65536 0 15], lo := 0, w := 64, acc := .rw }
/-- [3:0] RW (R96): Ring holds 2^SQ_LOG2 entries, 4–12 -/
def SQ_LOG2 : Field :=
  { blk := 0x0, base := 0x1008, dims := [.s 65536 0 15], lo := 0, w := 4, acc := .rw, rst := .k 4 }
/-- [8] RW (R96): Ring enabled -/
def SQ_EN : Field :=
  { blk := 0x0, base := 0x1008, dims := [.s 65536 0 15], lo := 8, w := 1, acc := .rw }
/-- [11:0] RW (R96): Doorbell: index after the last entry written by the host -/
def SQ_TAIL : Field :=
  { blk := 0x0, base := 0x1010, dims := [.s 65536 0 15], lo := 0, w := 12, acc := .rw }
/-- [11:0] RO (R96): Index of the next entry the device takes -/
def SQ_HEAD : Field :=
  { blk := 0x0, base := 0x1018, dims := [.s 65536 0 15], lo := 0, w := 12, acc := .ro }
/-- [63:0] RW (R96): Completion ring address, 4 KiB aligned -/
def CQ_BASE : Field :=
  { blk := 0x0, base := 0x1020, dims := [.s 65536 0 15], lo := 0, w := 64, acc := .rw }
/-- [3:0] RW (R96): 4–12 -/
def CQ_LOG2 : Field :=
  { blk := 0x0, base := 0x1028, dims := [.s 65536 0 15], lo := 0, w := 4, acc := .rw, rst := .k 4 }
/-- [8] RW (R96): Ring enabled -/
def CQ_EN : Field :=
  { blk := 0x0, base := 0x1028, dims := [.s 65536 0 15], lo := 8, w := 1, acc := .rw }
/-- [11:0] RW (R96): Index of the next entry the host will consume -/
def CQ_HEAD : Field :=
  { blk := 0x0, base := 0x1030, dims := [.s 65536 0 15], lo := 0, w := 12, acc := .rw }
/-- [11:0] RO (R96): Index of the next entry the device writes -/
def CQ_TAIL : Field :=
  { blk := 0x0, base := 0x1038, dims := [.s 65536 0 15], lo := 0, w := 12, acc := .ro }
/-- [63:0] RW (R96): Event ring address, 4 KiB aligned -/
def EQ_BASE : Field :=
  { blk := 0x0, base := 0x1040, dims := [.s 65536 0 15], lo := 0, w := 64, acc := .rw }
/-- [3:0] RW (R96): 4–12 -/
def EQ_LOG2 : Field :=
  { blk := 0x0, base := 0x1048, dims := [.s 65536 0 15], lo := 0, w := 4, acc := .rw, rst := .k 4 }
/-- [8] RW (R96): Ring enabled -/
def EQ_EN : Field :=
  { blk := 0x0, base := 0x1048, dims := [.s 65536 0 15], lo := 8, w := 1, acc := .rw }
/-- [11:0] RW (R96): Next entry the host will consume -/
def EQ_HEAD : Field :=
  { blk := 0x0, base := 0x1050, dims := [.s 65536 0 15], lo := 0, w := 12, acc := .rw }
/-- [11:0] RO (R96): Next entry the device writes -/
def EQ_TAIL : Field :=
  { blk := 0x0, base := 0x1058, dims := [.s 65536 0 15], lo := 0, w := 12, acc := .ro }
/-- [3:0] RW (R96): MSI-X vector for completions -/
def CQ_VEC : Field :=
  { blk := 0x0, base := 0x1060, dims := [.s 65536 0 15], lo := 0, w := 4, acc := .rw }
/-- [7:4] RW (R96): Vector for events -/
def EQ_VEC : Field :=
  { blk := 0x0, base := 0x1060, dims := [.s 65536 0 15], lo := 4, w := 4, acc := .rw, rst := .k 1 }
/-- [11:8] RW (R96): Vector for ring errors -/
def ERR_VEC : Field :=
  { blk := 0x0, base := 0x1060, dims := [.s 65536 0 15], lo := 8, w := 4, acc := .rw, rst := .k 2 }
/-- [14:12] RW (R96): [12] completions, [13] events, [14] errors -/
def IRQ_EN : Field :=
  { blk := 0x0, base := 0x1060, dims := [.s 65536 0 15], lo := 12, w := 3, acc := .rw }
/-- [7:0] RW (R96): Completions per interrupt; 0 acts as 1 -/
def COAL_CNT : Field :=
  { blk := 0x0, base := 0x1068, dims := [.s 65536 0 15], lo := 0, w := 8, acc := .rw, rst := .k 1 }
/-- [23:8] RW (R96): Interrupt no later than this many µs after the first unsignalled completion; 0 = off -/
def COAL_US : Field :=
  { blk := 0x0, base := 0x1068, dims := [.s 65536 0 15], lo := 8, w := 16, acc := .rw }
/-- [0] RO (R96): Taking is held by the completion rule (R103) -/
def CQ_STALL : Field :=
  { blk := 0x0, base := 0x1070, dims := [.s 65536 0 15], lo := 0, w := 1, acc := .ro }
/-- [1] W1C (R96): A doorbell was refused -/
def SQ_ERR : Field :=
  { blk := 0x0, base := 0x1070, dims := [.s 65536 0 15], lo := 1, w := 1, acc := .w1c }
/-- [2] W1C (R96): A CQ_HEAD write was refused -/
def CQ_ERR : Field :=
  { blk := 0x0, base := 0x1070, dims := [.s 65536 0 15], lo := 2, w := 1, acc := .w1c }
/-- [3] W1C (R96): Events were lost -/
def EQ_OVF : Field :=
  { blk := 0x0, base := 0x1070, dims := [.s 65536 0 15], lo := 3, w := 1, acc := .w1c }
/-- [4] W1C (R96): An EQ_HEAD write was refused -/
def EQ_ERR : Field :=
  { blk := 0x0, base := 0x1070, dims := [.s 65536 0 15], lo := 4, w := 1, acc := .w1c }
/-- [39:0] RC (R96): Events lost on this function's event ring -/
def EQ_LOST : Field :=
  { blk := 0x0, base := 0x1078, dims := [.s 65536 0 15], lo := 0, w := 40, acc := .rc }
/-- [39:0] RC (R96): Entries whose taking was held by R103 -/
def STALL_CNT : Field :=
  { blk := 0x0, base := 0x1080, dims := [.s 65536 0 15], lo := 0, w := 40, acc := .rc }
/-- [15:0] RO (R96): Offset of the last refused BAR0 write -/
def ERR_OFFSET : Field :=
  { blk := 0x0, base := 0x1088, dims := [.s 65536 0 15], lo := 0, w := 16, acc := .ro }
/-- [23:16] RO (R96): Its completion code -/
def ERR_CODE : Field :=
  { blk := 0x0, base := 0x1088, dims := [.s 65536 0 15], lo := 16, w := 8, acc := .ro }
/-- [31:24] RO (R96): Its subcause -/
def ERR_SUB : Field :=
  { blk := 0x0, base := 0x1088, dims := [.s 65536 0 15], lo := 24, w := 8, acc := .ro }
/-- [32] W1C (R96): Set on each refusal -/
def ERR_VALID : Field :=
  { blk := 0x0, base := 0x1088, dims := [.s 65536 0 15], lo := 32, w := 1, acc := .w1c }
/-- [0] RO (R96): 1 in a VF -/
def IS_VF : Field :=
  { blk := 0x0, base := 0x1090, dims := [.s 65536 0 15], lo := 0, w := 1, acc := .ro }
/-- [4:1] RO (R96): VF number; 0 in the PF -/
def VFNUM : Field :=
  { blk := 0x0, base := 0x1090, dims := [.s 65536 0 15], lo := 1, w := 4, acc := .ro }
/-- [10:5] RO (R96): Bound tenant, or 0x3F if unbound -/
def TENANT : Field :=
  { blk := 0x0, base := 0x1090, dims := [.s 65536 0 15], lo := 5, w := 6, acc := .ro }
/-- [11] RO (R96): The bound tenant is enabled -/
def TENANT_EN : Field :=
  { blk := 0x0, base := 0x1090, dims := [.s 65536 0 15], lo := 11, w := 1, acc := .ro }
/-- [8:0] RW (R96): PF counter page p (0–255) shows counter group GROUP (0–271) -/
def GROUP : Field :=
  { blk := 0x0, base := 0x2000, dims := [.s 8 0 255], lo := 0, w := 9, acc := .rw }
/-- [9] RW (R96): Page p is mapped -/
def VALID : Field :=
  { blk := 0x0, base := 0x2000, dims := [.s 8 0 255], lo := 9, w := 1, acc := .rw }
/-- [8:0] RW (R96): Page p (0–15) of VF v (1–15) -/
def VF_GROUP : Field :=
  { blk := 0x0, base := 0x2780, dims := [.s 128 1 15, .s 8 0 15], lo := 0, w := 9, acc := .rw }
/-- [9] RW (R96): Page p of VF v is mapped -/
def VF_VALID : Field :=
  { blk := 0x0, base := 0x2780, dims := [.s 128 1 15, .s 8 0 15], lo := 9, w := 1, acc := .rw }
/-- Fields of the map, part 0. -/
def part0 : List Field :=
  [ DEVICE, STEPPING, ORDER_I, UNIT, PAIRING, READY, BOOT_WAIT, SYS_HALTED, LIFECYCLE, RESET_KEY, DEV_RESET, BOOT_ADDR, BOOT_LEN, BOOT_GO, PB_WIN, PB_WPTR, PB_WRAPS, STAGE_NOW, SQ_BASE, SQ_LOG2]
/-- Fields of the map, part 1. -/
def part1 : List Field :=
  [ SQ_EN, SQ_TAIL, SQ_HEAD, CQ_BASE, CQ_LOG2, CQ_EN, CQ_HEAD, CQ_TAIL, EQ_BASE, EQ_LOG2, EQ_EN, EQ_HEAD, EQ_TAIL, CQ_VEC, EQ_VEC, ERR_VEC, IRQ_EN, COAL_CNT, COAL_US, CQ_STALL]
/-- Fields of the map, part 2. -/
def part2 : List Field :=
  [ SQ_ERR, CQ_ERR, EQ_OVF, EQ_ERR, EQ_LOST, STALL_CNT, ERR_OFFSET, ERR_CODE, ERR_SUB, ERR_VALID, IS_VF, VFNUM, TENANT, TENANT_EN, GROUP, VALID, VF_GROUP, VF_VALID]
/-- Every named field of the map. -/
def all : List Field := part0 ++ part1 ++ part2

end Sys2Proof.Machine.Reg.Bar
end

