-- ==== Sys2Proof/Machine/RegKey.lean ====
section
/-! DEFINITION. The object map of the cipher engine (0x08), time (0x09) and the lanes (0x0B): one constant per named field, transcribed from the map tables of spec/. -/

namespace Sys2Proof.Machine.Reg.Key

/-- [0] RW (R392): Side-channel measures off; BLANK only (R389) -/
def SCA_OFF : Field :=
  { blk := 0x8, base := 0x0, dims := [], lo := 0, w := 1, acc := .rw, act := .scaOff }
/-- [4:1] RW (R392): 1–8 (R379) -/
def NEAR_SHIFT : Field :=
  { blk := 0x8, base := 0x0, dims := [], lo := 1, w := 4, acc := .rw, vmin := 1, vmax := 8, rst := .k 4 }
/-- [5] RO (R392): R390 -/
def ENT_OK : Field :=
  { blk := 0x8, base := 0x0, dims := [], lo := 5, w := 1, acc := .ro }
/-- [16:0] RO (R392): Bit l: lane l healthy; bit 16 the spare -/
def LANE_OK : Field :=
  { blk := 0x8, base := 0x1, dims := [], lo := 0, w := 17, acc := .ro, rst := .k 131071 }
/-- [21:17] RO (R392): Lane served by the spare; 0x1F none -/
def SPARE_FOR : Field :=
  { blk := 0x8, base := 0x1, dims := [], lo := 17, w := 5, acc := .ro, rst := .k 31 }
/-- [12:0] RO (R392): Free request entries -/
def Q_FREE : Field :=
  { blk := 0x8, base := 0x2, dims := [], lo := 0, w := 13, acc := .ro, rst := .k 4096 }
/-- [31:0] RO (R392): Random bits -/
def RAND : Field :=
  { blk := 0x8, base := 0x3, dims := [], lo := 0, w := 32, acc := .ro, view := .rand }
/-- [32] RO (R392): R390 -/
def RAND_VALID : Field :=
  { blk := 0x8, base := 0x3, dims := [], lo := 32, w := 1, acc := .ro, view := .randValid }
/-- [39:0] RC (R392): R384 -/
def CIPHER_DROP : Field :=
  { blk := 0x8, base := 0x10, dims := [], lo := 0, w := 40, acc := .rc }
/-- [39:0] RC (R392): R386 -/
def AUTH_FAILS : Field :=
  { blk := 0x8, base := 0x11, dims := [], lo := 0, w := 40, acc := .rc }
/-- [39:0] RC (R392): R374, R375 -/
def KEY_ABSENT_CNT : Field :=
  { blk := 0x8, base := 0x12, dims := [], lo := 0, w := 40, acc := .rc }
/-- [39:0] RC (R392): R382 -/
def KEY_EXH_CNT : Field :=
  { blk := 0x8, base := 0x13, dims := [], lo := 0, w := 40, acc := .rc }
/-- [39:0] RC (R392): R380 -/
def SWITCHES : Field :=
  { blk := 0x8, base := 0x14, dims := [], lo := 0, w := 40, acc := .rc }
/-- [39:0] RC (R392): Requests held for a swap (R371) -/
def HELD_REQ : Field :=
  { blk := 0x8, base := 0x15, dims := [], lo := 0, w := 40, acc := .rc }
/-- [39:0] RC (R392): R390 -/
def ENT_FAILS : Field :=
  { blk := 0x8, base := 0x16, dims := [], lo := 0, w := 40, acc := .rc }
/-- [39:0] RC (R392): R378 -/
def REKEY_FAILS : Field :=
  { blk := 0x8, base := 0x17, dims := [], lo := 0, w := 40, acc := .rc }
/-- [39:0] RW (R392): Context request word w (0–6), R385 -/
def CREQ : Field :=
  { blk := 0x8, base := 0x100, dims := [.s 1 0 6], lo := 0, w := 40, acc := .rw, act := .creqWord, view := .creq }
/-- [0] WO (R392): Start the request -/
def CGO : Field :=
  { blk := 0x8, base := 0x107, dims := [], lo := 0, w := 1, acc := .wo, act := .cgo }
/-- [39:0] RO (R392): Blocks until done (R385) -/
def CSTAT : Field :=
  { blk := 0x8, base := 0x108, dims := [], lo := 0, w := 40, acc := .ro, view := .cstat }
/-- [3:0] RO (R392): Slot s (0–147,455), active bank (R365) -/
def MODE : Field :=
  { blk := 0x8, base := 0x1000000, dims := [.s 4 0 147455], lo := 0, w := 4, acc := .ro }
/-- [4] RO (R392): 256-bit key -/
def K256 : Field :=
  { blk := 0x8, base := 0x1000000, dims := [.s 4 0 147455], lo := 4, w := 1, acc := .ro }
/-- [12:5] RO (R392): Key index -/
def KEYIDX : Field :=
  { blk := 0x8, base := 0x1000000, dims := [.s 4 0 147455], lo := 5, w := 8, acc := .ro }
/-- [30:13] RO (R392): Successor slot -/
def SUCC : Field :=
  { blk := 0x8, base := 0x1000000, dims := [.s 4 0 147455], lo := 13, w := 18, acc := .ro }
/-- [31] RO (R392): Successor named -/
def SUCC_V : Field :=
  { blk := 0x8, base := 0x1000000, dims := [.s 4 0 147455], lo := 31, w := 1, acc := .ro }
/-- [37:32] RW (R392): Tenant tag (R370) -/
def TENANT : Field :=
  { blk := 0x8, base := 0x1000000, dims := [.s 4 0 147455], lo := 32, w := 6, acc := .rw, op := true, act := .keyTenant }
/-- [39:38] RO (R392): 0 empty, 1 loaded, 2 switched, 3 exhausted -/
def STATE : Field :=
  { blk := 0x8, base := 0x1000000, dims := [.s 4 0 147455], lo := 38, w := 2, acc := .ro }
/-- [39:0] RO (R392): Remaining space, saturating (R379) -/
def REMAIN : Field :=
  { blk := 0x8, base := 0x1000001, dims := [.s 4 0 147455], lo := 0, w := 40, acc := .ro }
/-- [12:0] RO (R392): R371 -/
def INFLIGHT : Field :=
  { blk := 0x8, base := 0x1000002, dims := [.s 4 0 147455], lo := 0, w := 13, acc := .ro }
/-- [13] RO (R392): Shadow bank awaiting swap -/
def SWAP_PEND : Field :=
  { blk := 0x8, base := 0x1000002, dims := [.s 4 0 147455], lo := 13, w := 1, acc := .ro }
/-- [26:14] RO (R392): Requests held -/
def HELD : Field :=
  { blk := 0x8, base := 0x1000002, dims := [.s 4 0 147455], lo := 14, w := 13, acc := .ro }
/-- [27] RO (R392): R379 -/
def NEAR : Field :=
  { blk := 0x8, base := 0x1000002, dims := [.s 4 0 147455], lo := 27, w := 1, acc := .ro }
/-- [39:0] RC (R392): R386 -/
def AUTH_FAIL_S : Field :=
  { blk := 0x8, base := 0x1000003, dims := [.s 4 0 147455], lo := 0, w := 40, acc := .rc }
/-- [17:0] RW (R392): Terminal t (0–1,019), R376 -/
def DN_SLOT : Field :=
  { blk := 0x8, base := 0x2000000, dims := [.s 65536 0 63, .s 2 0 1019], lo := 0, w := 18, acc := .rw, op := true, act := .bindTerm }
/-- [35:18] RW (R392): -/
def UP_SLOT : Field :=
  { blk := 0x8, base := 0x2000000, dims := [.s 65536 0 63, .s 2 0 1019], lo := 18, w := 18, acc := .rw, op := true, act := .bindTerm }
/-- [17:0] RW (R392): -/
def MIC_SLOT : Field :=
  { blk := 0x8, base := 0x2000001, dims := [.s 65536 0 63, .s 2 0 1019], lo := 0, w := 18, acc := .rw, op := true, act := .bindTerm }
/-- [35:18] RW (R392): -/
def TKEK_SLOT : Field :=
  { blk := 0x8, base := 0x2000001, dims := [.s 65536 0 63, .s 2 0 1019], lo := 18, w := 18, acc := .rw, op := true, act := .bindTerm }
/-- [36] WO (R392): R378 -/
def REKEY : Field :=
  { blk := 0x8, base := 0x2000001, dims := [.s 65536 0 63, .s 2 0 1019], lo := 36, w := 1, acc := .wo, op := true, act := .rekeyGo }
/-- [37] RO (R392): -/
def REKEY_BUSY : Field :=
  { blk := 0x8, base := 0x2000001, dims := [.s 65536 0 63, .s 2 0 1019], lo := 37, w := 1, acc := .ro }
/-- [17:0] RW (R392): Multicast and broadcast flows of tree z -/
def BC_SLOT : Field :=
  { blk := 0x8, base := 0x2000800, dims := [.s 65536 0 63], lo := 0, w := 18, acc := .rw, op := true, act := .bindTx }
/-- [31:0] RW (R392): Bit i: flow 32j + i encrypted downstream (j = 0–511) -/
def ENC : Field :=
  { blk := 0x8, base := 0x2001000, dims := [.s 65536 0 63, .s 1 0 511], lo := 0, w := 32, acc := .rw, op := true }
/-- [17:0] RW (R392): MACsec transmit -/
def TX_SLOT : Field :=
  { blk := 0x8, base := 0x3000000, dims := [.s 4 0 31], lo := 0, w := 18, acc := .rw, op := true, act := .bindTx }
/-- [35:18] RW (R392): MACsec receive -/
def RX_SLOT : Field :=
  { blk := 0x8, base := 0x3000000, dims := [.s 4 0 31], lo := 18, w := 18, acc := .rw, op := true, act := .bindRx }
/-- [36] RW (R392): MACsec on uplink u -/
def MACSEC_EN : Field :=
  { blk := 0x8, base := 0x3000000, dims := [.s 4 0 31], lo := 36, w := 1, acc := .rw, op := true }
/-- [31:0] RW (R392): Secure channel identifier bits [63:32] -/
def SCI_HI : Field :=
  { blk := 0x8, base := 0x3000001, dims := [.s 4 0 31], lo := 0, w := 32, acc := .rw, op := true }
/-- [31:0] RW (R392): Bits [31:0] -/
def SCI_LO : Field :=
  { blk := 0x8, base := 0x3000002, dims := [.s 4 0 31], lo := 0, w := 32, acc := .rw, op := true }
/-- [31:0] RW (R392): Replay window in packet numbers (R386) -/
def REPLAY_WIN : Field :=
  { blk := 0x8, base := 0x3000003, dims := [.s 4 0 31], lo := 0, w := 32, acc := .rw, op := true }
/-- Fields of the map, part 0. -/
def part0 : List Field :=
  [ SCA_OFF, NEAR_SHIFT, ENT_OK, LANE_OK, SPARE_FOR, Q_FREE, RAND, RAND_VALID, CIPHER_DROP, AUTH_FAILS, KEY_ABSENT_CNT, KEY_EXH_CNT, SWITCHES, HELD_REQ, ENT_FAILS, REKEY_FAILS, CREQ, CGO, CSTAT, MODE]
/-- Fields of the map, part 1. -/
def part1 : List Field :=
  [ K256, KEYIDX, SUCC, SUCC_V, TENANT, STATE, REMAIN, INFLIGHT, SWAP_PEND, HELD, NEAR, AUTH_FAIL_S, DN_SLOT, UP_SLOT, MIC_SLOT, TKEK_SLOT, REKEY, REKEY_BUSY, BC_SLOT, ENC]
/-- Fields of the map, part 2. -/
def part2 : List Field :=
  [ TX_SLOT, RX_SLOT, MACSEC_EN, SCI_HI, SCI_LO, REPLAY_WIN]
/-- Every named field of the map. -/
def all : List Field := part0 ++ part1 ++ part2

end Sys2Proof.Machine.Reg.Key

namespace Sys2Proof.Machine.Reg.Tim

/-- [39:0] RO (R418): Stage time at acceptance (R395) -/
def STAGE_NOW : Field :=
  { blk := 0x9, base := 0x0, dims := [], lo := 0, w := 40, acc := .ro, view := .stageNow }
/-- [39:0] RO (R418): Wraps since reset (R394) -/
def STAGE_WRAPS : Field :=
  { blk := 0x9, base := 0x1, dims := [], lo := 0, w := 40, acc := .ro, view := .stageWraps }
/-- [0] RO (R418): 0 A, 1 B -/
def OUT_DOM : Field :=
  { blk := 0x9, base := 0x2, dims := [], lo := 0, w := 1, acc := .ro }
/-- [1] RO (R418): R406 -/
def OUT_VALID : Field :=
  { blk := 0x9, base := 0x2, dims := [], lo := 1, w := 1, acc := .ro }
/-- [2] RW (R418): R408 -/
def AUTO_SW : Field :=
  { blk := 0x9, base := 0x2, dims := [], lo := 2, w := 1, acc := .rw, rst := .k 1 }
/-- [18:3] RO (R418): PTP epoch (R406) -/
def EPOCH : Field :=
  { blk := 0x9, base := 0x2, dims := [], lo := 3, w := 16, acc := .ro }
/-- [0] WO (R418): Domain to switch to (R408) -/
def SWITCH : Field :=
  { blk := 0x9, base := 0x3, dims := [], lo := 0, w := 1, acc := .wo, act := .switchD }
/-- [6:0] RW (R418): 1–100 (R405) -/
def SLEW_PPM : Field :=
  { blk := 0x9, base := 0x4, dims := [], lo := 0, w := 7, acc := .rw, vmin := 1, vmax := 100, act := .slewPpm, rst := .k 50 }
/-- [18:7] RW (R418): ms, 100–4,000 (R407) -/
def HOLD_ENTRY : Field :=
  { blk := 0x9, base := 0x4, dims := [], lo := 7, w := 12, acc := .rw, vmin := 100, vmax := 4000, rst := .k 3000 }
/-- [39:0] RO (R418): 2^−8 ns, two's complement -/
def CARRY : Field :=
  { blk := 0x9, base := 0x5, dims := [], lo := 0, w := 40, acc := .ro, view := .carry }
/-- [0] RW (R418): R415 -/
def PPS_EN : Field :=
  { blk := 0x9, base := 0x10, dims := [], lo := 0, w := 1, acc := .rw, act := .ppsEn }
/-- [19:1] RW (R418): µs -/
def PPS_WIDTH : Field :=
  { blk := 0x9, base := 0x10, dims := [], lo := 1, w := 19, acc := .rw, vmin := 1, vmax := 500000, rst := .k 100000 }
/-- [15:0] RW (R418): Ticks, two's complement -/
def PPS_OFS : Field :=
  { blk := 0x9, base := 0x11, dims := [], lo := 0, w := 16, acc := .rw }
/-- [31:16] RW (R418): Ticks, two's complement -/
def PPS_OFS_IN : Field :=
  { blk := 0x9, base := 0x11, dims := [], lo := 16, w := 16, acc := .rw }
/-- [39:0] RO (R418): Last PPS_IN edge (R416) -/
def PPSI_STAGE : Field :=
  { blk := 0x9, base := 0x12, dims := [], lo := 0, w := 40, acc := .ro }
/-- [39:0] RO (R418): Edges accepted -/
def PPSI_CNT : Field :=
  { blk := 0x9, base := 0x13, dims := [], lo := 0, w := 40, acc := .ro }
/-- [39:0] RC (R418): Edges ignored -/
def PPSI_GLITCH : Field :=
  { blk := 0x9, base := 0x14, dims := [], lo := 0, w := 40, acc := .rc }
/-- [39:0] RC (R418): Edges suppressed -/
def PPSO_SUPPR : Field :=
  { blk := 0x9, base := 0x15, dims := [], lo := 0, w := 40, acc := .rc }
/-- [0] WO (R418): Latch the snapshot (R412) -/
def SNAP : Field :=
  { blk := 0x9, base := 0x40, dims := [], lo := 0, w := 1, acc := .wo, act := .snap }
/-- [39:0] RO (R418): Stage time -/
def SN_STAGE : Field :=
  { blk := 0x9, base := 0x41, dims := [], lo := 0, w := 40, acc := .ro, view := .snStage }
/-- [37:0] RO (R418): k = 0 output, 1 A, 2 B: [37:8] ns, [7:0] fraction -/
def SN_NS : Field :=
  { blk := 0x9, base := 0x42, dims := [.s 3 0 2], lo := 0, w := 38, acc := .ro, view := .snNs }
/-- [39:0] RO (R418): Seconds bits [39:0] -/
def SN_SEC : Field :=
  { blk := 0x9, base := 0x43, dims := [.s 3 0 2], lo := 0, w := 40, acc := .ro, view := .snSec }
/-- [7:0] RO (R418): Seconds bits [47:40] -/
def SN_SEC_HI : Field :=
  { blk := 0x9, base := 0x44, dims := [.s 3 0 2], lo := 0, w := 8, acc := .ro, view := .snSecHi }
/-- [15:0] RO (R418): EPOCH -/
def SN_EPOCH : Field :=
  { blk := 0x9, base := 0x4B, dims := [], lo := 0, w := 16, acc := .ro, view := .snEpoch }
/-- [16] RO (R418): OUT_DOM -/
def SN_OUT_DOM : Field :=
  { blk := 0x9, base := 0x4B, dims := [], lo := 16, w := 1, acc := .ro, view := .snOutDom }
/-- [39:0] WO (R418): Offset, 2^−8 ns; commits (R404) -/
def OFS_IN : Field :=
  { blk := 0x9, base := 0x100, dims := [.s 32 0 1], lo := 0, w := 40, acc := .wo, act := .ofsIn }
/-- [39:0] RW (R418): Whole seconds, two's complement -/
def OFS_SEC : Field :=
  { blk := 0x9, base := 0x101, dims := [.s 32 0 1], lo := 0, w := 40, acc := .rw }
/-- [29:0] RW (R418): ns, 1–999,999,999 -/
def STEP_THR : Field :=
  { blk := 0x9, base := 0x102, dims := [.s 32 0 1], lo := 0, w := 30, acc := .rw, vmin := 1, vmax := 999999999, rst := .k 1000 }
/-- [0] RO (R418): Domain set -/
def VALID : Field :=
  { blk := 0x9, base := 0x103, dims := [.s 32 0 1], lo := 0, w := 1, acc := .ro }
/-- [1] RO (R418): R407 -/
def MASTER : Field :=
  { blk := 0x9, base := 0x103, dims := [.s 32 0 1], lo := 1, w := 1, acc := .ro }
/-- [2] RO (R418): Step pending -/
def PEND : Field :=
  { blk := 0x9, base := 0x103, dims := [.s 32 0 1], lo := 2, w := 1, acc := .ro }
/-- [3] RO (R418): R405 -/
def SLEW_LIMITED : Field :=
  { blk := 0x9, base := 0x103, dims := [.s 32 0 1], lo := 3, w := 1, acc := .ro }
/-- [4] RW (R418): 0 software, 1 PPS_IN -/
def SRC : Field :=
  { blk := 0x9, base := 0x103, dims := [.s 32 0 1], lo := 4, w := 1, acc := .rw }
/-- [15:0] RW (R418): R405 -/
def KP : Field :=
  { blk := 0x9, base := 0x104, dims := [.s 32 0 1], lo := 0, w := 16, acc := .rw, rst := .k 1024 }
/-- [31:16] RW (R418): R405 -/
def KI : Field :=
  { blk := 0x9, base := 0x104, dims := [.s 32 0 1], lo := 16, w := 16, acc := .rw, rst := .k 64 }
/-- [39:0] RO (R418): Sub-second part, 2^−8 ns -/
def PEND_OFS : Field :=
  { blk := 0x9, base := 0x105, dims := [.s 32 0 1], lo := 0, w := 40, acc := .ro }
/-- [39:0] RO (R418): Whole seconds -/
def PEND_SEC : Field :=
  { blk := 0x9, base := 0x106, dims := [.s 32 0 1], lo := 0, w := 40, acc := .ro }
/-- [0] WO (R418): R406 -/
def STEP_APPLY : Field :=
  { blk := 0x9, base := 0x107, dims := [.s 32 0 1], lo := 0, w := 1, acc := .wo, act := .stepApply }
/-- [1] WO (R418): R406 -/
def STEP_DROP : Field :=
  { blk := 0x9, base := 0x107, dims := [.s 32 0 1], lo := 1, w := 1, acc := .wo, act := .stepDrop }
/-- [31:0] RO (R418): 2^−40, two's complement -/
def RATE : Field :=
  { blk := 0x9, base := 0x108, dims := [.s 32 0 1], lo := 0, w := 32, acc := .ro }
/-- [39:0] RO (R418): Last committed offset, sub-second, 2^−8 ns -/
def LAST_OFS : Field :=
  { blk := 0x9, base := 0x109, dims := [.s 32 0 1], lo := 0, w := 40, acc := .ro }
/-- [39:0] RC (R418): Offsets accepted -/
def OFS_CNT : Field :=
  { blk := 0x9, base := 0x10A, dims := [.s 32 0 1], lo := 0, w := 40, acc := .rc }
/-- [39:0] RC (R418): Steps applied -/
def STEPS : Field :=
  { blk := 0x9, base := 0x10B, dims := [.s 32 0 1], lo := 0, w := 40, acc := .rc }
/-- [39:0] RC (R418): Servo updates clamped -/
def LIMITED_CNT : Field :=
  { blk := 0x9, base := 0x10C, dims := [.s 32 0 1], lo := 0, w := 40, acc := .rc }
/-- [39:0] RO (R418): Oldest record, words 0–6 (R409) -/
def TS_REC : Field :=
  { blk := 0x9, base := 0x1000, dims := [.s 32 0 32, .s 16 0 1, .s 1 0 6], lo := 0, w := 40, acc := .ro }
/-- [6:0] RO (R418): Records held, 0–64 -/
def TS_FILL : Field :=
  { blk := 0x9, base := 0x1007, dims := [.s 32 0 32, .s 16 0 1], lo := 0, w := 7, acc := .ro }
/-- [7] W1C (R418): R410 -/
def TS_OVF : Field :=
  { blk := 0x9, base := 0x1007, dims := [.s 32 0 32, .s 16 0 1], lo := 7, w := 1, acc := .w1c }
/-- [7:0] WO (R418): R_QSEQ to remove (R411) -/
def TS_POP : Field :=
  { blk := 0x9, base := 0x1008, dims := [.s 32 0 32, .s 16 0 1], lo := 0, w := 8, acc := .wo, act := .tsPop }
/-- [39:0] RC (R418): Records dropped -/
def TS_LOST : Field :=
  { blk := 0x9, base := 0x1009, dims := [.s 32 0 32, .s 16 0 1], lo := 0, w := 40, acc := .rc }
/-- [0] RW (R418): Timestamping on -/
def TS_EN : Field :=
  { blk := 0x9, base := 0x1800, dims := [.s 1 0 32], lo := 0, w := 1, acc := .rw }
/-- [1] RW (R418): Uplinks only; RO 0 for q = 32 (R402) -/
def ONE_STEP : Field :=
  { blk := 0x9, base := 0x1800, dims := [.s 1 0 32], lo := 1, w := 1, acc := .rw }
/-- [17:2] RW (R418): Ticks, two's complement -/
def TS_ADJ_TX : Field :=
  { blk := 0x9, base := 0x1800, dims := [.s 1 0 32], lo := 2, w := 16, acc := .rw }
/-- [33:18] RW (R418): Ticks, two's complement -/
def TS_ADJ_RX : Field :=
  { blk := 0x9, base := 0x1800, dims := [.s 1 0 32], lo := 18, w := 16, acc := .rw }
/-- [39:0] RC (R418): R402 -/
def ONESTEP_SKIP : Field :=
  { blk := 0x9, base := 0x1840, dims := [.s 1 0 32], lo := 0, w := 40, acc := .rc }
/-- [10:0] RW (R418): Superframe count bits [50:40] -/
def TOD_SF_HI : Field :=
  { blk := 0x9, base := 0x2000, dims := [.s 8 0 63], lo := 0, w := 11, acc := .rw }
/-- [39:0] RW (R418): Bits [39:0]; the write arms (R413, R414) -/
def TOD_SF_LO : Field :=
  { blk := 0x9, base := 0x2001, dims := [.s 8 0 63], lo := 0, w := 40, acc := .rw, act := .tod }
/-- [37:0] RO (R418): [37:8] ns, [7:0] fraction -/
def TOD_NS : Field :=
  { blk := 0x9, base := 0x2002, dims := [.s 8 0 63], lo := 0, w := 38, acc := .ro }
/-- [39:0] RO (R418): Seconds bits [39:0] -/
def TOD_SEC : Field :=
  { blk := 0x9, base := 0x2003, dims := [.s 8 0 63], lo := 0, w := 40, acc := .ro }
/-- [7:0] RO (R418): Seconds bits [47:40] -/
def TOD_SEC_HI : Field :=
  { blk := 0x9, base := 0x2004, dims := [.s 8 0 63], lo := 0, w := 8, acc := .ro }
/-- [23:8] RO (R418): EPOCH of the value -/
def TOD_EPOCH : Field :=
  { blk := 0x9, base := 0x2004, dims := [.s 8 0 63], lo := 8, w := 16, acc := .ro }
/-- [24] RO (R418): Value held -/
def TOD_VALID : Field :=
  { blk := 0x9, base := 0x2004, dims := [.s 8 0 63], lo := 24, w := 1, acc := .ro }
/-- [25] RO (R418): Value is a prediction -/
def TOD_PRED : Field :=
  { blk := 0x9, base := 0x2004, dims := [.s 8 0 63], lo := 25, w := 1, acc := .ro }
/-- [39:0] RO (R418): t_N, stage time at the ball -/
def TOD_STAGE : Field :=
  { blk := 0x9, base := 0x2005, dims := [.s 8 0 63], lo := 0, w := 40, acc := .ro }
/-- [39:0] RO (R418): Actual minus predicted, 2^−8 ns -/
def TOD_DIFF : Field :=
  { blk := 0x9, base := 0x2006, dims := [.s 8 0 63], lo := 0, w := 40, acc := .ro }
/-- Fields of the map, part 0. -/
def part0 : List Field :=
  [ STAGE_NOW, STAGE_WRAPS, OUT_DOM, OUT_VALID, AUTO_SW, EPOCH, SWITCH, SLEW_PPM, HOLD_ENTRY, CARRY, PPS_EN, PPS_WIDTH, PPS_OFS, PPS_OFS_IN, PPSI_STAGE, PPSI_CNT, PPSI_GLITCH, PPSO_SUPPR, SNAP, SN_STAGE]
/-- Fields of the map, part 1. -/
def part1 : List Field :=
  [ SN_NS, SN_SEC, SN_SEC_HI, SN_EPOCH, SN_OUT_DOM, OFS_IN, OFS_SEC, STEP_THR, VALID, MASTER, PEND, SLEW_LIMITED, SRC, KP, KI, PEND_OFS, PEND_SEC, STEP_APPLY, STEP_DROP, RATE]
/-- Fields of the map, part 2. -/
def part2 : List Field :=
  [ LAST_OFS, OFS_CNT, STEPS, LIMITED_CNT, TS_REC, TS_FILL, TS_OVF, TS_POP, TS_LOST, TS_EN, ONE_STEP, TS_ADJ_TX, TS_ADJ_RX, ONESTEP_SKIP, TOD_SF_HI, TOD_SF_LO, TOD_NS, TOD_SEC, TOD_SEC_HI, TOD_EPOCH]
/-- Fields of the map, part 3. -/
def part3 : List Field :=
  [ TOD_VALID, TOD_PRED, TOD_STAGE, TOD_DIFF]
/-- Every named field of the map. -/
def all : List Field := part0 ++ part1 ++ part2 ++ part3

end Sys2Proof.Machine.Reg.Tim

namespace Sys2Proof.Machine.Reg.Lan

/-- [3:0] RW (R435): Uplink: R419, R420 -/
def UL_MODE : Field :=
  { blk := 0xB, base := 0x0, dims := [.s 256 0 87], lo := 0, w := 4, acc := .rw, vmin := 0, vmax := 9, act := .ulMode, sel := 1 }
/-- [4] RW (R435): Uplink: port enabled (R422) -/
def UL_EN : Field :=
  { blk := 0xB, base := 0x0, dims := [.s 256 0 87], lo := 4, w := 1, acc := .rw, act := .ulEn, sel := 1 }
/-- [5] RW (R435): Uplink: R421 -/
def AN_EN : Field :=
  { blk := 0xB, base := 0x0, dims := [.s 256 0 87], lo := 5, w := 1, acc := .rw, sel := 1, rst := .k 1, act := .anEn }
/-- [7:6] RW (R435): Uplink: R419 -/
def FEC_SEL : Field :=
  { blk := 0xB, base := 0x0, dims := [.s 256 0 87], lo := 6, w := 2, acc := .rw, vmin := 0, vmax := 2, act := .fecMode, view := .fecSel, sel := 1 }
/-- [8] RW (R435): Twin: lane may be usable (R426) -/
def TW_LANE_EN : Field :=
  { blk := 0xB, base := 0x0, dims := [.s 256 0 87], lo := 8, w := 1, acc := .rw, act := .twLanes, sel := 2, rst := .k 1 }
/-- [0] RO (R435): Uplink: link up -/
def LINK_UP : Field :=
  { blk := 0xB, base := 0x1, dims := [.s 256 0 87], lo := 0, w := 1, acc := .ro, sel := 1 }
/-- [1] RO (R435): R426, or the mode's lock -/
def BLOCK_LOCK : Field :=
  { blk := 0xB, base := 0x1, dims := [.s 256 0 87], lo := 1, w := 1, acc := .ro }
/-- [2] RO (R435): Uplink: codeword or alignment lock; twin: marker lock -/
def ALIGN_LOCK : Field :=
  { blk := 0xB, base := 0x1, dims := [.s 256 0 87], lo := 2, w := 1, acc := .ro }
/-- [3] RO (R435): Uplink: R423 -/
def LOCAL_FAULT : Field :=
  { blk := 0xB, base := 0x1, dims := [.s 256 0 87], lo := 3, w := 1, acc := .ro, sel := 1 }
/-- [4] RO (R435): Uplink: R423 -/
def REMOTE_FAULT : Field :=
  { blk := 0xB, base := 0x1, dims := [.s 256 0 87], lo := 4, w := 1, acc := .ro, sel := 1 }
/-- [5] RO (R435): R433 -/
def SD : Field :=
  { blk := 0xB, base := 0x1, dims := [.s 256 0 87], lo := 5, w := 1, acc := .ro }
/-- [6] RO (R435): R433 -/
def SF : Field :=
  { blk := 0xB, base := 0x1, dims := [.s 256 0 87], lo := 6, w := 1, acc := .ro }
/-- [7] RO (R435): R420 -/
def TRAINING : Field :=
  { blk := 0xB, base := 0x1, dims := [.s 256 0 87], lo := 7, w := 1, acc := .ro }
/-- [8] W1C (R435): Uplink: R421 -/
def AN_FAIL : Field :=
  { blk := 0xB, base := 0x1, dims := [.s 256 0 87], lo := 8, w := 1, acc := .w1c, sel := 1 }
/-- [9] RO (R435): Uplink: member lane (R420) -/
def MEMBER : Field :=
  { blk := 0xB, base := 0x1, dims := [.s 256 0 87], lo := 9, w := 1, acc := .ro, sel := 1 }
/-- [10] RO (R435): Twin: in this unit's transmit set -/
def IN_TX_SET : Field :=
  { blk := 0xB, base := 0x1, dims := [.s 256 0 87], lo := 10, w := 1, acc := .ro, view := .inTxSet, sel := 2 }
/-- [11] RO (R435): Twin: in the twin's transmit set toward this unit -/
def IN_RX_SET : Field :=
  { blk := 0xB, base := 0x1, dims := [.s 256 0 87], lo := 11, w := 1, acc := .ro, view := .inRxSet, sel := 2 }
/-- [12] RO (R435): Twin: R426 -/
def SKEWED : Field :=
  { blk := 0xB, base := 0x1, dims := [.s 256 0 87], lo := 12, w := 1, acc := .ro, sel := 2 }
/-- [13] RO (R435): Uplink: R430 -/
def TX_TRAINED : Field :=
  { blk := 0xB, base := 0x1, dims := [.s 256 0 87], lo := 13, w := 1, acc := .ro, sel := 1 }
/-- [1:0] RW (R435): R434 -/
def PWR_TX : Field :=
  { blk := 0xB, base := 0x2, dims := [.s 256 0 87], lo := 0, w := 2, acc := .rw, vmin := 0, vmax := 2, act := .power, rst := .lanePower }
/-- [3:2] RW (R435): R434 -/
def PWR_RX : Field :=
  { blk := 0xB, base := 0x2, dims := [.s 256 0 87], lo := 2, w := 2, acc := .rw, vmin := 0, vmax := 2, act := .power, rst := .lanePower }
/-- [0] RW (R435): R430 -/
def EQ_MODE : Field :=
  { blk := 0xB, base := 0x3, dims := [.s 256 0 87], lo := 0, w := 1, acc := .rw, rst := .k 1 }
/-- [5:1] RW (R435): CTLE code -/
def CTLE : Field :=
  { blk := 0xB, base := 0x3, dims := [.s 256 0 87], lo := 1, w := 5, acc := .rw, rst := .k 16 }
/-- [10:6] RW (R435): Fence -/
def CTLE_MIN : Field :=
  { blk := 0xB, base := 0x3, dims := [.s 256 0 87], lo := 6, w := 5, acc := .rw, act := .ctle }
/-- [15:11] RW (R435): Fence, not below CTLE_MIN -/
def CTLE_MAX : Field :=
  { blk := 0xB, base := 0x3, dims := [.s 256 0 87], lo := 11, w := 5, acc := .rw, act := .ctle, rst := .k 31 }
/-- [23:16] RW (R435): 1–255 (R431) -/
def FENCE_CNT : Field :=
  { blk := 0xB, base := 0x3, dims := [.s 256 0 87], lo := 16, w := 8, acc := .rw, vmin := 1, vmax := 255, rst := .k 64 }
/-- [7:0] RW (R435): DFE tap t (0–11 uplink, 0–7 twin), two's complement -/
def TAP : Field :=
  { blk := 0xB, base := 0x4, dims := [.s 256 0 87, .s 1 0 11], lo := 0, w := 8, acc := .rw }
/-- [14:8] RW (R435): Fence, magnitude -/
def TAP_LIM : Field :=
  { blk := 0xB, base := 0x4, dims := [.s 256 0 87, .s 1 0 11], lo := 8, w := 7, acc := .rw, rst := .k 127 }
/-- [5:0] RW (R435): Two's complement -/
def TX_PRE : Field :=
  { blk := 0xB, base := 0x10, dims := [.s 256 0 87], lo := 0, w := 6, acc := .rw, act := .txTap }
/-- [12:6] RW (R435): -/
def TX_MAIN : Field :=
  { blk := 0xB, base := 0x10, dims := [.s 256 0 87], lo := 6, w := 7, acc := .rw, rst := .k 63, act := .txTap }
/-- [18:13] RW (R435): Two's complement -/
def TX_POST : Field :=
  { blk := 0xB, base := 0x10, dims := [.s 256 0 87], lo := 13, w := 6, acc := .rw, act := .txTap }
/-- [24:19] RW (R435): Training bound per tap (R431) -/
def TX_LIM : Field :=
  { blk := 0xB, base := 0x10, dims := [.s 256 0 87], lo := 19, w := 6, acc := .rw, rst := .k 31 }
/-- [1:0] RW (R435): 0 off, 1 PRBS9, 2 PRBS13(Q), 3 PRBS31(Q) (R432) -/
def PRBS_GEN : Field :=
  { blk := 0xB, base := 0x18, dims := [.s 256 0 87], lo := 0, w := 2, acc := .rw, act := .prbsGen }
/-- [3:2] RW (R435): As PRBS_GEN -/
def PRBS_CHK : Field :=
  { blk := 0xB, base := 0x18, dims := [.s 256 0 87], lo := 2, w := 2, acc := .rw, act := .prbsChk }
/-- [4] RO (R435): Checker locked -/
def PRBS_LOCK : Field :=
  { blk := 0xB, base := 0x18, dims := [.s 256 0 87], lo := 4, w := 1, acc := .ro }
/-- [5] RW (R435): Invert -/
def PRBS_INV : Field :=
  { blk := 0xB, base := 0x18, dims := [.s 256 0 87], lo := 5, w := 1, acc := .rw, act := .prbsInv }
/-- [39:0] RC (R435): Bit errors -/
def PRBS_ERR : Field :=
  { blk := 0xB, base := 0x19, dims := [.s 256 0 87], lo := 0, w := 40, acc := .rc }
/-- [39:0] RC (R435): Bits checked -/
def PRBS_BITS : Field :=
  { blk := 0xB, base := 0x1A, dims := [.s 256 0 87], lo := 0, w := 40, acc := .rc }
/-- [3:0] RW (R435): 4–12 (R433) -/
def SD_EXP : Field :=
  { blk := 0xB, base := 0x20, dims := [.s 256 0 87], lo := 0, w := 4, acc := .rw, vmin := 4, vmax := 12, act := .exps, rst := .k 6 }
/-- [7:4] RW (R435): 3–8, below SD_EXP -/
def SF_EXP : Field :=
  { blk := 0xB, base := 0x20, dims := [.s 256 0 87], lo := 4, w := 4, acc := .rw, vmin := 3, vmax := 8, act := .exps, rst := .k 4 }
/-- [10:0] RO (R435): Twin: skew to the earliest lane, bits -/
def SKEW : Field :=
  { blk := 0xB, base := 0x21, dims := [.s 256 0 87], lo := 0, w := 11, acc := .ro, sel := 2 }
/-- [39:0] RC (R435): FEC-corrected bits -/
def CORR_BITS : Field :=
  { blk := 0xB, base := 0x22, dims := [.s 256 0 87], lo := 0, w := 40, acc := .rc }
/-- [39:0] RC (R435): Uncorrectable codewords -/
def UNCORR_CW : Field :=
  { blk := 0xB, base := 0x23, dims := [.s 256 0 87], lo := 0, w := 40, acc := .rc }
/-- [39:0] RC (R435): Invalid sync headers -/
def BAD_SH : Field :=
  { blk := 0xB, base := 0x24, dims := [.s 256 0 87], lo := 0, w := 40, acc := .rc }
/-- [39:0] RC (R435): Losses of block lock -/
def LOCK_LOSSES : Field :=
  { blk := 0xB, base := 0x25, dims := [.s 256 0 87], lo := 0, w := 40, acc := .rc }
/-- [39:0] RC (R435): Uplink: R422 -/
def OVERSIZE : Field :=
  { blk := 0xB, base := 0x26, dims := [.s 256 0 87], lo := 0, w := 40, acc := .rc, sel := 1 }
/-- [39:0] RC (R435): Uplink: R422 -/
def MAC_CTRL : Field :=
  { blk := 0xB, base := 0x27, dims := [.s 256 0 87], lo := 0, w := 40, acc := .rc, sel := 1 }
/-- [4:0] RW (R435): 12–24 (R427) -/
def TW_MIN_LANES : Field :=
  { blk := 0xB, base := 0x8000, dims := [], lo := 0, w := 5, acc := .rw, vmin := 12, vmax := 24, act := .twLanes, rst := .k 20 }
/-- [5] RW (R435): R426 -/
def TW_DROP_SD : Field :=
  { blk := 0xB, base := 0x8000, dims := [], lo := 5, w := 1, acc := .rw, act := .twLanes, rst := .k 1 }
/-- [17:6] RW (R435): ms, 1–4,000 (R427) -/
def TW_RESTORE : Field :=
  { blk := 0xB, base := 0x8000, dims := [], lo := 6, w := 12, acc := .rw, vmin := 1, vmax := 4000, rst := .k 1000 }
/-- [23:0] RO (R435): Lanes this unit stripes -/
def TX_SET : Field :=
  { blk := 0xB, base := 0x8001, dims := [], lo := 0, w := 24, acc := .ro }
/-- [23:0] RO (R435): Lanes the twin stripes toward this unit -/
def RX_SET : Field :=
  { blk := 0xB, base := 0x8002, dims := [], lo := 0, w := 24, acc := .ro }
/-- [23:0] RO (R435): RX_USABLE last received from the twin -/
def FAR_USABLE : Field :=
  { blk := 0xB, base := 0x8003, dims := [], lo := 0, w := 24, acc := .ro }
/-- [0] RO (R435): Direction toward the twin is up -/
def TX_UP : Field :=
  { blk := 0xB, base := 0x8004, dims := [], lo := 0, w := 1, acc := .ro }
/-- [1] RO (R435): Direction from the twin is up -/
def RX_UP : Field :=
  { blk := 0xB, base := 0x8004, dims := [], lo := 1, w := 1, acc := .ro }
/-- [12:2] RO (R435): Largest lane skew, bits -/
def MAX_SKEW : Field :=
  { blk := 0xB, base := 0x8004, dims := [], lo := 2, w := 11, acc := .ro }
/-- [39:0] RC (R435): R428 -/
def REFORMS : Field :=
  { blk := 0xB, base := 0x8010, dims := [], lo := 0, w := 40, acc := .rc }
/-- [39:0] RC (R435): R424, R429 -/
def MSG_ERR : Field :=
  { blk := 0xB, base := 0x8011, dims := [], lo := 0, w := 40, acc := .rc }
/-- [39:0] RC (R435): R425 -/
def MARKER_ERR : Field :=
  { blk := 0xB, base := 0x8012, dims := [], lo := 0, w := 40, acc := .rc }
/-- [39:0] RC (R435): R429 -/
def RETRANS : Field :=
  { blk := 0xB, base := 0x8013, dims := [], lo := 0, w := 40, acc := .rc }
/-- Fields of the map, part 0. -/
def part0 : List Field :=
  [ UL_MODE, UL_EN, AN_EN, FEC_SEL, TW_LANE_EN, LINK_UP, BLOCK_LOCK, ALIGN_LOCK, LOCAL_FAULT, REMOTE_FAULT, SD, SF, TRAINING, AN_FAIL, MEMBER, IN_TX_SET, IN_RX_SET, SKEWED, TX_TRAINED, PWR_TX]
/-- Fields of the map, part 1. -/
def part1 : List Field :=
  [ PWR_RX, EQ_MODE, CTLE, CTLE_MIN, CTLE_MAX, FENCE_CNT, TAP, TAP_LIM, TX_PRE, TX_MAIN, TX_POST, TX_LIM, PRBS_GEN, PRBS_CHK, PRBS_LOCK, PRBS_INV, PRBS_ERR, PRBS_BITS, SD_EXP, SF_EXP]
/-- Fields of the map, part 2. -/
def part2 : List Field :=
  [ SKEW, CORR_BITS, UNCORR_CW, BAD_SH, LOCK_LOSSES, OVERSIZE, MAC_CTRL, TW_MIN_LANES, TW_DROP_SD, TW_RESTORE, TX_SET, RX_SET, FAR_USABLE, TX_UP, RX_UP, MAX_SKEW, REFORMS, MSG_ERR, MARKER_ERR, RETRANS]
/-- Every named field of the map. -/
def all : List Field := part0 ++ part1 ++ part2

end Sys2Proof.Machine.Reg.Lan
end

