-- ==== Sys2Proof/Machine/RegPon.lean ====
section
/-! DEFINITION. The object map of the PON ports (0x01) and ranging (0x03): one constant per named field, transcribed from the map tables of spec/. -/

namespace Sys2Proof.Machine.Reg.Pon

/-- [2:0] RW (R153): Mode, as in *Port modes* -/
def MODE : Field :=
  { blk := 0x1, base := 0x0, dims := [.s 65536 0 63], lo := 0, w := 3, acc := .rw, op := true, vmin := 0, vmax := 4, act := .portWord }
/-- [4:3] RW (R153): Upstream rate, as in *Port modes*; for bonded port 2k, R124 -/
def UP_RATE : Field :=
  { blk := 0x1, base := 0x0, dims := [.s 65536 0 63], lo := 3, w := 2, acc := .rw, op := true, act := .portWord }
/-- [5] RW (R153): 0 head, 1 tail -/
def ROLE : Field :=
  { blk := 0x1, base := 0x0, dims := [.s 65536 0 63], lo := 5, w := 1, acc := .rw, op := true, act := .portWord }
/-- [6] RW (R153): Even ports only, R123 -/
def BOND : Field :=
  { blk := 0x1, base := 0x0, dims := [.s 65536 0 63], lo := 6, w := 1, acc := .rw, op := true, act := .portWord }
/-- [7] RW (R153): Request to light the port at the next boundary (R131, R132) -/
def LIGHT : Field :=
  { blk := 0x1, base := 0x0, dims := [.s 65536 0 63], lo := 7, w := 1, acc := .rw, act := .light }
/-- [0] RO (R153): The footlight stage lights the port -/
def LIT : Field :=
  { blk := 0x1, base := 0x1, dims := [.s 65536 0 63], lo := 0, w := 1, acc := .ro }
/-- [1] RO (R153): R121 may accept a change -/
def CHANGE_OK : Field :=
  { blk := 0x1, base := 0x1, dims := [.s 65536 0 63], lo := 1, w := 1, acc := .ro, view := .changeOk, rst := .k 1 }
/-- [2] RO (R153): SerDes retraining (R122) -/
def TRAINING : Field :=
  { blk := 0x1, base := 0x1, dims := [.s 65536 0 63], lo := 2, w := 1, acc := .ro }
/-- [4:3] RO (R153): 0 hunt, 1 candidate open, 2 SYNC -/
def TAIL_SYNC : Field :=
  { blk := 0x1, base := 0x1, dims := [.s 65536 0 63], lo := 3, w := 2, acc := .ro }
/-- [5] RO (R153): Odd port of a bonded pair -/
def BOND_PARTNER : Field :=
  { blk := 0x1, base := 0x1, dims := [.s 65536 0 63], lo := 5, w := 1, acc := .ro }
/-- [6] RO (R153): Present level of PONp_LOS -/
def LOS_IN : Field :=
  { blk := 0x1, base := 0x1, dims := [.s 65536 0 63], lo := 6, w := 1, acc := .ro }
/-- [5:0] RO (R153): [0] NO_TERMINAL, [1] UP_DEG, [2] LOS, [3] LOF, [4] DN_SD, [5] DN_SF -/
def DEFECT : Field :=
  { blk := 0x1, base := 0x2, dims := [.s 65536 0 63], lo := 0, w := 6, acc := .ro }
/-- [5:0] W1C (R153): As DEFECT, latched -/
def DEFECT_STICKY : Field :=
  { blk := 0x1, base := 0x3, dims := [.s 65536 0 63], lo := 0, w := 6, acc := .w1c }
/-- [15:0] RO (R153): Long preamble in bits at the present rate -/
def PROFILE_LONG : Field :=
  { blk := 0x1, base := 0x4, dims := [.s 65536 0 63], lo := 0, w := 16, acc := .ro, view := .profileLong }
/-- [27:16] RO (R153): Guard in bits -/
def GUARD : Field :=
  { blk := 0x1, base := 0x4, dims := [.s 65536 0 63], lo := 16, w := 12, acc := .ro, view := .guard }
/-- [15:0] RO (R153): Short preamble in bits -/
def PROFILE_SHORT : Field :=
  { blk := 0x1, base := 0x5, dims := [.s 65536 0 63], lo := 0, w := 16, acc := .ro, view := .profileShort }
/-- [7:0] RW (R153): Ticks, 16–184 (R127) -/
def BRST_LEN : Field :=
  { blk := 0x1, base := 0x10, dims := [.s 65536 0 63], lo := 0, w := 8, acc := .rw, vmin := 16, vmax := 184, rst := .k 80 }
/-- [15:0] RW (R153): Ticks after P -/
def RSSI_DLY : Field :=
  { blk := 0x1, base := 0x11, dims := [.s 65536 0 63], lo := 0, w := 16, acc := .rw, rst := .k 640 }
/-- [31:16] RW (R153): Ticks -/
def RSSI_LEN : Field :=
  { blk := 0x1, base := 0x11, dims := [.s 65536 0 63], lo := 16, w := 16, acc := .rw, rst := .k 3110 }
/-- [15:0] RW (R153): Tail role, ticks -/
def TX_ON_LEAD : Field :=
  { blk := 0x1, base := 0x12, dims := [.s 65536 0 63], lo := 0, w := 16, acc := .rw, rst := .k 1555 }
/-- [31:16] RW (R153): Tail role, ticks -/
def TX_OFF_HOLD : Field :=
  { blk := 0x1, base := 0x12, dims := [.s 65536 0 63], lo := 16, w := 16, acc := .rw, rst := .k 311 }
/-- [9:0] RW (R153): Tail role, ms, 1–1,000 -/
def TAIL_TO2 : Field :=
  { blk := 0x1, base := 0x13, dims := [.s 65536 0 63], lo := 0, w := 10, acc := .rw, vmin := 1, vmax := 1000, rst := .k 100 }
/-- [7:0] RW (R153): Lowest gain code -/
def GAIN_MIN : Field :=
  { blk := 0x1, base := 0x18, dims := [.s 65536 0 63], lo := 0, w := 8, acc := .rw }
/-- [15:8] RW (R153): Highest gain code -/
def GAIN_MAX : Field :=
  { blk := 0x1, base := 0x18, dims := [.s 65536 0 63], lo := 8, w := 8, acc := .rw, rst := .k 255 }
/-- [25:16] RW (R153): Lowest threshold, two's complement -/
def THR_MIN : Field :=
  { blk := 0x1, base := 0x18, dims := [.s 65536 0 63], lo := 16, w := 10, acc := .rw, rst := .k 512 }
/-- [35:26] RW (R153): Highest threshold, two's complement -/
def THR_MAX : Field :=
  { blk := 0x1, base := 0x18, dims := [.s 65536 0 63], lo := 26, w := 10, acc := .rw, rst := .k 511 }
/-- [6:0] RW (R153): Largest magnitude of any seed tap -/
def TAP_LIM : Field :=
  { blk := 0x1, base := 0x19, dims := [.s 65536 0 63], lo := 0, w := 7, acc := .rw, rst := .k 127 }
/-- [15:8] RW (R153): 1–255 (R137) -/
def FENCE_CNT : Field :=
  { blk := 0x1, base := 0x19, dims := [.s 65536 0 63], lo := 8, w := 8, acc := .rw, vmin := 1, vmax := 255, rst := .k 64 }
/-- [10:0] RW (R153): Ticks, 0–1,555 (R125) -/
def BOND_SKEW_MAX : Field :=
  { blk := 0x1, base := 0x1A, dims := [.s 65536 0 63], lo := 0, w := 11, acc := .rw, vmin := 0, vmax := 1555, rst := .k 1555 }
/-- [7:0] RW (R153): Per 10^6 codewords (R151) -/
def UNC_LIM : Field :=
  { blk := 0x1, base := 0x1B, dims := [.s 65536 0 63], lo := 0, w := 8, acc := .rw, rst := .k 1 }
/-- [15:8] RW (R153): Threshold 10^−SD_LIM, 3–9 -/
def SD_LIM : Field :=
  { blk := 0x1, base := 0x1B, dims := [.s 65536 0 63], lo := 8, w := 8, acc := .rw, vmin := 3, vmax := 9, act := .limits, rst := .k 5 }
/-- [23:16] RW (R153): Threshold 10^−SF_LIM, 2–6, below SD_LIM -/
def SF_LIM : Field :=
  { blk := 0x1, base := 0x1B, dims := [.s 65536 0 63], lo := 16, w := 8, acc := .rw, vmin := 2, vmax := 6, act := .limits, rst := .k 3 }
/-- [39:0] RC (R153): Writebacks discarded (R136) -/
def WB_DISCARD : Field :=
  { blk := 0x1, base := 0x20, dims := [.s 65536 0 63], lo := 0, w := 40, acc := .rc }
/-- [39:0] RC (R153): Presets invalidated by R138 misses -/
def PRESET_LOST : Field :=
  { blk := 0x1, base := 0x21, dims := [.s 65536 0 63], lo := 0, w := 40, acc := .rc }
/-- [39:0] RC (R153): RSSI pulses cut (R127) -/
def RSSI_CUT : Field :=
  { blk := 0x1, base := 0x22, dims := [.s 65536 0 63], lo := 0, w := 40, acc := .rc }
/-- [31:0] RW (R153): Tail serial number, vendor part -/
def TAIL_SN_VENDOR : Field :=
  { blk := 0x1, base := 0x30, dims := [.s 65536 0 63], lo := 0, w := 32, acc := .rw }
/-- [31:0] RW (R153): Tail serial number, number part -/
def TAIL_SN_NUMBER : Field :=
  { blk := 0x1, base := 0x31, dims := [.s 65536 0 63], lo := 0, w := 32, acc := .rw }
/-- [9:0] RO (R153): Assigned ONU-ID -/
def TAIL_ONU_ID : Field :=
  { blk := 0x1, base := 0x32, dims := [.s 65536 0 63], lo := 0, w := 10, acc := .ro }
/-- [10] RO (R153): ONU-ID held -/
def TAIL_ID_VALID : Field :=
  { blk := 0x1, base := 0x32, dims := [.s 65536 0 63], lo := 10, w := 1, acc := .ro }
/-- [39:0] RO (R153): Equalisation delay in upstream bits -/
def TAIL_EQD : Field :=
  { blk := 0x1, base := 0x33, dims := [.s 65536 0 63], lo := 0, w := 40, acc := .ro }
/-- [7:0] RW (R153): Preset t (0–1,019, or 1,020 the port default): gain code -/
def GAIN : Field :=
  { blk := 0x1, base := 0x8000, dims := [.s 65536 0 63, .s 4 0 1020], lo := 0, w := 8, acc := .rw, act := .preset, rst := .k 128 }
/-- [17:8] RW (R153): Decision threshold, two's complement -/
def THR : Field :=
  { blk := 0x1, base := 0x8000, dims := [.s 65536 0 63, .s 4 0 1020], lo := 8, w := 10, acc := .rw, act := .preset }
/-- [25:18] RW (R153): Phase in 1/256 unit interval -/
def PHASE : Field :=
  { blk := 0x1, base := 0x8000, dims := [.s 65536 0 63, .s 4 0 1020], lo := 18, w := 8, acc := .rw, act := .preset }
/-- [26] RW (R153): R136, R138; always 1 for t = 1,020 -/
def VALID : Field :=
  { blk := 0x1, base := 0x8000, dims := [.s 65536 0 63, .s 4 0 1020], lo := 26, w := 1, acc := .rw, act := .preset, rst := .portDefault }
/-- [31:0] RW (R153): Four taps of 8 bits, tap 0 in [7:0], two's complement -/
def EQ_SEED : Field :=
  { blk := 0x1, base := 0x8001, dims := [.s 65536 0 63, .s 4 0 1020], lo := 0, w := 32, acc := .rw, act := .preset }
/-- [39:0] RO (R153): Writebacks made to preset t -/
def REFINES : Field :=
  { blk := 0x1, base := 0x8002, dims := [.s 65536 0 63, .s 4 0 1020], lo := 0, w := 40, acc := .ro }
/-- [6:0] RW (R153): 7-bit target address -/
def I2C_ADDR : Field :=
  { blk := 0x1, base := 0x400000, dims := [.s 16 0 7], lo := 0, w := 7, acc := .rw }
/-- [7] RW (R153): 1 read, 0 write -/
def I2C_READ : Field :=
  { blk := 0x1, base := 0x400000, dims := [.s 16 0 7], lo := 7, w := 1, acc := .rw }
/-- [15:8] RW (R153): First register -/
def I2C_REG : Field :=
  { blk := 0x1, base := 0x400000, dims := [.s 16 0 7], lo := 8, w := 8, acc := .rw }
/-- [21:16] RW (R153): Bytes, 1–32 -/
def I2C_LEN : Field :=
  { blk := 0x1, base := 0x400000, dims := [.s 16 0 7], lo := 16, w := 6, acc := .rw, vmin := 1, vmax := 32, rst := .k 1 }
/-- [23:22] RW (R153): 0 100 kHz, 1 400 kHz, 2 1 MHz -/
def I2C_RATE : Field :=
  { blk := 0x1, base := 0x400000, dims := [.s 16 0 7], lo := 22, w := 2, acc := .rw, vmin := 0, vmax := 2 }
/-- [24] WO (R153): Start; refused with DENIED subcause 0x06 while I2C_BUSY -/
def I2C_GO : Field :=
  { blk := 0x1, base := 0x400000, dims := [.s 16 0 7], lo := 24, w := 1, acc := .wo, act := .i2cGo }
/-- [31:0] RW (R153): Bytes 4j to 4j+3, j = 0–7, byte 4j in [7:0] -/
def I2C_DATA : Field :=
  { blk := 0x1, base := 0x400001, dims := [.s 16 0 7, .s 1 0 7], lo := 0, w := 32, acc := .rw }
/-- [0] RO (R153): Transaction running -/
def I2C_BUSY : Field :=
  { blk := 0x1, base := 0x40000F, dims := [.s 16 0 7], lo := 0, w := 1, acc := .ro }
/-- [1] W1C (R153): Target did not acknowledge -/
def I2C_NACK : Field :=
  { blk := 0x1, base := 0x40000F, dims := [.s 16 0 7], lo := 1, w := 1, acc := .w1c }
/-- [2] W1C (R153): Bus held low for more than 25 ms; master released the bus -/
def I2C_STUCK : Field :=
  { blk := 0x1, base := 0x40000F, dims := [.s 16 0 7], lo := 2, w := 1, acc := .w1c }
/-- Fields of the map, part 0. -/
def part0 : List Field :=
  [ MODE, UP_RATE, ROLE, BOND, LIGHT, LIT, CHANGE_OK, TRAINING, TAIL_SYNC, BOND_PARTNER, LOS_IN, DEFECT, DEFECT_STICKY, PROFILE_LONG, GUARD, PROFILE_SHORT, BRST_LEN, RSSI_DLY, RSSI_LEN, TX_ON_LEAD]
/-- Fields of the map, part 1. -/
def part1 : List Field :=
  [ TX_OFF_HOLD, TAIL_TO2, GAIN_MIN, GAIN_MAX, THR_MIN, THR_MAX, TAP_LIM, FENCE_CNT, BOND_SKEW_MAX, UNC_LIM, SD_LIM, SF_LIM, WB_DISCARD, PRESET_LOST, RSSI_CUT, TAIL_SN_VENDOR, TAIL_SN_NUMBER, TAIL_ONU_ID, TAIL_ID_VALID, TAIL_EQD]
/-- Fields of the map, part 2. -/
def part2 : List Field :=
  [ GAIN, THR, PHASE, VALID, EQ_SEED, REFINES, I2C_ADDR, I2C_READ, I2C_REG, I2C_LEN, I2C_RATE, I2C_GO, I2C_DATA, I2C_BUSY, I2C_NACK, I2C_STUCK]
/-- Every named field of the map. -/
def all : List Field := part0 ++ part1 ++ part2

end Sys2Proof.Machine.Reg.Pon

namespace Sys2Proof.Machine.Reg.Rng

/-- [21:0] RW (R181): Zero-distance equalisation delay, ticks (R166) -/
def EQD_ZERO : Field :=
  { blk := 0x3, base := 0x0, dims := [.s 65536 0 63], lo := 0, w := 22, acc := .rw, op := true, act := .rngLimits, rst := .k 2488320 }
/-- [9:0] RW (R181): Nearest terminal, 100 m units -/
def L_MIN : Field :=
  { blk := 0x3, base := 0x1, dims := [.s 65536 0 63], lo := 0, w := 10, acc := .rw, op := true, act := .rngLimits }
/-- [19:10] RW (R181): Farthest terminal, 100 m units, at most 600 -/
def L_MAX : Field :=
  { blk := 0x3, base := 0x1, dims := [.s 65536 0 63], lo := 10, w := 10, acc := .rw, op := true, vmin := 0, vmax := 600, act := .rngLimits, rst := .k 200 }
/-- [7:0] RW (R181): Random delay range, µs (R161) -/
def RAND_US : Field :=
  { blk := 0x3, base := 0x2, dims := [.s 65536 0 63], lo := 0, w := 8, acc := .rw, op := true, rst := .k 48 }
/-- [8] RW (R181): R173 -/
def AUTO_LEVEL : Field :=
  { blk := 0x3, base := 0x2, dims := [.s 65536 0 63], lo := 8, w := 1, acc := .rw, op := true }
/-- [9] RW (R181): Start isolation on suspicion -/
def ROGUE_AUTO : Field :=
  { blk := 0x3, base := 0x2, dims := [.s 65536 0 63], lo := 9, w := 1, acc := .rw, op := true, rst := .k 1 }
/-- [10] RW (R181): 0 one at a time, 1 bisection -/
def ROGUE_METHOD : Field :=
  { blk := 0x3, base := 0x2, dims := [.s 65536 0 63], lo := 10, w := 1, acc := .rw, op := true }
/-- [21:0] RO (R181): Discovery window, ticks -/
def DISC_W : Field :=
  { blk := 0x3, base := 0x3, dims := [.s 65536 0 63], lo := 0, w := 22, acc := .ro, view := .discW }
/-- [21:0] RO (R181): Ranging window, ticks -/
def RANGE_W : Field :=
  { blk := 0x3, base := 0x4, dims := [.s 65536 0 63], lo := 0, w := 22, acc := .ro, view := .rangeW }
/-- [21:0] RO (R181): Pre-assigned delay, ticks -/
def D_PRE : Field :=
  { blk := 0x3, base := 0x5, dims := [.s 65536 0 63], lo := 0, w := 22, acc := .ro, view := .dPre }
/-- [5:0] RW (R181): Bits, 1–63 -/
def DRIFT_THR : Field :=
  { blk := 0x3, base := 0x6, dims := [.s 65536 0 63], lo := 0, w := 6, acc := .rw, op := true, vmin := 1, vmax := 63, rst := .k 8 }
/-- [13:6] RW (R181): Bits, 1–255; drift fence -/
def DRIFT_STEP_MAX : Field :=
  { blk := 0x3, base := 0x6, dims := [.s 65536 0 63], lo := 6, w := 8, acc := .rw, op := true, vmin := 1, vmax := 255, rst := .k 16 }
/-- [21:14] RW (R181): 1–255 (R169) -/
def FENCE_CNT : Field :=
  { blk := 0x3, base := 0x6, dims := [.s 65536 0 63], lo := 14, w := 8, acc := .rw, op := true, vmin := 1, vmax := 255, rst := .k 64 }
/-- [3:0] RW (R181): 1–15 -/
def RANGE_TRIES : Field :=
  { blk := 0x3, base := 0x7, dims := [.s 65536 0 63], lo := 0, w := 4, acc := .rw, op := true, vmin := 1, vmax := 15, rst := .k 3 }
/-- [7:4] RW (R181): 2–15 -/
def LOST_MISS : Field :=
  { blk := 0x3, base := 0x7, dims := [.s 65536 0 63], lo := 4, w := 4, acc := .rw, op := true, vmin := 2, vmax := 15, rst := .k 4 }
/-- [21:8] RW (R181): ms, 1–10,000 -/
def LOST_TO : Field :=
  { blk := 0x3, base := 0x7, dims := [.s 65536 0 63], lo := 8, w := 14, acc := .rw, op := true, vmin := 1, vmax := 10000, rst := .k 100 }
/-- [4:0] RW (R181): 1–16 -/
def ROGUE_FRAMES : Field :=
  { blk := 0x3, base := 0x8, dims := [.s 65536 0 63], lo := 0, w := 5, acc := .rw, op := true, vmin := 1, vmax := 16, rst := .k 8 }
/-- [12:5] RW (R181): Frames, 4–255 -/
def ROGUE_WATCH : Field :=
  { blk := 0x3, base := 0x8, dims := [.s 65536 0 63], lo := 5, w := 8, acc := .rw, op := true, vmin := 4, vmax := 255, rst := .k 16 }
/-- [1:0] RO (R181): 0 none, 1 suspect, 2 testing, 3 unresolved -/
def ROGUE_STATE : Field :=
  { blk := 0x3, base := 0x9, dims := [.s 65536 0 63], lo := 0, w := 2, acc := .ro }
/-- [11:2] RO (R181): Terminal under test -/
def ROGUE_TERM : Field :=
  { blk := 0x3, base := 0x9, dims := [.s 65536 0 63], lo := 2, w := 10, acc := .ro }
/-- [22:12] RO (R181): Candidates remaining -/
def ROGUE_LEFT : Field :=
  { blk := 0x3, base := 0x9, dims := [.s 65536 0 63], lo := 12, w := 11, acc := .ro }
/-- [39:0] RC (R181): Evidence frames -/
def ROGUE_EVID : Field :=
  { blk := 0x3, base := 0xA, dims := [.s 65536 0 63], lo := 0, w := 40, acc := .rc }
/-- [39:0] RC (R181): Unmatched or unadmitted responses -/
def SN_UNKNOWN_CNT : Field :=
  { blk := 0x3, base := 0xB, dims := [.s 65536 0 63], lo := 0, w := 40, acc := .rc }
/-- [39:0] RC (R181): Corrections applied -/
def DRIFT_CORR : Field :=
  { blk := 0x3, base := 0xC, dims := [.s 65536 0 63], lo := 0, w := 40, acc := .rc }
/-- [39:0] RC (R181): Ranging windows without response -/
def RANGE_FAILS : Field :=
  { blk := 0x3, base := 0xD, dims := [.s 65536 0 63], lo := 0, w := 40, acc := .rc }
/-- [0] RW (R181): Management state of terminal t -/
def ADMIN : Field :=
  { blk := 0x3, base := 0x1000, dims := [.s 65536 0 63, .s 8 0 1019], lo := 0, w := 1, acc := .rw, act := .admin }
/-- [3:1] RW (R181): R155; writes under R177 -/
def STATE : Field :=
  { blk := 0x3, base := 0x1000, dims := [.s 65536 0 63, .s 8 0 1019], lo := 1, w := 3, acc := .rw, act := .state }
/-- [9:4] RW (R181): Tenant tag -/
def TENANT : Field :=
  { blk := 0x3, base := 0x1000, dims := [.s 65536 0 63, .s 8 0 1019], lo := 4, w := 6, acc := .rw, op := true }
/-- [10] RW (R181): Software emergency stop -/
def DISABLE : Field :=
  { blk := 0x3, base := 0x1000, dims := [.s 65536 0 63, .s 8 0 1019], lo := 10, w := 1, acc := .rw, op := true, act := .disable }
/-- [11] W1C (R181): Held by isolation -/
def ROGUE_HELD : Field :=
  { blk := 0x3, base := 0x1000, dims := [.s 65536 0 63, .s 8 0 1019], lo := 11, w := 1, acc := .w1c, op := true, act := .rogueHeld }
/-- [12] RW (R181): Cleared by the device after the pulse -/
def RSSI_REQ : Field :=
  { blk := 0x3, base := 0x1000, dims := [.s 65536 0 63, .s 8 0 1019], lo := 12, w := 1, acc := .rw }
/-- [14:13] WO (R181): 1 lower, 2 raise -/
def PWR_CMD : Field :=
  { blk := 0x3, base := 0x1000, dims := [.s 65536 0 63, .s 8 0 1019], lo := 13, w := 2, acc := .wo, op := true, vmin := 0, vmax := 2, act := .pwrCmd }
/-- [15] RO (R181): Change_Power_Level unacknowledged -/
def PWR_BUSY : Field :=
  { blk := 0x3, base := 0x1000, dims := [.s 65536 0 63, .s 8 0 1019], lo := 15, w := 1, acc := .ro }
/-- [16] WO (R181): Send Request_Registration -/
def REREG : Field :=
  { blk := 0x3, base := 0x1000, dims := [.s 65536 0 63, .s 8 0 1019], lo := 16, w := 1, acc := .wo, op := true, act := .rereg }
/-- [17] RO (R181): Registration received -/
def REG_SEEN : Field :=
  { blk := 0x3, base := 0x1000, dims := [.s 65536 0 63, .s 8 0 1019], lo := 17, w := 1, acc := .ro }
/-- [31:0] RW (R181): Vendor part of the serial number; EPON: MAC bits [47:32] in [15:0] -/
def SN_HI : Field :=
  { blk := 0x3, base := 0x1001, dims := [.s 65536 0 63, .s 8 0 1019], lo := 0, w := 32, acc := .rw, op := true, act := .serial }
/-- [31:0] RW (R181): Number part; EPON: MAC bits [31:0] -/
def SN_LO : Field :=
  { blk := 0x3, base := 0x1002, dims := [.s 65536 0 63, .s 8 0 1019], lo := 0, w := 32, acc := .rw, op := true, act := .serial }
/-- [11:0] RW (R181): EPON: index of the allocation record whose ALLOC_ID is the terminal's registration LLID (R188); ignored in ITU modes -/
def DEF_ALLOC : Field :=
  { blk := 0x3, base := 0x1003, dims := [.s 65536 0 63, .s 8 0 1019], lo := 0, w := 12, acc := .rw, op := true, rst := .idx 1 }
/-- [21:0] RO (R181): Equalisation delay (ITU) or round trip (EPON), ticks -/
def EQD_RTT : Field :=
  { blk := 0x3, base := 0x1004, dims := [.s 65536 0 63, .s 8 0 1019], lo := 0, w := 22, acc := .ro }
/-- [21:0] RO (R181): Round trip r, ticks -/
def R_MEAS : Field :=
  { blk := 0x3, base := 0x1005, dims := [.s 65536 0 63, .s 8 0 1019], lo := 0, w := 22, acc := .ro }
/-- [15:0] RO (R181): a of R167, two's complement -/
def DRIFT_AVG : Field :=
  { blk := 0x3, base := 0x1006, dims := [.s 65536 0 63, .s 8 0 1019], lo := 0, w := 16, acc := .ro }
/-- [23:16] RO (R181): Consecutive clamped corrections -/
def DRIFT_CLAMPS : Field :=
  { blk := 0x3, base := 0x1006, dims := [.s 65536 0 63, .s 8 0 1019], lo := 16, w := 8, acc := .ro }
/-- [27:24] RO (R181): Consecutive missed bursts, saturating -/
def MISSED : Field :=
  { blk := 0x3, base := 0x1006, dims := [.s 65536 0 63, .s 8 0 1019], lo := 24, w := 4, acc := .ro }
/-- [31:28] RO (R181): Ranging attempts in the present cycle -/
def RANGE_TRY : Field :=
  { blk := 0x3, base := 0x1006, dims := [.s 65536 0 63, .s 8 0 1019], lo := 28, w := 4, acc := .ro }
/-- [39:0] RO (R181): Stage time of the last entry to ACTIVE -/
def ACT_STAMP : Field :=
  { blk := 0x3, base := 0x1007, dims := [.s 65536 0 63, .s 8 0 1019], lo := 0, w := 40, acc := .ro }
/-- Fields of the map, part 0. -/
def part0 : List Field :=
  [ EQD_ZERO, L_MIN, L_MAX, RAND_US, AUTO_LEVEL, ROGUE_AUTO, ROGUE_METHOD, DISC_W, RANGE_W, D_PRE, DRIFT_THR, DRIFT_STEP_MAX, FENCE_CNT, RANGE_TRIES, LOST_MISS, LOST_TO, ROGUE_FRAMES, ROGUE_WATCH, ROGUE_STATE, ROGUE_TERM]
/-- Fields of the map, part 1. -/
def part1 : List Field :=
  [ ROGUE_LEFT, ROGUE_EVID, SN_UNKNOWN_CNT, DRIFT_CORR, RANGE_FAILS, ADMIN, STATE, TENANT, DISABLE, ROGUE_HELD, RSSI_REQ, PWR_CMD, PWR_BUSY, REREG, REG_SEEN, SN_HI, SN_LO, DEF_ALLOC, EQD_RTT, R_MEAS]
/-- Fields of the map, part 2. -/
def part2 : List Field :=
  [ DRIFT_AVG, DRIFT_CLAMPS, MISSED, RANGE_TRY, ACT_STAMP]
/-- Every named field of the map. -/
def all : List Field := part0 ++ part1 ++ part2

end Sys2Proof.Machine.Reg.Rng
end

