-- ==== Sys2Proof/Machine/RegSys.lean ====
section
/-! DEFINITION. The object map of memory (0x0C), counters and events (0x0D), rehearsal (0x0E) and power (0x0F): one constant per named field, transcribed from the map tables of spec/. -/

namespace Sys2Proof.Machine.Reg.Mem

/-- [39:0] RW (R449): Segment space word (R441) -/
def SEG_WORD : Field :=
  { blk := 0xC, base := 0x0, dims := [.s 1 0 16106127359], lo := 0, w := 40, acc := .rw, view := .segWord }
/-- [1:0] RW (R449): 0: 3,200, 1: 3,733, 2: 4,266 MT/s -/
def MEM_MTS : Field :=
  { blk := 0xC, base := 0x3C0000000, dims := [], lo := 0, w := 2, acc := .rw, vmin := 0, vmax := 2, act := .memCfg, rst := .k 2 }
/-- [3:2] RW (R449): 1: 2, 2: 4, 3: 8 GiB -/
def CH_GIB : Field :=
  { blk := 0xC, base := 0x3C0000000, dims := [], lo := 2, w := 2, acc := .rw, vmin := 1, vmax := 3, act := .memCfg, rst := .k 3 }
/-- [4] RW (R449): 0 one rank, 1 two -/
def RANKS : Field :=
  { blk := 0xC, base := 0x3C0000000, dims := [], lo := 4, w := 1, acc := .rw, act := .memCfg }
/-- [5] RW (R449): R436 -/
def MEM_OPEN : Field :=
  { blk := 0xC, base := 0x3C0000000, dims := [], lo := 5, w := 1, acc := .rw, act := .memOpen }
/-- [21:6] RO (R449): Bit c: channel c trained -/
def MEM_TRAINED : Field :=
  { blk := 0xC, base := 0x3C0000000, dims := [], lo := 6, w := 16, acc := .ro }
/-- [6:0] RW (R449): 1–96 (R440) -/
def PB_GIB : Field :=
  { blk := 0xC, base := 0x3C0000001, dims := [], lo := 0, w := 7, acc := .rw, vmin := 1, vmax := 96, act := .memCfg, rst := .k 32 }
/-- [23:7] RW (R449): s, 60–86,400 (R439) -/
def SCRUB_S : Field :=
  { blk := 0xC, base := 0x3C0000001, dims := [], lo := 7, w := 17, acc := .rw, vmin := 60, vmax := 86400, rst := .k 3600 }
/-- [24] RW (R449): R444 -/
def PB_DIGEST_EN : Field :=
  { blk := 0xC, base := 0x3C0000001, dims := [], lo := 24, w := 1, acc := .rw, rst := .k 1 }
/-- [39:0] RO (R449): Pool E byte address -/
def E_BASE : Field :=
  { blk := 0xC, base := 0x3C0000002, dims := [], lo := 0, w := 40, acc := .ro, rst := .k 0x40000000 }
/-- [39:0] RO (R449): Prompt book byte address -/
def PB_BASE : Field :=
  { blk := 0xC, base := 0x3C0000003, dims := [], lo := 0, w := 40, acc := .ro, view := .pbBase }
/-- [39:0] RO (R449): Segment space byte address -/
def SEG_BASE : Field :=
  { blk := 0xC, base := 0x3C0000004, dims := [], lo := 0, w := 40, acc := .ro, view := .segBase }
/-- [20:0] RO (R449): Granules with G_USED = 0 -/
def SEG_FREE : Field :=
  { blk := 0xC, base := 0x3C0000005, dims := [], lo := 0, w := 21, acc := .ro, view := .segFree }
/-- [39:0] RO (R449): As in BAR0 (R96) -/
def PB_WPTR : Field :=
  { blk := 0xC, base := 0x3C0000006, dims := [], lo := 0, w := 40, acc := .ro }
/-- [39:0] RO (R449): As in BAR0 -/
def PB_WRAPS : Field :=
  { blk := 0xC, base := 0x3C0000007, dims := [], lo := 0, w := 40, acc := .ro }
/-- [39:0] RC (R449): R445 -/
def PB_DROP : Field :=
  { blk := 0xC, base := 0x3C0000010, dims := [], lo := 0, w := 40, acc := .rc }
/-- [39:0] RC (R449): R438 -/
def PB_UE_SKIP : Field :=
  { blk := 0xC, base := 0x3C0000011, dims := [], lo := 0, w := 40, acc := .rc }
/-- [39:0] RC (R449): Channel c (0–15) -/
def CE_CNT : Field :=
  { blk := 0xC, base := 0x3C0000020, dims := [.s 1 0 15], lo := 0, w := 40, acc := .rc }
/-- [39:0] RC (R449): Channel c -/
def UE_CNT : Field :=
  { blk := 0xC, base := 0x3C0000030, dims := [.s 1 0 15], lo := 0, w := 40, acc := .rc }
/-- [39:0] RO (R449): Last uncorrectable byte address on channel c -/
def UE_ADDR : Field :=
  { blk := 0xC, base := 0x3C0000040, dims := [.s 1 0 15], lo := 0, w := 40, acc := .ro }
/-- [31:0] RW (R449): Bit i: tree 32j + i journaled (j = 0–1) -/
def PB_TREE : Field :=
  { blk := 0xC, base := 0x3C0000100, dims := [.s 1 0 1], lo := 0, w := 32, acc := .rw }
/-- [31:0] RW (R449): Tree z: bit i, terminal 32j + i journaled (j = 0–31) -/
def PB_TERM : Field :=
  { blk := 0xC, base := 0x3C0001000, dims := [.s 32 0 63, .s 1 0 31], lo := 0, w := 32, acc := .rw, act := .pbTerm }
/-- [5:0] RW (R449): Granule g of segment space: tenant tag -/
def G_TENANT : Field :=
  { blk := 0xC, base := 0x3C0100000, dims := [.s 1 0 1966080], lo := 0, w := 6, acc := .rw, op := true }
/-- [6] RW (R449): Granule granted -/
def G_USED : Field :=
  { blk := 0xC, base := 0x3C0100000, dims := [.s 1 0 1966080], lo := 6, w := 1, acc := .rw, op := true }
/-- Fields of the map, part 0. -/
def part0 : List Field :=
  [ SEG_WORD, MEM_MTS, CH_GIB, RANKS, MEM_OPEN, MEM_TRAINED, PB_GIB, SCRUB_S, PB_DIGEST_EN, E_BASE, PB_BASE, SEG_BASE, SEG_FREE, PB_WPTR, PB_WRAPS, PB_DROP, PB_UE_SKIP, CE_CNT, UE_CNT, UE_ADDR]
/-- Fields of the map, part 1. -/
def part1 : List Field :=
  [ PB_TREE, PB_TERM, G_TENANT, G_USED]
/-- Every named field of the map. -/
def all : List Field := part0 ++ part1

end Sys2Proof.Machine.Reg.Mem

namespace Sys2Proof.Machine.Reg.Cnt

/-- [39:0] RO (R471): Counter n (0–2,228,223) -/
def CNT : Field :=
  { blk := 0xD, base := 0x0, dims := [.s 1 0 2228223], lo := 0, w := 40, acc := .ro }
/-- [0] W1C (R471): R455 -/
def WRAP : Field :=
  { blk := 0xD, base := 0x400000, dims := [.s 1 0 2228223], lo := 0, w := 1, acc := .w1c }
/-- [1] RO (R471): R459 -/
def LAST_WRAP : Field :=
  { blk := 0xD, base := 0x400000, dims := [.s 1 0 2228223], lo := 1, w := 1, acc := .ro }
/-- [39:0] RO (R471): Value at the last clearing flush (R459) -/
def LAST : Field :=
  { blk := 0xD, base := 0x800000, dims := [.s 1 0 2228223], lo := 0, w := 40, acc := .ro }
/-- [5:0] RW (R471): Group g (0–271); RO 0 for 13–14, RO 0x3F for 15 (R454) -/
def TENANT : Field :=
  { blk := 0xD, base := 0xC00000, dims := [.s 1 0 271], lo := 0, w := 6, acc := .rw, op := true, act := .cntTenant, rst := .tab 0 [0, 0, 0, 0, 0, 0, 0, 0, 0, 0, 0, 0, 0, 0, 0, 63] 0 }
/-- [6] RO (R471): R454 -/
def MIXED : Field :=
  { blk := 0xD, base := 0xC00000, dims := [.s 1 0 271], lo := 6, w := 1, acc := .ro, view := .mixed }
/-- [3:0] RW (R471): Threshold counter i (0–4,095), R460 -/
def TH_KIND : Field :=
  { blk := 0xD, base := 0xC10000, dims := [.s 2 0 4095], lo := 0, w := 4, acc := .rw, vmin := 0, vmax := 12, act := .threshold }
/-- [21:4] RW (R471): -/
def TH_INDEX : Field :=
  { blk := 0xD, base := 0xC10000, dims := [.s 2 0 4095], lo := 4, w := 18, acc := .rw, act := .threshold }
/-- [22] RW (R471): -/
def TH_EN : Field :=
  { blk := 0xD, base := 0xC10000, dims := [.s 2 0 4095], lo := 22, w := 1, acc := .rw, act := .thEn }
/-- [23] RW (R471): R461 -/
def TH_EVENT : Field :=
  { blk := 0xD, base := 0xC10000, dims := [.s 2 0 4095], lo := 23, w := 1, acc := .rw }
/-- [24] RO (R471): Signal exceeds TH_N now -/
def TH_ABOVE : Field :=
  { blk := 0xD, base := 0xC10000, dims := [.s 2 0 4095], lo := 24, w := 1, acc := .ro, view := .thAbove }
/-- [39:0] RW (R471): Threshold -/
def TH_N : Field :=
  { blk := 0xD, base := 0xC10001, dims := [.s 2 0 4095], lo := 0, w := 40, acc := .rw }
/-- [15:0] RW (R471): Records/s, 1–65,535 (R468) -/
def EV_TENANT_RATE : Field :=
  { blk := 0xD, base := 0xC20000, dims := [], lo := 0, w := 16, acc := .rw, vmin := 1, vmax := 65535, rst := .k 10000, act := .evBucket }
/-- [26:16] RW (R471): Records, 1–2,047 -/
def EV_TENANT_BURST : Field :=
  { blk := 0xD, base := 0xC20000, dims := [], lo := 16, w := 11, acc := .rw, vmin := 1, vmax := 2047, rst := .k 1024, act := .evBucket }
/-- [31:0] RO (R471): Next SEQ -/
def EV_SEQ : Field :=
  { blk := 0xD, base := 0xC20001, dims := [], lo := 0, w := 32, acc := .ro }
/-- [10:0] RO (R471): Collector queue fill -/
def EV_QFILL : Field :=
  { blk := 0xD, base := 0xC20002, dims := [], lo := 0, w := 11, acc := .ro }
/-- [11:0] RO (R471): R469 -/
def EV_HEAD : Field :=
  { blk := 0xD, base := 0xC20003, dims := [], lo := 0, w := 12, acc := .ro }
/-- [31:0] RW (R471): Bit i: code 32w + i masked (w = 0–7, R466) -/
def EV_MASK : Field :=
  { blk := 0xD, base := 0xC20008, dims := [.s 1 0 7], lo := 0, w := 32, acc := .rw, act := .evMask }
/-- [39:0] RC (R471): R467 -/
def EV_DROP : Field :=
  { blk := 0xD, base := 0xC20010, dims := [], lo := 0, w := 40, acc := .rc }
/-- [39:0] RC (R471): R466 -/
def EV_MASKED : Field :=
  { blk := 0xD, base := 0xC20011, dims := [], lo := 0, w := 40, acc := .rc }
/-- [39:0] RC (R471): R468 -/
def EV_TENANT_DROP : Field :=
  { blk := 0xD, base := 0xC20012, dims := [], lo := 0, w := 40, acc := .rc }
/-- [39:0] RO (R471): History record e (0–4,095), word w (0–12) -/
def EV_HIST : Field :=
  { blk := 0xD, base := 0xC30000, dims := [.s 16 0 4095, .s 1 0 12], lo := 0, w := 40, acc := .ro }
/-- [1:0] RW (R471): Core c (0–79): 0 off, 1 continuous, 2 stop when full -/
def TR_MODE : Field :=
  { blk := 0xD, base := 0xD00000, dims := [.s 16384 0 79], lo := 0, w := 2, acc := .rw, vmin := 0, vmax := 2, rst := .k 1, act := .trMode }
/-- [2] RO (R471): R470 -/
def TR_FROZEN : Field :=
  { blk := 0xD, base := 0xD00000, dims := [.s 16384 0 79], lo := 2, w := 1, acc := .ro }
/-- [3] WO (R471): Freeze -/
def TR_FREEZE : Field :=
  { blk := 0xD, base := 0xD00000, dims := [.s 16384 0 79], lo := 3, w := 1, acc := .wo, act := .trFreeze }
/-- [4] WO (R471): Empty and unfreeze -/
def TR_CLEAR : Field :=
  { blk := 0xD, base := 0xD00000, dims := [.s 16384 0 79], lo := 4, w := 1, acc := .wo, act := .trClear }
/-- [16:5] RO (R471): Next entry -/
def TR_PTR : Field :=
  { blk := 0xD, base := 0xD00000, dims := [.s 16384 0 79], lo := 5, w := 12, acc := .ro }
/-- [17] RO (R471): 4,096 entries written since last cleared -/
def TR_FULL : Field :=
  { blk := 0xD, base := 0xD00000, dims := [.s 16384 0 79], lo := 17, w := 1, acc := .ro }
/-- [20:18] RO (R471): 0 none, 1 software, 2 exception, 3 lockstep, 4 full -/
def TR_CAUSE : Field :=
  { blk := 0xD, base := 0xD00000, dims := [.s 16384 0 79], lo := 18, w := 3, acc := .ro }
/-- [16:0] RO (R471): Entry e (0–4,095) -/
def TR_FROM : Field :=
  { blk := 0xD, base := 0xD00010, dims := [.s 16384 0 79, .s 2 0 4095], lo := 0, w := 17, acc := .ro }
/-- [33:17] RO (R471): -/
def TR_TO : Field :=
  { blk := 0xD, base := 0xD00010, dims := [.s 16384 0 79, .s 2 0 4095], lo := 17, w := 17, acc := .ro }
/-- [36:34] RO (R471): R470 -/
def TR_KIND : Field :=
  { blk := 0xD, base := 0xD00010, dims := [.s 16384 0 79, .s 2 0 4095], lo := 34, w := 3, acc := .ro }
/-- [35:0] RO (R471): Stage time bits [35:0] -/
def TR_TIME : Field :=
  { blk := 0xD, base := 0xD00011, dims := [.s 16384 0 79, .s 2 0 4095], lo := 0, w := 36, acc := .ro }
/-- [39:36] RO (R471): Context -/
def TR_CTX : Field :=
  { blk := 0xD, base := 0xD00011, dims := [.s 16384 0 79, .s 2 0 4095], lo := 36, w := 4, acc := .ro }
/-- Fields of the map, part 0. -/
def part0 : List Field :=
  [ CNT, WRAP, LAST_WRAP, LAST, TENANT, MIXED, TH_KIND, TH_INDEX, TH_EN, TH_EVENT, TH_ABOVE, TH_N, EV_TENANT_RATE, EV_TENANT_BURST, EV_SEQ, EV_QFILL, EV_HEAD, EV_MASK, EV_DROP, EV_MASKED]
/-- Fields of the map, part 1. -/
def part1 : List Field :=
  [ EV_TENANT_DROP, EV_HIST, TR_FREEZE, TR_CLEAR, TR_MODE, TR_FROZEN, TR_PTR, TR_FULL, TR_CAUSE, TR_FROM, TR_TO, TR_KIND, TR_TIME, TR_CTX]
/-- Every named field of the map. -/
def all : List Field := part0 ++ part1

end Sys2Proof.Machine.Reg.Cnt

namespace Sys2Proof.Machine.Reg.Reh

/-- [2:0] RO (R489): R472 -/
def LC_STATE : Field :=
  { blk := 0xE, base := 0x0, dims := [], lo := 0, w := 3, acc := .ro }
/-- [5:3] RO (R489): Target burnt, effective at reset; equal to LC_STATE when none -/
def LC_PENDING : Field :=
  { blk := 0xE, base := 0x0, dims := [], lo := 3, w := 3, acc := .ro }
/-- [31:0] RO (R489): Unique identifier bits [31:0] -/
def DEV_ID_LO : Field :=
  { blk := 0xE, base := 0x1, dims := [], lo := 0, w := 32, acc := .ro }
/-- [31:0] RO (R489): Bits [63:32] -/
def DEV_ID_HI : Field :=
  { blk := 0xE, base := 0x2, dims := [], lo := 0, w := 32, acc := .ro }
/-- [0] RW (R489): Rehearsal enabled -/
def REH_EN : Field :=
  { blk := 0xE, base := 0x3, dims := [], lo := 0, w := 1, acc := .rw, rst := .k 1 }
/-- [7:1] RW (R489): µs, 5–100 (R478) -/
def SLICE_US : Field :=
  { blk := 0xE, base := 0x3, dims := [], lo := 1, w := 7, acc := .rw, vmin := 5, vmax := 100, rst := .k 25 }
/-- [9:8] RO (R489): 0 ROM, 1 diagnostics, 2 loadable (R477) -/
def CAT_SEL : Field :=
  { blk := 0xE, base := 0x3, dims := [], lo := 8, w := 2, acc := .ro }
/-- [39:0] RO (R489): Stage time at which the present cycle began -/
def CYCLE_START : Field :=
  { blk := 0xE, base := 0x4, dims := [], lo := 0, w := 40, acc := .ro }
/-- [10:0] RO (R489): Entries still to run (R485) -/
def CYCLE_LEFT : Field :=
  { blk := 0xE, base := 0x5, dims := [], lo := 0, w := 11, acc := .ro }
/-- [11] RO (R489): R485 -/
def CYCLE_LATE : Field :=
  { blk := 0xE, base := 0x5, dims := [], lo := 11, w := 1, acc := .ro }
/-- [39:0] RC (R489): Slices passed -/
def SLICES_OK : Field :=
  { blk := 0xE, base := 0x10, dims := [], lo := 0, w := 40, acc := .rc }
/-- [39:0] RC (R489): R484 -/
def SLICES_FAIL : Field :=
  { blk := 0xE, base := 0x11, dims := [], lo := 0, w := 40, acc := .rc }
/-- [39:0] RC (R489): R479, R483 -/
def SLICES_INCOMPLETE : Field :=
  { blk := 0xE, base := 0x12, dims := [], lo := 0, w := 40, acc := .rc }
/-- [39:0] RC (R489): R480 -/
def SKIPPED : Field :=
  { blk := 0xE, base := 0x13, dims := [], lo := 0, w := 40, acc := .rc }
/-- [39:0] RC (R489): Coverage cycles completed -/
def CYCLES_DONE : Field :=
  { blk := 0xE, base := 0x14, dims := [], lo := 0, w := 40, acc := .rc }
/-- [0] WO (R489): Token written; request the step (R474) -/
def LC_REQ : Field :=
  { blk := 0xE, base := 0x20, dims := [], lo := 0, w := 1, acc := .wo, act := .lcReq }
/-- [0] WO (R489): System context only: check and burn -/
def LC_GO : Field :=
  { blk := 0xE, base := 0x21, dims := [], lo := 0, w := 1, acc := .wo, act := .lcGo }
/-- [7:0] RO (R489): Code of the last check -/
def LC_STAT : Field :=
  { blk := 0xE, base := 0x22, dims := [], lo := 0, w := 8, acc := .ro }
/-- [15:8] RO (R489): Its subcause -/
def LC_SUB : Field :=
  { blk := 0xE, base := 0x22, dims := [], lo := 8, w := 8, acc := .ro }
/-- [0] WO (R489): R488 -/
def MFG_TEST : Field :=
  { blk := 0xE, base := 0x30, dims := [], lo := 0, w := 1, acc := .wo, act := .mfgTest }
/-- [31:0] WO (R489): Token bytes 4w to 4w+3 (w = 0–55), byte 4w in [7:0] -/
def LC_TOKEN : Field :=
  { blk := 0xE, base := 0x100, dims := [.s 1 0 55], lo := 0, w := 32, acc := .wo, act := .lcToken }
/-- [0] WO (R489): Port z (0–63): request dark rehearsal (R486) -/
def DARK_GO : Field :=
  { blk := 0xE, base := 0x800, dims := [.s 1 0 63], lo := 0, w := 1, acc := .wo, act := .darkGo }
/-- [1] RO (R489): Dark rehearsal running -/
def DARK_BUSY : Field :=
  { blk := 0xE, base := 0x800, dims := [.s 1 0 63], lo := 1, w := 1, acc := .ro }
/-- [9:2] RO (R489): Outcome of the last dark rehearsal -/
def DARK_CODE : Field :=
  { blk := 0xE, base := 0x800, dims := [.s 1 0 63], lo := 2, w := 8, acc := .ro }
/-- [7:0] RO (R489): Entry e (0–1,023): last outcome -/
def E_CODE : Field :=
  { blk := 0xE, base := 0x1000, dims := [.s 2 0 1023], lo := 0, w := 8, acc := .ro }
/-- [13:8] RO (R489): Target block ID -/
def E_BLOCK : Field :=
  { blk := 0xE, base := 0x1000, dims := [.s 2 0 1023], lo := 8, w := 6, acc := .ro }
/-- [25:14] RO (R489): Target instance -/
def E_INST : Field :=
  { blk := 0xE, base := 0x1000, dims := [.s 2 0 1023], lo := 14, w := 12, acc := .ro }
/-- [26] RO (R489): R484 -/
def E_FAILED : Field :=
  { blk := 0xE, base := 0x1000, dims := [.s 2 0 1023], lo := 26, w := 1, acc := .ro }
/-- [39:0] RO (R489): Stage time of the last outcome -/
def E_LAST : Field :=
  { blk := 0xE, base := 0x1001, dims := [.s 2 0 1023], lo := 0, w := 40, acc := .ro }
/-- Fields of the map, part 0. -/
def part0 : List Field :=
  [ LC_STATE, LC_PENDING, DEV_ID_LO, DEV_ID_HI, REH_EN, SLICE_US, CAT_SEL, CYCLE_START, CYCLE_LEFT, CYCLE_LATE, SLICES_OK, SLICES_FAIL, SLICES_INCOMPLETE, SKIPPED, CYCLES_DONE, LC_REQ, LC_GO, LC_STAT, LC_SUB, MFG_TEST]
/-- Fields of the map, part 1. -/
def part1 : List Field :=
  [ LC_TOKEN, DARK_GO, DARK_BUSY, DARK_CODE, E_CODE, E_BLOCK, E_INST, E_FAILED, E_LAST]
/-- Every named field of the map. -/
def all : List Field := part0 ++ part1

end Sys2Proof.Machine.Reg.Reh

namespace Sys2Proof.Machine.Reg.Pwr

/-- [12:0] RO (R512): VIN in mV, averaged over 1 µs -/
def VIN_MV : Field :=
  { blk := 0xF, base := 0x0, dims := [], lo := 0, w := 13, acc := .ro }
/-- [13] RO (R512): R495 -/
def DIP_ACTIVE : Field :=
  { blk := 0xF, base := 0x0, dims := [], lo := 13, w := 1, acc := .ro }
/-- [14] RO (R512): R497 -/
def OV_WARN : Field :=
  { blk := 0xF, base := 0x0, dims := [], lo := 14, w := 1, acc := .ro }
/-- [15] RO (R512): R493 -/
def RAIL_CRIT : Field :=
  { blk := 0xF, base := 0x0, dims := [], lo := 15, w := 1, acc := .ro }
/-- [16] RO (R512): R501 -/
def MARGIN_CRIT_S : Field :=
  { blk := 0xF, base := 0x0, dims := [], lo := 16, w := 1, acc := .ro }
/-- [17] RO (R512): R498 -/
def THERM_WARN : Field :=
  { blk := 0xF, base := 0x0, dims := [], lo := 17, w := 1, acc := .ro }
/-- [18] RO (R512): Root PLL locked -/
def ROOT_LOCK : Field :=
  { blk := 0xF, base := 0x0, dims := [], lo := 18, w := 1, acc := .ro }
/-- [10:0] RW (R512): mV, 1,600–1,680 (R490) -/
def VIN_WARN : Field :=
  { blk := 0xF, base := 0x1, dims := [], lo := 0, w := 11, acc := .rw, op := true, vmin := 1600, vmax := 1680, rst := .k 1640 }
/-- [20:11] RW (R512): s, 0–600 (R495) -/
def DIP_HOLD : Field :=
  { blk := 0xF, base := 0x1, dims := [], lo := 11, w := 10, acc := .rw, op := true, vmin := 0, vmax := 600, rst := .k 10 }
/-- [12:0] RO (R512): Lowest VIN of the last dip, mV -/
def VIN_MIN : Field :=
  { blk := 0xF, base := 0x2, dims := [], lo := 0, w := 13, acc := .ro }
/-- [39:13] RO (R512): Duration of the last dip, µs, saturating -/
def DIP_US : Field :=
  { blk := 0xF, base := 0x2, dims := [], lo := 13, w := 27, acc := .ro }
/-- [9:0] RO (R512): s -/
def DIP_HOLD_LEFT : Field :=
  { blk := 0xF, base := 0x3, dims := [], lo := 0, w := 10, acc := .ro, view := .dipHoldLeft }
/-- [39:0] RC (R512): Dips ended in service -/
def DIPS : Field :=
  { blk := 0xF, base := 0x4, dims := [], lo := 0, w := 40, acc := .rc }
/-- [11:0] RO (R512): Rail r (0–7, R492): voltage, mV -/
def RAIL_MV : Field :=
  { blk := 0xF, base := 0x10, dims := [.s 1 0 7], lo := 0, w := 12, acc := .ro }
/-- [12] RO (R512): Within its window -/
def RAIL_OK : Field :=
  { blk := 0xF, base := 0x10, dims := [.s 1 0 7], lo := 12, w := 1, acc := .ro }
/-- [13] RO (R512): Critical (R493) -/
def RAIL_CRIT_R : Field :=
  { blk := 0xF, base := 0x10, dims := [.s 1 0 7], lo := 13, w := 1, acc := .ro }
/-- [29:14] RO (R512): Output current, mA; rails 5–7 only -/
def RAIL_MA : Field :=
  { blk := 0xF, base := 0x10, dims := [.s 1 0 7], lo := 14, w := 16, acc := .ro, view := .railMa }
/-- [0] RW (R512): R499 -/
def AVS_EN : Field :=
  { blk := 0xF, base := 0x20, dims := [], lo := 0, w := 1, acc := .rw, op := true, rst := .k 1 }
/-- [10:1] RW (R512): mV, fence -/
def VCORE_MIN : Field :=
  { blk := 0xF, base := 0x20, dims := [], lo := 1, w := 10, acc := .rw, op := true, vmin := 650, vmax := 850, act := .vcore, rst := .k 650 }
/-- [20:11] RW (R512): mV, fence -/
def VCORE_MAX : Field :=
  { blk := 0xF, base := 0x20, dims := [], lo := 11, w := 10, acc := .rw, op := true, vmin := 650, vmax := 850, act := .vcore, rst := .k 850 }
/-- [30:21] RW (R512): mV -/
def VCORE_SET : Field :=
  { blk := 0xF, base := 0x20, dims := [], lo := 21, w := 10, acc := .rw, op := true, rst := .k 800 }
/-- [38:31] RW (R512): 1–255 (R500) -/
def AVS_FENCE_CNT : Field :=
  { blk := 0xF, base := 0x20, dims := [], lo := 31, w := 8, acc := .rw, op := true, vmin := 1, vmax := 255, rst := .k 64 }
/-- [9:0] RO (R512): mV -/
def VCORE_NOW : Field :=
  { blk := 0xF, base := 0x21, dims := [], lo := 0, w := 10, acc := .ro }
/-- [11:10] RO (R512): 0 none, 1 VCORE_MIN, 2 VCORE_MAX -/
def AVS_AT_FENCE : Field :=
  { blk := 0xF, base := 0x21, dims := [], lo := 10, w := 2, acc := .ro }
/-- [7:0] RW (R512): ps, 1–100 (R501) -/
def MARGIN_CRIT : Field :=
  { blk := 0xF, base := 0x22, dims := [], lo := 0, w := 8, acc := .rw, op := true, vmin := 1, vmax := 100, rst := .k 8 }
/-- [15:8] RO (R512): Worst slack now, ps -/
def MARGIN_MIN : Field :=
  { blk := 0xF, base := 0x22, dims := [], lo := 8, w := 8, acc := .ro }
/-- [20:16] RO (R512): Monitor reporting it -/
def MARGIN_WORST : Field :=
  { blk := 0xF, base := 0x22, dims := [], lo := 16, w := 5, acc := .ro }
/-- [7:0] RO (R512): °C, two's complement -/
def TEMP_MAX : Field :=
  { blk := 0xF, base := 0x30, dims := [], lo := 0, w := 8, acc := .ro }
/-- [15:8] RW (R512): °C, 60–110 (R498) -/
def TJ_WARN : Field :=
  { blk := 0xF, base := 0x30, dims := [], lo := 8, w := 8, acc := .rw, op := true, vmin := 60, vmax := 110, rst := .tjWarn }
/-- [18:16] RO (R512): Sensor reading TEMP_MAX -/
def TEMP_SENSOR : Field :=
  { blk := 0xF, base := 0x30, dims := [], lo := 16, w := 3, acc := .ro }
/-- [3:0] RO (R512): Unlocked: [0] PON, [1] uplink, [2] twin, [3] memory PHY (R503) -/
def PLL_STAT : Field :=
  { blk := 0xF, base := 0x31, dims := [], lo := 0, w := 4, acc := .ro }
/-- [3:0] RO (R512): R505 -/
def RST_CAUSE : Field :=
  { blk := 0xF, base := 0x40, dims := [], lo := 0, w := 4, acc := .ro }
/-- [19:4] RO (R512): Resets since power-on -/
def RST_COUNT : Field :=
  { blk := 0xF, base := 0x40, dims := [], lo := 4, w := 16, acc := .ro }
/-- [32:20] RO (R512): Lowest VIN at a cause 4 reset, mV -/
def RST_VIN : Field :=
  { blk := 0xF, base := 0x40, dims := [], lo := 20, w := 13, acc := .ro }
/-- [1:0] RO (R512): R509 -/
def BOOT_SRC_S : Field :=
  { blk := 0xF, base := 0x41, dims := [], lo := 0, w := 2, acc := .ro }
/-- [3:2] RO (R512): 0 slot 0, 1 slot 1, 2 PCIe, 3 none -/
def BOOT_SLOT : Field :=
  { blk := 0xF, base := 0x41, dims := [], lo := 2, w := 2, acc := .ro, rst := .k 3 }
/-- [11:4] RO (R512): Outcome of slot 0 (R510) -/
def BOOT_CODE0 : Field :=
  { blk := 0xF, base := 0x41, dims := [], lo := 4, w := 8, acc := .ro }
/-- [19:12] RO (R512): Outcome of slot 1 -/
def BOOT_CODE1 : Field :=
  { blk := 0xF, base := 0x41, dims := [], lo := 12, w := 8, acc := .ro }
/-- [27:20] RO (R512): Outcome of the last PCIe image -/
def BOOT_CODE2 : Field :=
  { blk := 0xF, base := 0x41, dims := [], lo := 20, w := 8, acc := .ro }
/-- [35:28] RO (R512): Subcause of the last failure -/
def BOOT_SUB : Field :=
  { blk := 0xF, base := 0x41, dims := [], lo := 28, w := 8, acc := .ro }
/-- [31:0] RO (R512): VERSION of the running image -/
def SYS_VERSION : Field :=
  { blk := 0xF, base := 0x42, dims := [], lo := 0, w := 32, acc := .ro }
/-- [31:0] RO (R512): Fused minimum version (R511) -/
def FUSED_MIN : Field :=
  { blk := 0xF, base := 0x43, dims := [], lo := 0, w := 32, acc := .ro }
/-- [36:32] RO (R512): Fuse rows left, 0–16 -/
def BURNS_LEFT : Field :=
  { blk := 0xF, base := 0x43, dims := [], lo := 32, w := 5, acc := .ro, rst := .k 16 }
/-- [0] WO (R512): R511 -/
def ROLLBACK_BURN : Field :=
  { blk := 0xF, base := 0x44, dims := [], lo := 0, w := 1, acc := .wo, act := .rollbackBurn }
/-- [39:0] RO (R512): Root cycles since the root PLL last locked, from step 4 of R508, whether or not stage time runs; wraps every 176.7 s (R234) -/
def BOOT_TIME : Field :=
  { blk := 0xF, base := 0x45, dims := [], lo := 0, w := 40, acc := .ro, view := .bootTime }
/-- [15:0] RW (R512): ms, 10–60,000 (R507) -/
def WDOG_MS : Field :=
  { blk := 0xF, base := 0x50, dims := [], lo := 0, w := 16, acc := .rw, op := true, vmin := 10, vmax := 60000, rst := .k 1000 }
/-- [16] RW (R512): R507 -/
def WDOG_EN : Field :=
  { blk := 0xF, base := 0x50, dims := [], lo := 16, w := 1, acc := .rw, op := true, act := .wdogEn, rst := .k 1 }
/-- [15:0] WO (R512): 0xA5C3 restarts the period -/
def WDOG_KICK : Field :=
  { blk := 0xF, base := 0x51, dims := [], lo := 0, w := 16, acc := .wo, act := .wdogKick }
/-- Fields of the map, part 0. -/
def part0 : List Field :=
  [ VIN_MV, DIP_ACTIVE, OV_WARN, RAIL_CRIT, MARGIN_CRIT_S, THERM_WARN, ROOT_LOCK, VIN_WARN, DIP_HOLD, VIN_MIN, DIP_US, DIP_HOLD_LEFT, DIPS, RAIL_MV, RAIL_OK, RAIL_CRIT_R, RAIL_MA, AVS_EN, VCORE_MIN, VCORE_MAX]
/-- Fields of the map, part 1. -/
def part1 : List Field :=
  [ VCORE_SET, AVS_FENCE_CNT, VCORE_NOW, AVS_AT_FENCE, MARGIN_CRIT, MARGIN_MIN, MARGIN_WORST, TEMP_MAX, TJ_WARN, TEMP_SENSOR, PLL_STAT, RST_CAUSE, RST_COUNT, RST_VIN, BOOT_SRC_S, BOOT_SLOT, BOOT_CODE0, BOOT_CODE1, BOOT_CODE2, BOOT_SUB]
/-- Fields of the map, part 2. -/
def part2 : List Field :=
  [ SYS_VERSION, FUSED_MIN, BURNS_LEFT, ROLLBACK_BURN, BOOT_TIME, WDOG_MS, WDOG_EN, WDOG_KICK]
/-- Every named field of the map. -/
def all : List Field := part0 ++ part1 ++ part2

end Sys2Proof.Machine.Reg.Pwr
end

