-- ==== Sys2Proof/Machine/State.lean ====
section
/-! DEFINITION. The state of the OX9640 as plain data. Every register of the object maps and of BAR0 lives in `regs` under
its address (Machine/Reg*.lean name them); what the rules keep besides is held in the structures below. -/

namespace Sys2Proof.Machine

/-- A sparse map from addresses to words in one canonical form: addresses strictly rising, no word equal to zero;
an address that is not listed holds zero. -/
abbrev Store (w : Nat) := List (Nat × BitVec w)

/-- A finite map from numbers to records, keys strictly rising. -/
abbrev Map (α : Type) := List (Nat × α)

/-- What the straps, the fuses and the ports' mode family decide of reset values: `TWIN_UNIT`, `ORDER_I`, and a bit mask
of the ports in an EPON mode (log 6). -/
structure Env where
  unit : Nat
  orderI : Nat
  epon : Nat
deriving DecidableEq, Repr

/-- An object load or atomic on its way: its address, destination register, operands and instruction word; `lost` once the twin lanes have gone down
under it (R40), `made` the old value of an atomic that is made here and waits for the twin's copy (R265, R266). -/
structure Access where
  kind : AccKind
  addr : Word
  wd : Nat
  b : Word
  c : Word
  instr : Word
  lost : Bool := false
  made : Option Word := none
deriving DecidableEq, Repr

/-- Why a context does not run: nothing, a `WAIT`, an object access, an access held behind `ORDER` (R46), `FENCE` (R47), the
implicit fence at a script's end, the same for a script that was stopped and takes no exception any more (R30, R51, R59), `WAITUNTIL`, an `ISSUE` with no
ticket entry (R42), or the time between prompter runs. -/
inductive Block where
  | none
  | wait (ticket : Word) (wd : Nat)
  | access (a : Access)
  | heldAccess (a : Access)
  | heldStore (addr value instr : Word)
  | heldIssue (addr : Word) (wd : Nat) (instr : Word) (tw : Option TwinReply)
  | fence
  | ending
  | stopped
  | untilTime (t : Word) (wd : Nat)
  | issue
  | idle
deriving DecidableEq, Repr

/-- A refused posted store whose refusal has not been taken yet (R39); `returned` once it has come back to a blocked context. -/
structure Refused where
  code : Nat
  sub : Nat
  instr : Word
  addr : Word
  returned : Bool
deriving DecidableEq, Repr

/-- The submission a script or an unload answers to (R104): function, host tag, ring index, `NO_IRQ`, whether its completion
is discarded (R115), and the resident handle plus one, or 0. -/
structure Job where
  func : Nat
  tag : Nat
  index : Nat
  noIrq : Bool
  discard : Bool
  resident : Nat
deriving DecidableEq, Repr

/-- An Erten context (R33, R100): registers, program counter, the running image's instruction and data counts, executed cycles and
run limit, what blocks it, `ORDER` in force, refused stores, its end (code, subcause) once decided and a stop
ordered from outside (R30, R51), its submission and results, its external segments (R34), the instruction words of the running image (R36, R64), and the extended
stage time at which it last blocked (R57). -/
structure Ctx where
  kind : CtxKind
  tenant : Nat
  regs : Store 40
  pc : Nat
  icount : Nat
  dwords : Nat
  cycles : Nat
  limit : Nat
  block : Block
  order : Bool
  refused : List Refused
  ended : Option (Nat × Nat)
  kill : Option (Nat × Nat)
  job : Option Job
  res0 : Word
  res1 : Word
  segs : List (Nat × Nat × Nat)
  code : List Word := []
  since : Nat := 0
deriving DecidableEq, Repr

/-- The state of a ticket's operation: running, or complete with its completion word (R43). -/
inductive TSt where
  | pending
  | done (w : Word)
deriving DecidableEq, Repr

/-- A held ticket entry (R41): generation, issuing context and tenant, the operation, whether its context has ended (R48), the
continuation of a curtain (R91), and the object addresses and the port it is outstanding against (R121). -/
structure Tix where
  gen : Nat
  core : Nat
  ctx : Nat
  tenant : Nat
  st : TSt
  orphan : Bool
  next : Option TSt
  objs : List Nat
  port : Option Nat
deriving DecidableEq, Repr

/-- An image in the resident store (R36, R99): handle, tenant, image, running instances, and the unload waiting for them. -/
structure Resident where
  handle : Nat
  tenant : Nat
  img : Image
  running : Nat
  unload : Option Job
deriving DecidableEq, Repr

/-- The cores: contexts by core·16 + context, tickets by entry, local data memories (key context·2^16 + word), tree state windows and
their checkpoints (key tree·2^16 + word), prompter images by tree, images waiting for the next frame boundary, resident images, and the words of core memory that
hold an uncorrectable error (R50): data memory by context·2^16 + word, instruction memory by context·2^17 + address. -/
structure Cpu where
  ctxs : Map Ctx
  tickets : Map Tix
  mem : Store 40
  win : Store 40
  ckpt : Store 40
  images : Map Image
  nextImages : Map Image
  residents : List Resident
  badData : List Nat := []
  badCode : List Nat := []
deriving DecidableEq, Repr

/-- An event record before its phase is set (R463). -/
structure Ev where
  stamp : Nat
  wrap : Nat
  code : Nat
  sev : Nat
  tenant : Nat
  object : Nat
  seq : Nat
  count : Nat
  details : List Nat
deriving DecidableEq, Repr

/-- A rate-limit window (R530): event code, key, interval, the time it closes, occurrences counted, the last of them. -/
structure RateWin where
  code : Nat
  key : Nat
  interval : Nat
  closes : Nat
  count : Nat
  last : Ev
deriving DecidableEq, Repr

/-- The event collector (R466, R467): accepted records not yet delivered, oldest first; open windows; records dropped since the last `EVENTS_DROPPED`. -/
structure Events where
  queue : List Ev
  windows : List RateWin
  dropped : Nat
deriving DecidableEq, Repr

/-- The kinds of an entry of a cue sheet: a grant, or a quiet window of kind 0, 1 or 2 (R77). -/
inductive EntKind where
  | grant | disc | rng | silence
deriving DecidableEq, Repr

/-- An entry of a cue sheet: kind, allocation, terminal, start, size, overhead H in units (0 when it joins a burst, R192),
long profile, report and PLOAM requests, joined, source (0 program, 1 standing, 2 carried, 3 standing alone; R211), channel (R187), `left`: length of a window past this frame. -/
structure Entry where
  kind : EntKind
  alloc : Nat
  term : Nat
  start : Nat
  size : Nat
  ovh : Nat
  long : Bool
  report : Bool
  ploam : Bool
  joined : Bool
  src : Nat
  chan : Nat
  left : Nat
deriving DecidableEq, Repr

/-- A standing entry (R80, R200): the issuing frame, and the frame that removed it, after which it is gone; both in this port's frame numbers, which a copy
of an older entry of the twin's puts below zero (log 102). -/
structure Standing where
  alloc : Nat
  start : Nat
  size : Nat
  period : Nat
  frame : Int
  gone : Option Int
  long : Bool
deriving DecidableEq, Repr

/-- A part of a quiet window carried into the sheet of a later frame (R162): that frame, and the frame that issued the window. -/
structure Carried where
  frame : Nat
  origin : Nat
  kind : EntKind
  term : Nat
  start : Nat
  size : Nat
deriving DecidableEq, Repr

/-- The settings of a preset (R134). -/
structure Preset where
  gain : Nat
  thr : Nat
  phase : Nat
  seed : Nat
deriving DecidableEq, Repr

/-- A window of a transmitted sheet that the burst receiver still has to meet (R204): kind, terminal, allocations of the burst, the
predicted first delimiter bit P (or the window's start), what shifted it in 1/8 tick (R257, R258), its end in extended stage time, profile, preset entry, a software write of the preset since arming (R136), the frame of its sheet,
channel, whether this unit sent the map, the widened search of an understudy without a leg difference (R257), and the settings in the arming queue once it is
armed (R135). -/
structure Win where
  kind : EntKind
  term : Nat
  allocs : List (Nat × Nat)
  p : Nat
  shift : Int
  fin : Nat
  long : Bool
  preset : Nat
  swWrote : Bool
  frame : Nat
  chan : Nat
  own : Bool
  wide : Bool
  armed : Option Preset := none
  grace : Bool := false
deriving DecidableEq, Repr

/-- A received burst whose decoding has not ended (R142): terminal, allocations, stage time of the delimiter, offset, score,
profile, whether the burst is accepted into service. -/
structure Burst where
  term : Nat
  allocs : List (Nat × Nat)
  delim : Nat
  d : Int
  score : Nat
  long : Bool
  ok : Bool
deriving DecidableEq, Repr

/-- The control messages the port hardware originates (R144); `snDisable` and `snEnable` are the two forms of Disable_Serial_Number. -/
inductive CtrlKind where
  | burstProfile | assignOnuId | rangingTime | deactivate | snDisable | snEnable | requestReg | keyControl | changePower
  | discoveryGate | gate | register | serialNumber | keyReport | acknowledge
deriving DecidableEq, Repr

/-- A hardware-originated control message (R144): kind, terminal (1,023 broadcast), arguments. -/
structure Ctrl where
  kind : CtrlKind
  term : Nat
  args : List Nat
deriving DecidableEq, Repr

/-- What the report digest gathers for an allocation between snapshots (R190), and its sums for the digest record (R211). -/
structure Dig where
  backlog : Nat
  idle : Nat
  age : Nat
  fresh : Bool
  missed : Bool
  invalid : Bool
  reports : Nat
  granted : Nat
  received : Nat
  nmissed : Nat
deriving DecidableEq, Repr

/-- The isolation machine of R175: whether it runs, terminals still to be tested, terminals disabled for the present test, evidence
seen in the watch, bisection, and the set C − H of the present test. -/
structure Iso where
  on : Bool
  cands : List Nat
  test : List Nat
  rest : List Nat
  dirty : Bool
  attributed : Bool
  watch : Nat
deriving DecidableEq, Repr

/-- One tree's cue sheets, windows, messages and evidence. `shadow`: an understudy's own sheets that still wait for the twin's (frame, entries,
standing alone); `evidence`: the kinds and the
terminals of the last 16 frames (R174), the latest first; `found`: discovery responses with the times their delimiters arrived; `tailQ`: a tail port's map entries with the
times of their first bits in 1/8 tick; `seen`: delimiters found by sheet frame; `offs`: offsets of the leg difference's acquisition (R257). -/
structure Tree where
  sheet : List Entry
  sealed : Bool
  late : Bool
  fixed : Option (List Entry × Bool)
  standing : List Standing
  carried : List Carried
  wins : List Win
  bursts : List Burst
  dig : Map Dig
  ctrl : List Ctrl
  ticketNow : Option (Nat × Option Word)
  ticketPrev : Option (Nat × Option Word)
  evidence : List (Nat × List Nat)
  kinds : Nat
  suspects : List Nat
  iso : Iso
  found : List (Nat × Candidate)
  tailQ : List (Nat × Nat × Nat)
  syncs : List Nat
  shadow : List (Nat × List Entry × Bool)
  seen : List (Nat × Nat)
  offs : List Int
deriving DecidableEq, Repr

/-- A cue light frame, sent or accepted (R239), its `STAMP` in extended stage time. -/
structure CueFrame where
  hb : Nat
  stamp : Nat
  flags : Nat
  lit : Nat
  claims : List Nat
deriving DecidableEq, Repr

/-- The frames that the footlight rule selects from (R250): the last ones sent and accepted, newest first. -/
structure Pair where
  sent : List CueFrame
  rcvd : List CueFrame
deriving DecidableEq, Repr

/-- A completion entry (R105). -/
structure Cpl where
  tag : Nat
  code : Nat
  sub : Nat
  index : Nat
  res0 : Nat
  res1 : Nat
  cycles : Nat
  dmaErr : Bool
  phase : Nat
deriving DecidableEq, Repr

/-- Balls whose edges the rules place. -/
inductive Pin where
  | txen | brst | rssi | ppsOut | pwrGood | monitor | memReset | memRail
deriving DecidableEq, Repr

/-- The balls of the monitor group (R516): the thermal diode, the Kelvin taps of rails 0–7, the clock monitor pair and the 20 analogue test balls; the flag is the
positive ball of a pair. -/
inductive MonBall where
  | therm (p : Bool)
  | rmon (rail : Fin 8) (p : Bool)
  | clkmon (p : Bool)
  | atest (i : Fin 20)
deriving DecidableEq, Repr

/-- What the device sends or writes outside itself, in the order it does so. -/
inductive Out where
  | completion (func slot : Nat) (c : Cpl) (bytes : List Nat)
  | event (func slot : Nat) (e : Ev) (bytes : List Nat)
  | msix (func vec : Nat)
  | ctrl (port : Nat) (c : Ctrl) (time : Nat)
  | map (port frame superframe : Nat) (es : List Entry)
  | pin (p : Pin) (port level time : Nat)
  | cueLight (f : CueFrame) (line : Nat) (fill : Option Bool)
  | twin (cls : Nat) (payload : List Nat)
  | copied (tree term : Nat) (id : List Nat)
  | tailBurst (port alloc time : Nat) (gasp ploam : Bool) (frames : List (List Nat))
  | i2c (m addr reg len rate : Nat) (read : Bool) (bytes : List Nat)
  | channel (c ingress term : Nat) (bytes : List Nat)
  | punt (info bytes : List Nat) (ref : Nat)
  | down (port flow : Nat) (bytes : List Nat)
  | uplink (port : Nat) (bytes : List Nat)
  | sealedDown (port flow keyIdx count : Nat) (bytes : List Nat)
  | sealedUplink (port assoc pn : Nat) (bytes : List Nat)
  | cross (dest tenant : Nat) (yellow replica : Bool) (bytes : List Nat)
  | twRow (blocks : List (Nat × Nat × Nat))
  | advertise (port mode fec : Nat)
  | remoteFault (port : Nat) (on : Bool)
  | oneStep (port : Nat) (bytes : List Nat)
  | hostRead (bar func off value : Nat)
deriving DecidableEq, Repr

/-- A slot of a submission ring in host memory: its 64 bytes (R98), and what the image buffer that it names holds. -/
structure HostSlot where
  bytes : List Nat
  image : Dma
deriving DecidableEq, Repr

/-- The host's side of the rings: submission entries in host memory by function·4096 + slot (R98), entries whose
held taking has been counted (R103), host memory read and written through images only. -/
structure HostX where
  slots : Map HostSlot
  counted : List Nat
deriving DecidableEq, Repr

/-- A buffer (R351, R352): present generation, owner word, tenant tag, share count, allocated, hardware owner done (R354), under test (R362). -/
structure Buf where
  gen : Nat
  owner : Nat
  tenant : Nat
  shares : Nat
  inUse : Bool
  hwDone : Bool
  testing : Bool
deriving DecidableEq, Repr

/-- A record of the prompt book (R443): linear byte position since the region was laid out, size, type, tree, terminal,
extended stage time of its stamp, the record's bits. -/
structure PbRec where
  pos : Nat
  size : Nat
  typ : Nat
  tree : Nat
  term : Nat
  stamp : Nat
  bits : Nat
deriving DecidableEq, Repr

/-- External memory: written words of segment space by word offset, the 32-byte units marked bad (R438), the flow counters' stored
words (R456), the prompt book's records in write order and its linear write position (R443); words that the system program has written elsewhere, by their number in the
usable capacity (R440, R441); the model's own count of resets, by which what nothing has written is open again after each (R494). -/
structure ExtMem where
  words : Map Word
  bad : List Nat
  flows : Store 40
  pb : List PbRec
  pbPos : Nat
  raw : Map Word
  epoch : Nat
deriving DecidableEq, Repr

/-- A data packet in the sieve (R270, R271, R302): bytes, ingress index and tenant, terminal and flow (0xFFFF for none), the version it holds (0 for none), pass
number, the node its next pass starts at, its buffer, stage time at entry, and the queues without room for it. -/
structure RPkt where
  bytes : List Nat
  ingress : Nat
  tenant : Nat
  term : Nat
  flow : Nat
  ver : Nat
  pass : Nat
  node : Nat
  buf : Nat
  stamp : Nat
  full : Full
deriving DecidableEq, Repr

/-- A classifier rule with the row it is placed at (R282, R295): key and mask words of all its slices. -/
structure Rule where
  prio : Nat
  width : Nat
  tenant : Nat
  bank : Nat
  row : Nat
  cnt : Nat
  cntEn : Bool
  action : Nat
  vals : List Word
  masks : List Word
deriving DecidableEq, Repr

/-- One of the three membership slots of R301: rules by ID, patterns by ID (words 1–27 of their record), node words (key 4n + w), arcs, profile words (key
32p + w), and port starts, held as their difference from kind 3. -/
structure VSet where
  rules : Map Rule
  pats : Map (List Word)
  nodes : Store 40
  arcs : Store 40
  profiles : Store 40
  starts : Store 40
deriving DecidableEq, Repr

/-- A pending curtain (R303–R305): its ticket entry and generation, the core and context that hold it, its effect time in extended stage time, whether it
waits for holders, and whether the twin has reported its own switch in a graft mode (R306: 0 not yet, 1 switched, 2 timed out). -/
structure Curtain where
  entry : Nat
  gen : Nat
  due : Nat
  waiting : Bool
  twin : Nat
deriving DecidableEq, Repr

/-- A `STAGE` held behind a pending curtain (R305): its ticket, the issuing context, whether that is the twin's, its tenant, its change records. -/
structure HeldStage where
  entry : Nat
  gen : Nat
  cx : Cx
  remote : Bool
  tenant : Nat
  recs : List (List Word)
deriving DecidableEq, Repr

/-- The sieve: its three sets, rows disabled by parity (4096·bank + row), the recirculation queue, the pending curtain, the held stages, and the curtains
switched here whose outcome the twin's report still decides (R306: curtain, code, version). -/
structure Sieve where
  cur : VSet
  prev : VSet
  staged : VSet
  bad : List Nat
  struck : List Nat
  recirc : List RPkt
  curtain : Option Curtain
  held : List HeldStage
  awaits : List (Curtain × Nat × Nat)
deriving DecidableEq, Repr

/-- An entry of the forwarding table (R319, R320, R325): service, address, destination word, tenant, flags, age, generation, place, whether a failed parity check has
disabled it, and whether its parity is wrong and no check has found it yet. -/
structure FEnt where
  svc : Nat
  mac : Nat
  dest : Nat
  tenant : Nat
  static : Bool
  bound : Bool
  hit : Bool
  age : Nat
  gen : Nat
  bucket : Nat
  way : Nat
  parity : Bool
  struck : Bool
deriving DecidableEq, Repr

/-- A queued learn (R326). -/
structure Learn where
  svc : Nat
  mac : Nat
  dest : Nat
  tenant : Nat
  bound : Bool
deriving DecidableEq, Repr

/-- A frame in a queue: buffer, bytes without the FCS, the tree and flow it goes to, drop-eligible, whether it holds a share of its own (R334). -/
structure QFrame where
  buf : Nat
  bytes : List Nat
  tree : Nat
  flow : Nat
  yellow : Bool
  share : Bool
deriving DecidableEq, Repr

/-- A node's shapers (R336): what the `MIN` and `MAX` buckets lack of being full (1 byte is 6,220,800 units) and when that was so, bytes served under `MIN`
credit, deficit of the round robin, and the child served last. -/
structure Shaper where
  minD : Nat
  minAt : Nat
  maxD : Nat
  maxAt : Nat
  served : Nat
  deficit : Nat
  last : Nat
deriving DecidableEq, Repr

/-- Forwarding and queues: the table by entry number, the learn queue, level-4 queues, uplink queues (8u + c), shapers (level·2^18 + node). -/
structure Fwd where
  table : Map FEnt
  learns : List Learn
  queues : Map (List QFrame)
  upq : Map (List QFrame)
  shapers : Map Shaper
deriving DecidableEq, Repr

/-- A membership slot that holds nothing: every port start is kind 3 (R301). -/
def emptySet : VSet := { rules := [], pats := [], nodes := [], arcs := [], profiles := [], starts := [] }

/-- The key and what `KEY.WRITE` names beside it, as a bank of a slot holds them (R366, R367). -/
structure Bank where
  mode : Nat
  k256 : Bool
  keyIdx : Nat
  succ : Nat
  succV : Bool
  key : Nat
deriving DecidableEq, Repr

/-- What a key slot's ticket waits for (R371, R374): the key in the shadow bank, the swap, the erase. -/
inductive KeyGoal where
  | placed
  | swapped
  | erased
deriving DecidableEq, Repr

/-- An operation on a key slot whose ticket waits (R371, R391): the ticket, what it waits for, and how far this unit and the twin have come with the operation: 0
not begun, 1 the key in the shadow bank, 2 done. A write that no ticket waits for carries entry 4096. -/
structure KeyTix where
  entry : Nat
  gen : Nat
  goal : KeyGoal
  here : Nat
  twin : Nat
deriving DecidableEq, Repr

/-- An operation on a key slot that waits its turn behind an erase (R374). -/
inductive KeyOp where
  | write (b : Bank)
  | erase
deriving DecidableEq, Repr

/-- What a key slot holds besides its fields in block 0x08: active key, shadow bank, remaining space in full, the superframe of its last use plus one (R379),
the twin's next packet number (R391), operations that wait in order, the operations whose tickets wait, and whether contexts of this unit encrypt under it (R391). -/
structure Slot where
  key : Nat
  shadow : Option Bank
  rem : Nat
  lastSf : Nat
  twinPn : Nat
  ops : List KeyOp
  tix : List KeyTix
  claimed : Bool
deriving DecidableEq, Repr

/-- A context request's words (R385). -/
structure CtxReq where
  dec : Bool
  len : Nat
  src : Nat
  dst : Nat
  fixed : Nat
  nonce : Nat
  aad : Nat
deriving DecidableEq, Repr

/-- What a request of the integrity or the receive side stands for (R144, R376, R386): a message that the port hardware consumes (an Acknowledge, a Registration, a
Key_Report), a received frame or message on its way to the sieve, a message sent with the frame that begins at `time`. -/
inductive CMsg where
  | ack (k : AckKind)
  | registration (id : List Nat)
  | keyReport (idx : Nat) (frags : List Nat)
  | frame (p : Packet)
  | sent (m : Ctrl) (time : Nat)
deriving DecidableEq, Repr

/-- A request in the cipher queue (R371, R384): its user, the slot that it names and the one it is bound to or held at, the mode, key and counter bits it is bound
to, the frame it encrypts, the frame or message it decrypts or checks, the words of a context request. -/
structure CReq where
  user : CUser
  named : Nat
  slot : Nat
  mode : Nat
  key : Nat
  count : Nat
  frame : Option QFrame
  msg : Option CMsg
  words : Option CtxReq
deriving DecidableEq, Repr

/-- The cipher engine: slots, bound requests in order, held requests in order, context requests that wait for an entry (R384). -/
structure Cipher where
  slots : Map Slot
  bound : List CReq
  held : List CReq
  waiting : List CReq
deriving DecidableEq, Repr

/-- A PTP domain (R403): its time at an extended stage time, in units of 1 / (3888·2^40) ns, of which one tick is 625·(2^40 + `RATE`). -/
structure Dom where
  since : Nat
  val : Int
deriving DecidableEq, Repr

/-- An armed time-of-day latch (R413, R414): the superframe as its count without the modulus, and the predicted output time on a head-role port. -/
structure Tod where
  frame : Nat
  pred : Option Int
deriving DecidableEq, Repr

/-- A pending cue (R396–R399): its ticket, the context that issued it with its tenant, `T` in extended stage time, the port of a frame-bound cue,
by how much it was past at acceptance, target and value. -/
structure Cue where
  entry : Nat
  gen : Nat
  cx : Cx
  kind : CtxKind
  tenant : Nat
  due : Nat
  port : Option Nat
  late : Option Nat
  target : Word
  value : Word
deriving DecidableEq, Repr

/-- Network time and cues: the two domains, the carry with the time at which it was so (R408), timestamp queues by 2·port + direction, oldest first (R409),
armed latches by port, pending cues in the order of acceptance. -/
structure Ptp where
  a : Dom
  b : Dom
  carry : Int
  carryAt : Nat
  ts : Map (List (List Nat))
  tod : Map Tod
  cues : List Cue
deriving DecidableEq, Repr

/-- What waits for a message to the twin: nothing; a posted store (R39); a blocked load or atomic that the twin makes (R38);
an atomic made here; the ticket of an operation made here, which completes with
`word` once both copies hold it (R265, R266); the ticket of an operation that the twin makes, whose answer is awaited (R40): it completes with `word` where that is
given and the twin answers `OK`, and its data goes to `dest`; the ticket of a curtain that unit 0 schedules (R306); the ticket of a key operation, which completes with the slot (R391); a message to send on. -/
inductive AckFor where
  | nothing
  | store
  | access
  | made
  | ticket (entry gen : Nat) (word : Word)
  | answer (entry gen : Nat) (word : Option Word) (dest : Option Nat)
  | curtain (entry gen : Nat)
  | key (slot entry gen : Nat)
  | send (payload : List Nat)
deriving DecidableEq, Repr

/-- A class 4 or 5 message under way (R429): its sequence, class, resends, the extended stage time of its last sending, the context whose access or store it
carries with address and instruction word, what waits for it, and whether the twin has acknowledged it already and its answer is still awaited. -/
structure TwinOut where
  seq : Nat
  cls : Nat
  tries : Nat
  sent : Nat
  cx : Cx
  addr : Word
  instr : Word
  payload : List Nat
  done : AckFor
  acked : Bool
deriving DecidableEq, Repr

/-- A message on its way over the twin lanes (R429): class, sequence, the data blocks still to send, the CRC-32 of all of them, whether a segment of it is open, and whether
one has been. -/
structure TxMsg where
  cls : Nat
  seq : Nat
  left : List (List Nat)
  crc : Nat
  opened : Bool
  begun : Bool
deriving DecidableEq, Repr

/-- The transmitter of the twin lanes (R424, R425, R429): how many of the device's outputs it has looked at for messages, the sequence of the next message, the row it
sent last, and the messages it has not finished. -/
structure LaneTx where
  taken : Nat
  seq : Nat
  row : Nat
  msgs : List TxMsg
deriving DecidableEq, Repr

/-- A rehearsal slice under way (R478): catalogue entry, target, the extended stage time by which it ends. -/
structure Slice where
  entry : Nat
  target : SliceTarget
  fin : Nat
deriving DecidableEq, Repr

/-- Rehearsal (R362, R478, R484): slices under way, targets retired by a failed slice, lent buffers, tested buffers that wait to swap back. -/
structure Reh where
  slices : List Slice
  retired : List SliceTarget
  lent : List Nat
  returns : List Nat
deriving DecidableEq, Repr

/-- The device. -/
structure State where
  env : Env
  ext : Nat
  timeOn : Bool
  regs : Store 64
  cpu : Cpu
  host : HostX
  evs : Events
  trees : Map Tree
  pair : Pair
  bufs : Map Buf
  xmem : ExtMem
  sieve : Sieve
  fwd : Fwd
  cipher : Cipher
  ptp : Ptp
  unacked : List TwinOut
  lanes : LaneTx
  reh : Reh
  out : List Out
  freeCtr : Nat
  pending : List Instr
deriving DecidableEq, Repr

/-- Who raises which stop. No rule of the spec stops the block: a command it turns away completes with a code, and a command that
finds nothing to act on changes nothing; so no meaning raises `illFormed`. Safe: it would only stop the model early. -/
inductive Fault where
  | illFormed
deriving DecidableEq, Repr

/-- `notModelled`: raised by an arm of `exec` whose command has no meaning yet. Safe: the model stops. -/
inductive Refusal where
  | notModelled (mnemonic : String)
deriving DecidableEq, Repr

/-- The device right after reset: every register at its reset value (none listed in `regs`), no context, no ticket, nothing pending.
The straps and fuses read 0 (life-cycle state BLANK), with every rollback row unburnt (log 6). -/
def State.reset : State where
  env := { unit := 0, orderI := 0, epon := 0 }
  ext := 0
  timeOn := false
  regs := []
  cpu := { ctxs := [], tickets := [], mem := [], win := [], ckpt := [], images := [], nextImages := [], residents := [], badData := [], badCode := [] }
  host := { slots := [], counted := [] }
  evs := { queue := [], windows := [], dropped := 0 }
  trees := []
  pair := { sent := [], rcvd := [] }
  bufs := []
  xmem := { words := [], bad := [], flows := [], pb := [], pbPos := 0, raw := [], epoch := 0 }
  sieve := { cur := emptySet, prev := emptySet, staged := emptySet, bad := [], struck := [], recirc := [], curtain := none, held := [], awaits := [] }
  fwd := { table := [], learns := [], queues := [], upq := [], shapers := [] }
  cipher := { slots := [], bound := [], held := [], waiting := [] }
  ptp := { a := { since := 0, val := 0 }, b := { since := 0, val := 0 }, carry := 0, carryAt := 0, ts := [], tod := [], cues := [] }
  unacked := []
  lanes := { taken := 0, seq := 0, row := 0, msgs := [] }
  reh := { slices := [], retired := [], lent := [], returns := [] }
  out := []
  freeCtr := 0
  pending := []

end Sys2Proof.Machine
end

