-- ==== Sys2Proof/Machine/Ops.lean ====
section
/-! DEFINITION. The named operations over stores, registers, stage time, counters and records that every meaning is built from. -/

namespace Sys2Proof.Machine

/-! ### Stores and maps -/

/-- The word a store holds at an address; zero where none is listed. -/
def Store.get {w : Nat} : Store w → Nat → BitVec w
  | [], _ => 0
  | (k, v) :: t, a => if a = k then v else Store.get t a

/-- Lists a word at its place among rising addresses. -/
def Store.add {w : Nat} : Store w → Nat → BitVec w → Store w
  | [], a, v => [(a, v)]
  | (k, u) :: t, a, v => if a ≤ k then (a, v) :: (k, u) :: t else (k, u) :: Store.add t a v

/-- Writes a word, keeping the addresses rising and listing no zero. -/
def Store.set {w : Nat} (m : Store w) (a : Nat) (v : BitVec w) : Store w :=
  let rest := m.filter (fun c => c.1 != a)
  if v = 0 then rest else Store.add rest a v

/-- Addresses above `lo` strictly rising and no zero listed. -/
def Store.wfFrom {w : Nat} : Store w → Option Nat → Bool
  | [], _ => true
  | (k, v) :: t, lo => (match lo with | none => true | some l => decide (l < k)) && decide (v ≠ 0) && Store.wfFrom t (some k)

/-- The canonical form of a store. -/
def Store.wf {w : Nat} (m : Store w) : Bool := Store.wfFrom m none

/-- Drops every listed address in `[lo, hi)`. -/
def Store.clear {w : Nat} (m : Store w) (lo hi : Nat) : Store w :=
  m.filter (fun c => !(decide (lo ≤ c.1) && decide (c.1 < hi)))

/-- Writes consecutive words from an address. -/
def Store.fill {w : Nat} (m : Store w) (a : Nat) : List (BitVec w) → Store w
  | [] => m
  | v :: t => Store.fill (m.set a v) (a + 1) t

/-- The record a map holds under a key. -/
def Map.get? {α : Type} : Map α → Nat → Option α
  | [], _ => none
  | (k, v) :: t, a => if a = k then some v else Map.get? t a

/-- Puts a record under a key, keys rising. -/
def Map.put {α : Type} : Map α → Nat → α → Map α
  | [], a, v => [(a, v)]
  | (k, u) :: t, a, v =>
    if a < k then (a, v) :: (k, u) :: t else if a = k then (a, v) :: t else (k, u) :: Map.put t a v

/-- Removes the record under a key. -/
def Map.del {α : Type} (m : Map α) (a : Nat) : Map α := m.filter (fun c => c.1 != a)

/-- Applies a function to the record under a key, if there is one. -/
def Map.upd {α : Type} (m : Map α) (a : Nat) (f : α → α) : Map α :=
  match m.get? a with
  | some v => m.put a (f v)
  | none => m

/-- Applies `f` for `0, 1, …, n − 1` in order. -/
def upTo {α : Type} (f : Nat → α → α) : Nat → α → α
  | 0, a => a
  | n + 1, a => f n (upTo f n a)

/-- Inserts into a list that `le` orders. -/
def insertBy {α : Type} (le : α → α → Bool) (x : α) : List α → List α
  | [] => [x]
  | y :: t => if le x y then x :: y :: t else y :: insertBy le x t

/-- Orders a list by `le`; equal elements keep their order. -/
def sortBy {α : Type} (le : α → α → Bool) (l : List α) : List α := l.foldr (insertBy le) []

/-! ### Registers -/

/-- The base of a queue level (R344); an index beyond the four levels lies past them. -/
def levelBase : Nat → Nat
  | 1 => 0x1000 | 2 => 0x100000 | 3 => 0x200000 | 4 => 0x400000 | _ => 0x800000

/-- The nodes of a queue level (R335). -/
def levelCount : Nat → Nat
  | 1 => 64 | 2 => 65536 | 3 => 131072 | 4 => 262144 | _ => 0

/-- The offset that the indexes of a field add to its base. -/
def dimsAddr : List Dim → List Nat → Nat
  | .s st _ _ :: ds, i :: is => st * i + dimsAddr ds is
  | .lvl :: ds, l :: n :: is => levelBase l + 8 * n + dimsAddr ds is
  | _, _ => 0

/-- The object address of a field at its indexes: block ID in [39:34], offset below (R17). -/
def Field.addr (f : Field) (ix : List Nat) : Nat := f.blk * 2 ^ 34 + f.base + dimsAddr f.dims ix

/-- The key a field's value is held under. -/
def Field.key (f : Field) (ix : List Nat) : Nat := f.addr ix * 64 + f.lo

/-- The reset value of a field at its indexes, as its map gives it. -/
def Rst.val (r : Rst) (ix : List Nat) (e : Env) : Nat :=
  match r with
  | .k n => n
  | .idx d => ix.getD d 0
  | .tab d vals other => vals.getD (ix.getD d 0) other
  | .allocId => if e.epon.testBit (ix.getD 0 0) then 0 else ix.getD 1 0
  | .allocTerm => if e.epon.testBit (ix.getD 0 0) then 0 else ix.getD 1 0 % 1024
  | .home => if (if ix.getD 0 0 < 32 then 0 else 1) = e.unit then 9 else 8
  | .lanePower => if ix.getD 0 0 < 32 then 2 else 0
  | .order => e.orderI
  | .tjWarn => if e.orderI = 1 then 105 else 100
  | .portDefault => if ix.getD 1 0 = 1020 then 1 else 0

/-- The stored value of a field: held as its difference from the reset value, so that an unlisted key reads as reset. -/
def State.rd (s : State) (f : Field) (ix : List Nat) : Nat :=
  ((s.regs.get (f.key ix)).toNat ^^^ f.rst.val ix s.env) % 2 ^ f.w

/-- Stores a value in a field, cut to its width. -/
def State.wr (s : State) (f : Field) (ix : List Nat) (v : Nat) : State :=
  { s with regs := s.regs.set (f.key ix) (BitVec.ofNat 64 ((v % 2 ^ f.w) ^^^ f.rst.val ix s.env)) }

/-- Adds to a field, saturating at its width. -/
def State.bump (s : State) (f : Field) (ix : List Nat) (n : Nat := 1) : State :=
  s.wr f ix (min (s.rd f ix + n) (2 ^ f.w - 1))

/-- Adds to a field modulo its width. -/
def State.addTo (s : State) (f : Field) (ix : List Nat) (n : Nat) : State := s.wr f ix (s.rd f ix + n)

/-- A field of one bit, read as a truth value. -/
def State.flag (s : State) (f : Field) (ix : List Nat) : Bool := s.rd f ix == 1

/-- A truth value as a bit. -/
def bit (b : Bool) : Nat := if b then 1 else 0

/-- Returns every field of a list to its reset value at the indexes given. -/
def State.clearFields (s : State) (fs : List Field) (ix : List Nat) : State :=
  fs.foldl (fun s f => { s with regs := s.regs.set (f.key ix) 0 }) s

/-- Returns every register whose object address lies in `[lo, hi)` to its reset value. -/
def State.clearRange (s : State) (lo hi : Nat) : State := { s with regs := s.regs.clear (lo * 64) (hi * 64) }

/-- The last index of a field at the listed addresses that belong to it and to the leading indexes `pre`: the entries that differ
from reset, found without a sweep of the whole range. -/
def State.listed (s : State) (f : Field) (pre : List Nat) : List Nat :=
  match f.dims.getLast? with
  | some (.s st _ hi) =>
    let k0 := f.key (pre ++ [0])
    s.regs.filterMap (fun c =>
      if k0 ≤ c.1 && c.1 ≤ k0 + st * hi * 64 && (c.1 - k0) % (st * 64) == 0 then some ((c.1 - k0) / (st * 64)) else none)
  | _ => []

/-! ### Bytes -/

/-- `n` bytes of a number, least significant first. -/
def leBytes (n v : Nat) : List Nat := (List.range n).map (fun i => v / 256 ^ i % 256)

/-- `n` bytes of a number, most significant first. -/
def beBytes (n v : Nat) : List Nat := (List.range n).map (fun i => v / 256 ^ (n - 1 - i) % 256)

/-- The number whose bytes these are, least significant first. -/
def leNat (b : List Nat) : Nat := b.foldr (fun x a => x % 256 + 256 * a) 0

/-- The number in `n` bytes of a record from byte `o` on. -/
def leField (b : List Nat) (o n : Nat) : Nat := leNat ((b.drop o).take n)

/-! ### Stage time (R393, R394, R531) -/

/-- 2^40, the modulus of the word. -/
def two40 : Nat := 2 ^ 40

/-- The present stage time. -/
def State.now (s : State) : Nat := s.ext % 2 ^ 40

/-- The present stage time as a word. -/
def State.nowW (s : State) : Word := BitVec.ofNat 40 s.ext

/-- Stage time reaches `t` (extended): it never runs back, and is held until it starts (R393). Due times lie in extended stage time, so a wrap needs no case (log 7). -/
def State.advanceTo (s : State) (t : Nat) : State := { s with ext := if s.timeOn then max s.ext t else s.ext }

/-- A number of microseconds in ticks, rounded up: one µs is 6,220.8 ticks. -/
def usTicks (us : Nat) : Nat := (us * 62208 + 9) / 10

/-- A number of milliseconds in ticks. -/
def msTicks (ms : Nat) : Nat := (ms * 62208000 + 9) / 10

/-- A number of seconds in ticks. -/
def secTicks (n : Nat) : Nat := n * 6220800000

/-- The extended stage time nearest the present one whose low 40 bits are `t` (R6). -/
def State.extOf (s : State) (t : Word) : Nat := (Int.ofNat s.ext + sdiff t s.nowW).toNat

/-! ### Records that leave the device -/

/-- Appends a record of what the device did at its balls, on a fibre or in host memory. -/
def State.emit (s : State) (o : Out) : State := { s with out := s.out ++ [o] }

/-- A free choice among `n` things (R41): the value is open; the counter makes each choice a fresh one (log 3). -/
def State.choose (s : State) (n : Nat) : Nat × State :=
  (Config.choice s.freeCtr % n, { s with freeCtr := s.freeCtr + 1 })

/-! ### Counters (R450, R455) -/

/-- An increment of counter `n` of the 2,228,224 (R450): modulo 2^40, and past the top it sets the sticky `WRAP` (R455). -/
def State.count (s : State) (n : Nat) (k : Nat := 1) : State :=
  if 2228224 ≤ n then s else
  let v := s.rd Reg.Cnt.CNT [n] + k
  let s1 := s.wr Reg.Cnt.CNT [n] v
  if 2 ^ 40 ≤ v then s1.wr Reg.Cnt.WRAP [n] 1 else s1

/-- Counter i of PON port p (R452). -/
def State.countPort (s : State) (p i : Nat) (k : Nat := 1) : State := s.count (114688 + 32 * p + i) k

/-- Counter i of uplink port u, 32 for the management port (R452). -/
def State.countUplink (s : State) (u i : Nat) (k : Nat := 1) : State := s.count (116736 + 32 * u + i) k

/-- Counter i of tenant t (R452). -/
def State.countTenant (s : State) (t i : Nat) (k : Nat := 1) : State := s.count (122880 + 128 * t + i) k

end Sys2Proof.Machine
end

