-- ==== Sys2Proof/Machine/Events.lean ====
section
/-! DEFINITION. Tenant tags (R26), and the event collector that every raised event passes through (R463–R468, R530). -/

namespace Sys2Proof.Machine

/-! ### Tenant tags -/

/-- Splits an offset over the dimensions of a field: the indexes, and what remains below the last stride. -/
def dimsSplit : List Dim → Nat → Option (List Nat × Nat)
  | [], r => some ([], r)
  | .s st lo hi :: ds, r =>
    let i := r / st
    if lo ≤ i && i ≤ hi then
      match dimsSplit ds (r - i * st) with
      | some (is, r') => some (i :: is, r')
      | none => none
    else none
  | .lvl :: ds, r =>
    let l := if 0x400000 ≤ r then 4 else if 0x200000 ≤ r then 3 else if 0x100000 ≤ r then 2 else 1
    if r < 0x1000 then none
    else
      let n := (r - levelBase l) / 8
      if n < levelCount l then
        match dimsSplit ds ((r - levelBase l) % 8) with
        | some (is, r') => some (l :: n :: is, r')
        | none => none
      else none

/-- The indexes at which a field's record covers an object address: the record starts `off` words before the field and is `span` words long. -/
def Field.recordAt (f : Field) (off span addr : Nat) : Option (List Nat) :=
  let b := f.blk * 2 ^ 34 + f.base - off
  if addr < b then none
  else
    match dimsSplit f.dims (addr - b) with
    | some (ix, r) => if r < span then some ix else none
    | none => none

/-- Lane numbers 32–63 lie between the uplink and the twin lanes and do not exist (R435). -/
def laneExists (f : Field) (ix : List Nat) : Bool :=
  !(f.blk == 0x0B && f.dims.length ≥ 1 && decide (32 ≤ ix.getD 0 0) && decide (ix.getD 0 0 < 64) &&
    (match f.dims with | .s 256 0 87 :: _ => true | _ => false))

/-- The indexes at which a field occupies an object word, if it does. -/
def Field.at? (f : Field) (addr : Nat) : Option (List Nat) :=
  match f.recordAt 0 1 addr with
  | some ix => if laneExists f ix then some ix else none
  | none => none

/-- The records that carry a `TENANT` field of their own: field, words before it, words of the record (R26, R181, R212, R307, R343, R344, R364, R392). -/
def tagFields : List (Field × Nat × Nat) :=
  [(Reg.Rng.TENANT, 0, 8), (Reg.Cue.TENANT, 0, 1), (Reg.Sve.M_TENANT, 0, 1),
   (Reg.Fwd.TENANT, 0, 4), (Reg.Fwd.S_TENANT, 0, 4), (Reg.Fwd.G_TENANT, 0, 1), (Reg.Fwd.P_TENANT, 0, 4),
   (Reg.Que.N_TENANT, 4, 8), (Reg.Key.TENANT, 0, 4)]

/-- The tag of counter group g, or of counter n in group 15 (R450, R454). -/
def counterTag (s : State) (n : Nat) : Nat :=
  let g := n / 8192
  if g = 15 then (n - 122880) / 128 else if g = 13 ∨ g = 14 then 0 else s.rd Reg.Cnt.TENANT [g]

/-- Whether a counter group carries its `MIXED` mark (R454): its tag is 1–63 and an enabled flow of another tenant counts in it. -/
def State.mixedGroup (s : State) (g : Nat) : Bool :=
  let t := s.rd Reg.Cnt.TENANT [g]
  decide (16 ≤ g) && t != 0 && decide (t ≤ 63) &&
    ((s.listed Reg.Fwd.F_EN [(g - 16) / 4]).any (fun f => s.flag Reg.Fwd.F_EN [(g - 16) / 4, f] && f / 4096 == (g - 16) % 4 &&
      s.rd Reg.Fwd.TENANT [(g - 16) / 4, f] != t))

/-- The tag an object carries itself (R26 step 1). `t` is the tenant of the running context, to which the objects of its own script,
its cipher request words and its snapshot alias are tagged (R109, R392, R412). -/
def ownTag (s : State) (t addr : Nat) : Option Nat :=
  let blk := addr / 2 ^ 34
  let off := addr % 2 ^ 34
  if blk = 0x11 then (if off ≤ 4 then some t else none)
  else if blk = 0x08 ∧ 0x100 ≤ off ∧ off ≤ 0x108 then some t
  else if blk = 0x09 ∧ 0x40 ≤ off ∧ off ≤ 0x4B then some t
  else if blk = 0x0C ∧ off < 0x3C0000000 then some (s.rd Reg.Mem.G_TENANT [off / 8192])
  else if blk = 0x0D ∧ off < 0xC00000 then
    (if off % 0x400000 ≤ 2228223 then some (counterTag s (off % 0x400000)) else none)
  else if blk = 0x05 ∧ 0x100000000 ≤ off then
    some (match Map.get? s.fwd.table ((off - 0x100000000) / 4) with | some e => e.tenant | none => 0)
  else if blk = 0x04 ∧ 0x100000000 ≤ off ∧ off < 0x200000000 then
    let k := (off - 0x100000000) / 64
    some (match [s.sieve.staged, s.sieve.cur, s.sieve.prev].findSome? (fun v => Map.get? v.rules k) with | some r => r.tenant | none => 0)
  else if blk = 0x07 ∧ 0x200000000 ≤ off then
    let o := off - 0x200000000
    some (match Map.get? s.bufs (o / 0x40000000 * 4194304 + o % 0x40000000 / 0x100) with
      | some b => if b.gen = o % 0x100 / 2 then b.tenant else 0
      | none => 0)
  else tagFields.findSome? (fun r => (r.1.recordAt r.2.1 r.2.2 addr).map (s.rd r.1))

/-- The lowest-numbered valid region entry that contains an address (R26 step 2, R27). -/
def regionOf (s : State) (addr : Nat) : Option Nat :=
  (List.range 256).find? (fun n =>
    s.flag Reg.Aut.VALID [n] && decide (s.rd Reg.Aut.REGION_BASE [n] ≤ addr) &&
      decide (addr < s.rd Reg.Aut.REGION_BASE [n] + s.rd Reg.Aut.REGION_LEN [n]))

/-- The tenant tag of an object for a context of tenant `t` (R26). -/
def tagOf (s : State) (t addr : Nat) : Nat :=
  match ownTag s t addr with
  | some g => g
  | none =>
    match regionOf s addr with
    | some n => s.rd Reg.Aut.REGION_TENANT [n]
    | none => 0

/-! ### Events -/

/-- The severity of an event code (R465). -/
def severity (code : Nat) : Nat :=
  if code ∈ [0x83, 0x85, 0x88, 0x9C, 0xA0, 0xA3, 0xD8, 0xF3, 0xF4] then 4
  else if code ∈ [0x84, 0x86, 0x90, 0x92, 0x9A, 0x9B, 0xA1, 0xA6, 0xA8, 0xA9, 0xB1, 0xB2, 0xB6, 0xB8, 0xC1, 0xC3, 0xC4, 0xCA, 0xD4,
    0xDA, 0xE1, 0xF0, 0xF2, 0xF5, 0xF6] then 3
  else if code ∈ [0x60, 0x94, 0xA4, 0xAA, 0xB4, 0xB5, 0xD9, 0xE0] then 1
  else if code ∈ [0x87, 0x93, 0x95, 0x9D, 0xC0, 0xCD, 0xF7] then 0
  else 2

/-- The record of an occurrence now (R463, R464). -/
def State.event (s : State) (code tenant object count : Nat) (details : List Nat) : Ev :=
  { stamp := s.now, wrap := s.ext / 2 ^ 40 % 65536, code := code, sev := severity code + 8 * s.env.unit, tenant := tenant, object := object,
    seq := 0, count := count, details := details }

/-- One record's worth of a tenant's token bucket, in rate·ticks (R468): tokens flow at `EV_TENANT_RATE` a second. -/
def tokenCost : Nat := 6220800000

/-- What a tenant's bucket lacks of being full, now. `EV_DEFICIT` holds it as of `EV_DEFICIT_AT`, zero when full (R468). -/
def State.bucketDeficit (s : State) (t : Nat) : Nat :=
  s.rd Reg.Hid.EV_DEFICIT [t] - (s.ext - s.rd Reg.Hid.EV_DEFICIT_AT [t]) * s.rd Reg.Cnt.EV_TENANT_RATE []

/-- Whether the bucket of tenant `t` holds a token. -/
def State.bucketHas (s : State) (t : Nat) : Bool :=
  decide (s.bucketDeficit t + tokenCost ≤ s.rd Reg.Cnt.EV_TENANT_BURST [] * tokenCost)

/-- Every bucket is brought up to date at the present rate, before a write changes rate or depth; one whose depth goes from `b` to `b'` keeps its tokens, as many as
the new depth holds (R468). -/
def State.settleBuckets (s : State) (b b' : Nat) : State :=
  upTo (fun i s => (s.wr Reg.Hid.EV_DEFICIT [i + 1] (s.bucketDeficit (i + 1) + b' * tokenCost - b * tokenCost)).wr Reg.Hid.EV_DEFICIT_AT [i + 1] s.ext) 63 s

/-- A record reaches the collector: mask (R466), tenant bucket (R468), queue (R467), then its `SEQ`. -/
def State.accept (s : State) (e : Ev) : State :=
  if (s.rd Reg.Cnt.EV_MASK [e.code / 32]).testBit (e.code % 32) && decide (severity e.code ≠ 4) then s.addTo Reg.Cnt.EV_MASKED [] 1
  else
    let tenanted := decide (1 ≤ e.tenant) && decide (e.tenant ≤ 63)
    if tenanted && !s.bucketHas e.tenant then (s.addTo Reg.Cnt.EV_TENANT_DROP [] 1).countTenant e.tenant 6
    else
      let s := if tenanted then
          (s.wr Reg.Hid.EV_DEFICIT [e.tenant] (s.bucketDeficit e.tenant + tokenCost)).wr Reg.Hid.EV_DEFICIT_AT [e.tenant] s.ext
        else s
      if 1024 ≤ s.evs.queue.length then
        { s.addTo Reg.Cnt.EV_DROP [] 1 with evs := { s.evs with dropped := s.evs.dropped + 1 } }
      else
        let q := s.evs.queue ++ [{ e with seq := s.rd Reg.Cnt.EV_SEQ [] }]
        let s := (s.addTo Reg.Cnt.EV_SEQ [] 1).wr Reg.Cnt.EV_QFILL [] q.length
        let s := { s with evs := { s.evs with queue := q } }
        s.countTenant e.tenant 7

/-- Raises an event whose tenant is the tag of its object (R464). -/
def State.raise (s : State) (code object : Nat) (details : List Nat) : State :=
  s.accept (s.event code (tagOf s 0 object) object 1 details)

/-- Raises an event for the tenant its rule names (R464). -/
def State.raiseFor (s : State) (tenant code object : Nat) (details : List Nat) : State :=
  s.accept (s.event code tenant object 1 details)

/-- The window of a rate-limited event for a key. -/
def State.window? (s : State) (code key : Nat) : Option RateWin :=
  s.evs.windows.find? (fun w => w.code == code && w.key == key)

/-- Closes a window (R530 items 3 and 4): one further event if it counted any occurrence, and then a new window. -/
def State.closeWindow (s : State) (w : RateWin) : State :=
  let rest := s.evs.windows.filter (fun v => !(v.code == w.code && v.key == w.key))
  if w.count = 0 then { s with evs := { s.evs with windows := rest } }
  else
    let e := { w.last with stamp := w.closes % 2 ^ 40, wrap := w.closes / 2 ^ 40 % 65536, count := w.count }
    let s := { s with evs := { s.evs with windows := rest ++ [{ w with closes := w.closes + w.interval, count := 0 }] } }
    s.accept e

/-- Closes the window of a key if its interval is over. -/
def State.closeDue (s : State) (code key : Nat) : State :=
  match s.window? code key with
  | some w => if w.closes ≤ s.ext then s.closeWindow w else s
  | none => s

/-- Raises a rate-limited event (R530): at once when no window is open for the key, else counted in the window. A window that is over is closed first, and so is the
one that its close opened: that one counted nothing and opens none (R530 item 4). -/
def State.raiseRated (s : State) (interval code key tenant object : Nat) (details : List Nat) : State :=
  let s := (s.closeDue code key).closeDue code key
  let e := s.event code tenant object 1 details
  match s.window? code key with
  | some w =>
    { s with evs := { s.evs with windows := s.evs.windows.map (fun v =>
        if v.code == w.code && v.key == w.key then { v with count := v.count + 1, last := e } else v) } }
  | none =>
    State.accept { s with evs := { s.evs with windows := s.evs.windows ++
        [{ code := code, key := key, interval := interval, closes := s.ext + interval, count := 0, last := e }] } } e

/-- The interval of R530 where a rule gives no other: 1 ms. -/
def rateMs : Nat := 6220800

end Sys2Proof.Machine
end

