-- ==== Sys2Proof/Machine/Buffers.lean ====
section
/-! DEFINITION. The buffer manager: allocation, owners, shares, freeing and the watermarks (R345–R361). -/

namespace Sys2Proof.Machine

/-- Buffer size of a pool in bytes (R345). -/
def poolSize : Nat → Nat
  | 0 => 256 | 1 => 1024 | 2 => 2560 | 3 => 10240 | _ => 16384

/-- Buffers in a pool (R346). -/
def State.poolCount (s : State) (p : Nat) : Nat := if p = 4 then s.rd Reg.Buf.E_COUNT [] else s.rd Reg.Buf.COUNT [p]

/-- The key of buffer `i` of pool `p`. -/
def bufKey (p i : Nat) : Nat := p * 4194304 + i

/-- A buffer, free in generation 0 until it is first given out. -/
def State.buf (s : State) (k : Nat) : Buf :=
  (s.bufs.get? k).getD { gen := 0, owner := 0, tenant := 0, shares := 0, inUse := false, hwDone := false, testing := false }

/-- The reference of a buffer at its present generation (R351). -/
def State.bufRef (s : State) (k : Nat) : Nat :=
  0x07 * 2 ^ 34 + 0x200000000 + k / 4194304 * 0x40000000 + k % 4194304 * 0x100 + (s.buf k).gen * 2

/-- Splits a reference into buffer key and generation (R351); none outside the views, or where bit 0 is set. -/
def refKey (r : Nat) : Option (Nat × Nat) :=
  let o := r % 2 ^ 34
  if r / 2 ^ 34 = 0x07 ∧ 0x200000000 ≤ o ∧ o < 0x200000000 + 5 * 0x40000000 ∧ r % 2 = 0 then
    some (bufKey ((o - 0x200000000) / 0x40000000) (o % 0x40000000 / 0x100), o % 0x100 / 2)
  else none

/-- The buffer a reference names while its generation is the present one and it is in use. -/
def State.liveRef (s : State) (r : Nat) : Option Nat :=
  match refKey r with
  | some (k, g) => if (s.buf k).gen = g ∧ (s.buf k).inUse then some k else none
  | none => none

/-- Sets a pool's free count: `FREE_MIN` keeps the lowest since its last read, and the watermarks report (R361). -/
def State.setFree (s : State) (p n : Nat) : State :=
  let s := ((s.wr Reg.Buf.FREE [p] n).wr Reg.Hid.LOW_READ [p] 0).wr Reg.Buf.FREE_MIN [p] (min n (s.rd Reg.Buf.FREE_MIN [p]))
  if n < s.rd Reg.Buf.WM_LOW [p] ∧ !s.flag Reg.Buf.LOW [p] then (s.wr Reg.Buf.LOW [p] 1).raise 0xB7 (Reg.Buf.LOW.addr [p]) [1]
  else if s.rd Reg.Buf.WM_HIGH [p] < n ∧ s.flag Reg.Buf.LOW [p] then (s.wr Reg.Buf.LOW [p] 0).raise 0xB7 (Reg.Buf.LOW.addr [p]) [0]
  else s

/-- One byte in the units of pool E's token bucket, which gains `E_RATE` × 10,000 units a tick (R350). -/
def eByte : Nat := 8 * 62208

/-- What pool E's bucket lacks of being full, now. -/
def State.eDeficit (s : State) : Nat :=
  s.rd Reg.Hid.E_DEFICIT [0] - (s.ext - s.rd Reg.Hid.E_DEFICIT_AT [0]) * (s.rd Reg.Buf.E_RATE [] * 10000)

/-- Pool E's bucket is brought up to date at the present `E_RATE`. -/
def State.settleE (s : State) : State := (s.wr Reg.Hid.E_DEFICIT [0] s.eDeficit).wr Reg.Hid.E_DEFICIT_AT [0] s.ext

/-- Whether pool E's bucket, 1 MiB deep, holds `len` bytes. -/
def State.eHas (s : State) (len : Nat) : Bool := decide (s.eDeficit + len * eByte ≤ 1048576 * eByte)

/-- Whether pool `p` counts as empty for a frame (R348, R349); pool E does until external memory is open, which no access reaches before (R436). -/
def State.poolEmpty (s : State) (p len : Nat) (ctrl : Bool) : Bool :=
  if p = 4 then ctrl || !s.flag Reg.Mem.MEM_OPEN [] || s.rd Reg.Buf.E_UNITS [] == 0 || s.rd Reg.Buf.FREE [4] == 0 || !s.eHas len
  else decide (s.rd Reg.Buf.FREE [p] ≤ (if ctrl then 0 else s.rd Reg.Buf.CTRL_RESERVE []))

/-- The entry number `k` among the keys from `next` that a rising list does not hold. -/
def kthFree : List Nat → Nat → Nat → Nat
  | [], next, k => next + k
  | e :: t, next, k => if k < e - next then next + k else kthFree t (e + 1) (k - (e - next))

/-- The indexes of pool `p` in use or under test, rising. -/
def State.bufsTaken (s : State) (p : Nat) : List Nat :=
  s.bufs.filterMap (fun c => if c.1 / 4194304 == p && (c.2.inUse || c.2.testing) then some (c.1 % 4194304) else none)

/-- The byte address of buffer `i` of pool E (R345, R440). -/
def State.eAddr (s : State) (i : Nat) : Nat := s.rd Reg.Mem.E_BASE [] + 16384 * i

/-- A frame of `len` bytes is written to buffer `i` of pool E: units covered whole are good again (R438). -/
def State.eWritten (s : State) (i len : Nat) : State :=
  { s with xmem := { s.xmem with bad := s.xmem.bad.filter (fun u => !(decide (s.eAddr i ≤ 32 * u) && decide (32 * u + 32 ≤ s.eAddr i + len))) } }

/-- The indexes of pool `p` that cannot be given out, rising: those in use or under test, and the numbers past the pool's count that no lent
buffer has (R362). -/
def State.bufsAway (s : State) (p : Nat) : List Nat :=
  let n := s.poolCount p
  sortBy (fun a b => decide (a ≤ b)) (s.bufsTaken p ++ ((List.range 64).map (n + ·)).filter (fun i => !(s.reh.lent.contains (bufKey p i))))

/-- Gives out a buffer of pool `p` (R351): which free one is the device's choice (log 3). -/
def State.takeBuf (s : State) (p len owner tenant : Nat) : Nat × State :=
  let taken := s.bufsAway p
  let (c, s) := s.choose (s.poolCount p + 64 - taken.length)
  let k := bufKey p (kthFree taken 0 c)
  let b := { gen := (s.buf k).gen % 127 + 1, owner := owner, tenant := tenant, shares := 1, inUse := true, hwDone := false, testing := false }
  let s := { s with bufs := s.bufs.put k b }
  let s := (s.setFree p (s.rd Reg.Buf.FREE [p] - 1)).addTo Reg.Buf.ALLOCS [p] 1
  (k, if p = 4 then ((s.wr Reg.Hid.E_DEFICIT [0] (s.eDeficit + len * eByte)).wr Reg.Hid.E_DEFICIT_AT [0] s.ext).eWritten (k % 4194304) len else s)

/-- The first pool from `p` on that is not empty for the frame. -/
def State.firstPool (s : State) (len : Nat) (ctrl : Bool) : Nat → Nat → Option Nat
  | 0, _ => none
  | n + 1, p => if s.poolEmpty p len ctrl then s.firstPool len ctrl n (p + 1) else some p

/-- The smallest pool that fits a frame (R348). -/
def fitPool (len : Nat) : Nat := if len ≤ 256 then 0 else if len ≤ 1024 then 1 else if len ≤ 2560 then 2 else 3

/-- Allocates a buffer for a frame of `len` bytes (R348, R349). A data frame that finds none is counted in `NO_BUFFER_CNT`; a
control-channel frame is counted by its channel. Frames held back by pool E's bucket count in `E_RATE_DROP` (R350). -/
def State.allocBuf (s : State) (len : Nat) (ctrl : Bool) (owner tenant : Nat) : Option Nat × State :=
  if !s.flag Reg.Buf.BUF_OPEN [] then (none, if ctrl then s else s.addTo Reg.Buf.NO_BUFFER_CNT [] 1)
  else
    let fit := fitPool len
    match s.firstPool len ctrl (5 - fit) fit with
    | some p =>
      let (k, s) := s.takeBuf p len owner tenant
      (some k, if p = fit then s else s.addTo Reg.Buf.FALLBACK_IN [p] 1)
    | none =>
      if ctrl then (none, s)
      else
        let s := s.addTo Reg.Buf.NO_BUFFER_CNT [] 1
        (none, if s.rd Reg.Buf.E_UNITS [] ≠ 0 ∧ s.rd Reg.Buf.FREE [4] ≠ 0 ∧ !s.eHas len then s.addTo Reg.Buf.E_RATE_DROP [] 1 else s)

/-- A lent buffer that is free, and a tested one of its pool that waits, swap back (R362). -/
def State.swapBack (s : State) (k : Nat) : State :=
  let p := k / 4194304
  if !(s.reh.lent.contains k) || (s.buf k).inUse then s
  else
    match s.reh.returns.find? (fun r => r / 4194304 == p) with
    | none => s
    | some r =>
      let s := { s with reh := { s.reh with
        lent := s.reh.lent.filter (· != k)
        returns := s.reh.returns.filter (· != r) } }
      let s := { s with bufs := s.bufs.upd r (fun b => { b with testing := false }) }
      s.wr Reg.Buf.LENT [p] (s.rd Reg.Buf.LENT [p] - 1)

/-- A buffer goes back to its pool; its generation stays until it is next given out. -/
def State.freeBuf (s : State) (k : Nat) : State :=
  let s := { s with bufs := s.bufs.put k { s.buf k with inUse := false, shares := 0, owner := 0, tenant := 0, hwDone := false } }
  (s.setFree (k / 4194304) (s.rd Reg.Buf.FREE [k / 4194304] + 1)).swapBack k

/-- A hardware owner is done with a buffer (R354). -/
def State.hwDone (s : State) (k : Nat) : State :=
  if (s.buf k).shares ≤ 1 then s.freeBuf k else { s with bufs := s.bufs.put k { s.buf k with hwDone := true } }

/-- One share is given up; the release that leaves one share on a buffer whose hardware owner is done frees it (R354, R358). -/
def State.dropShare (s : State) (k : Nat) : State :=
  let b := s.buf k
  if b.shares = 2 ∧ b.hwDone then s.freeBuf k else { s with bufs := s.bufs.put k { b with shares := b.shares - 1 } }

/-- Moves the ownership of a buffer (R353). -/
def State.moveBuf (s : State) (k owner : Nat) : State := { s with bufs := s.bufs.upd k (fun b => { b with owner := owner }) }

/-- A hardware share of a buffer (R356): false, counted in `SHARE_OVF`, where `SHARES` is 65,535. -/
def State.takeShare (s : State) (k : Nat) : Bool × State :=
  if 65535 ≤ (s.buf k).shares then (false, s.addTo Reg.Buf.SHARE_OVF [] 1)
  else (true, { s with bufs := s.bufs.upd k (fun b => { b with shares := b.shares + 1 }) })

/-- The owner words of R352. -/
def ownerHw (blk unit : Nat) : Nat := blk * 2 ^ 20 + unit
/-- A context as owner, kind 1. -/
def ownerCtx (core ctx : Nat) : Nat := 2 ^ 26 + core * 64 + ctx
/-- A host function as owner, kind 2. -/
def ownerHost (func tenant : Nat) : Nat := 2 * 2 ^ 26 + tenant * 16 + func
/-- The system program as owner, kind 3. -/
def ownerSystem : Nat := 3 * 2 ^ 26

/-- Every buffer a script context owns passes to its function and tenant when it ends (R357). -/
def State.rehomeBufs (s : State) (core ctx func tenant : Nat) : State :=
  { s with bufs := s.bufs.map (fun c =>
      if c.2.inUse && c.2.owner == ownerCtx core ctx then (c.1, { c.2 with owner := ownerHost func tenant }) else c) }

/-- A misuse reported (R359): the counter of its code, and the event. -/
def State.bufMisuse (s : State) (code owner tenant ref : Nat) : State :=
  let s := s.addTo (if code = 0x10 then Reg.Buf.FREE_DOUBLE_CNT else if code = 0x11 then Reg.Buf.FREE_NOT_OWNER_CNT else Reg.Buf.FREE_SHARED_CNT) [] 1
  s.raiseFor tenant 0xB8 ref [code, owner % 2 ^ 28, tenant]

/-- Whether an issuer's owner word, and for kind 2 its function, matches a buffer's owner (R358). -/
def ownerMatches (issuer func : Nat) (owner : Nat) : Bool :=
  owner == issuer || (owner / 2 ^ 26 == 2 && issuer / 2 ^ 26 == 1 && owner % 16 == func)

/-- `BUF.FREE` after the checks of R28 (R358): completion code and new state. -/
def State.bufFree (s : State) (ref issuer func tenant : Nat) : Nat × State :=
  match s.liveRef ref with
  | none => (0x10, s.bufMisuse 0x10 issuer tenant ref)
  | some k =>
    if !ownerMatches issuer func (s.buf k).owner then (0x11, s.bufMisuse 0x11 issuer tenant ref)
    else if 2 ≤ (s.buf k).shares then (0x12, s.bufMisuse 0x12 issuer tenant ref)
    else (0, s.freeBuf k)

/-- `BUF.RELEASE` after the checks of R28 (R358): completion code, subcause and new state. -/
def State.bufRelease (s : State) (ref issuer func tenant : Nat) : Nat × Nat × State :=
  match s.liveRef ref with
  | none => (0x10, 0, s.bufMisuse 0x10 issuer tenant ref)
  | some k =>
    if ownerMatches issuer func (s.buf k).owner then (0x7F, 6, s)
    else if 2 ≤ (s.buf k).shares then (0, 0, s.dropShare k)
    else (0x11, 0, s.bufMisuse 0x11 issuer tenant ref)

end Sys2Proof.Machine
end

