-- ==== Sys2Proof/Machine/Flags.lean ====
section
/-! DEFINITION. Completion codes and completion words (R9, R43, R50, R75, R92). The instruction set has no flags (R66): what an
operation reports, it reports in a completion word. -/

namespace Sys2Proof.Machine

/-- A completion word: code, `DONE`, result (R43). -/
def cword (code result : Nat) : Word := BitVec.ofNat 40 (code + 256 + result * 512)

/-- The codes that complete an operation (R92); 0x23 is an event only (R9). -/
def completionCodes : List Nat :=
  [0x00, 0x01, 0x02, 0x03, 0x10, 0x11, 0x12, 0x13, 0x20, 0x21, 0x22, 0x30, 0x31, 0x32, 0x33, 0x40, 0x41, 0x50, 0x51, 0x52, 0x53, 0x60, 0x70,
   0x71, 0x7E, 0x7F]

/-- `FAULT`. -/
def cFAULT : Nat := 0x7E
/-- `DENIED`. -/
def cDENIED : Nat := 0x7F

end Sys2Proof.Machine
end

