-- ==== Sys2Proof/Machine/Ctx.lean ====
section
/-! DEFINITION. Contexts, tickets, host completions and interrupts, exceptions: what every Erten instruction and every submission rests on. -/

namespace Sys2Proof.Machine

/-! ### Contexts and registers (R23, R33) -/

/-- The key of a context. -/
def cxKey (cx : Cx) : Nat := cx.core * 16 + cx.ctx

/-- A context that lives. -/
def State.ctx? (s : State) (cx : Cx) : Option Ctx := s.cpu.ctxs.get? (cxKey cx)

/-- Stores a context. -/
def State.putCtx (s : State) (cx : Cx) (c : Ctx) : State := { s with cpu := { s.cpu with ctxs := s.cpu.ctxs.put (cxKey cx) c } }

/-- A denied access of a requester (R28): the issuing tenant's counter, and the event at most once per millisecond per context. -/
def State.deniedBy (s : State) (cx : Cx) (remote : Bool) (tenant addr : Nat) : State :=
  (s.countTenant tenant 5).raiseRated rateMs 0x81 (cxKey cx + 2048 * bit remote) tenant addr []

/-- Register `n`: `w0` reads as zero (R33). -/
def Ctx.reg (c : Ctx) (n : Nat) : Word := if n = 0 then 0 else c.regs.get n

/-- Writes register `n`: a write of `w0` is discarded (R33). -/
def Ctx.setReg (c : Ctx) (n : Nat) (v : Word) : Ctx := if n = 0 then c else { c with regs := c.regs.set n v }

/-- The context goes on to the next instruction. -/
def Ctx.advance (c : Ctx) : Ctx := { c with pc := c.pc + 1, block := .none }

/-- The core serving a tree (R206); 0x7F is none. -/
def State.server (s : State) (z : Nat) : Nat := s.rd Reg.Cue.CORE [z]

/-- A context type as a message to the twin carries it (R31; DESIGN CHOICE for the code, log 135). -/
def ctxCode : CtxKind → Nat
  | .prompter _ => 0 | .system => 1 | .script => 2

/-- A kind of object access as a message to the twin carries it (DESIGN CHOICE, log 135); a store is 6, an asynchronous operation 7. -/
def accCode : AccKind → Nat
  | .load => 0 | .add => 1 | .swap => 2 | .set => 3 | .clr => 4 | .cas => 5

/-- The tree that a context serves, for a prompter. -/
def Ctx.tree? (c : Ctx) : Option Nat := match c.kind with | .prompter z => some z | _ => none

/-- Whether a core is a stagehand (R206). -/
def isStagehand (core : Nat) : Bool := decide (72 ≤ core) && decide (core ≤ 79)

/-- A blocked context, or one whose end or run limit is reached, executes nothing (R59, R100). -/
def Ctx.runs (c : Ctx) : Bool :=
  c.block == .none && c.ended.isNone && c.kill.isNone && (c.limit == 0 || decide (c.cycles < c.limit))

/-! ### Local memory (R34, R35) -/

/-- The address of a context's data memory in the one store of them. -/
def memBase (cx : Cx) : Nat := cxKey cx * 2 ^ 16

/-- A word of the context's data memory or data area. -/
def State.dataWord (s : State) (cx : Cx) (a : Nat) : Word := s.cpu.mem.get (memBase cx + a)

/-- Writes a word of data memory: one with an uncorrectable error is good again (R50, log 84). -/
def State.setDataWord (s : State) (cx : Cx) (a : Nat) (v : Word) : State :=
  { s with cpu := { s.cpu with
    mem := s.cpu.mem.set (memBase cx + a) v
    badData := s.cpu.badData.filter (· != memBase cx + a) } }

/-- Zeroes a context's data area and places a data image from word 0 (R35, R49). -/
def State.loadData (s : State) (cx : Cx) (image : List Word) : State :=
  { s with cpu := { s.cpu with
    mem := (s.cpu.mem.clear (memBase cx) (memBase cx + 2 ^ 16)).fill (memBase cx) image
    badData := s.cpu.badData.filter (fun k => k / 2 ^ 16 != cxKey cx) } }

/-! ### Branch traces (R470) -/

/-- Freezes a core's trace for a cause, unless it is frozen. -/
def State.freezeTrace (s : State) (core cause : Nat) : State :=
  if s.flag Reg.Cnt.TR_FROZEN [core] then s
  else ((s.wr Reg.Cnt.TR_FROZEN [core] 1).wr Reg.Cnt.TR_CAUSE [core] cause).raise 0xE2 (Reg.Cnt.TR_MODE.addr [core]) [cause]

/-- Writes one trace entry of a core. -/
def State.trace (s : State) (core kind src dst ctx : Nat) : State :=
  if s.rd Reg.Cnt.TR_MODE [core] = 0 ∨ s.flag Reg.Cnt.TR_FROZEN [core] then s
  else
    let e := s.rd Reg.Cnt.TR_PTR [core]
    let s := (((((s.wr Reg.Cnt.TR_FROM [core, e] src).wr Reg.Cnt.TR_TO [core, e] dst).wr Reg.Cnt.TR_KIND [core, e] kind).wr
      Reg.Cnt.TR_TIME [core, e] s.now).wr Reg.Cnt.TR_CTX [core, e] ctx).wr Reg.Cnt.TR_PTR [core] (e + 1)
    if e = 4095 then
      let s := s.wr Reg.Cnt.TR_FULL [core] 1
      if s.rd Reg.Cnt.TR_MODE [core] = 2 then s.freezeTrace core 4 else s
    else s

/-! ### Which context of a stagehand runs (R24) -/

/-- Whether a context of a stagehand could run now. -/
def State.ready (s : State) (core k : Nat) : Bool :=
  match s.ctx? ⟨core, k⟩ with
  | some c => c.runs
  | none => false

/-- The script context next in round-robin order after the one that ran last. -/
def State.nextScript (s : State) (core : Nat) : Option Nat :=
  ((List.range 15).map (fun i => (s.rd Reg.Hid.RR_CTX [core] + i) % 15 + 1)).find? (s.ready core)

/-- The context the stagehand switches to: the system context whenever it is ready, else the next ready script context in round-robin order. -/
def State.nextCtx (s : State) (core : Nat) : Option Nat := if s.ready core 0 then some 0 else s.nextScript core

/-- The stagehand runs context `k` from here on; a context it resumes in the place of `cur` leaves a trace entry (R470). -/
def State.runCtx (s : State) (core cur k : Nat) : State :=
  let s := s.wr Reg.Hid.CUR_CTX [core] (k + 1)
  let s := if k = 0 then s else s.wr Reg.Hid.RR_CTX [core] k
  if k = cur then s else s.trace core 5 0 (match s.ctx? ⟨core, k⟩ with | some c => c.pc | none => 0) k

/-- The stagehand switches away from context `cur`. -/
def State.switch (s : State) (core cur : Nat) : State :=
  if !isStagehand core then s
  else
    match s.nextCtx core with
    | none => s.wr Reg.Hid.CUR_CTX [core] 0
    | some k => s.runCtx core cur k

/-- Context `cur` waits for external memory while the others run (R24): its data has come back by the next switch, so it stays ready (log 105). -/
def State.switchOver (s : State) (core cur : Nat) : State :=
  if !isStagehand core then s
  else
    match (if cur ≠ 0 && s.ready core 0 then some 0 else s.nextScript core) with
    | none => s
    | some k => if k = cur then s else s.runCtx core cur k

/-- A context has become ready: an idle stagehand takes it up. -/
def State.wake (s : State) (cx : Cx) : State :=
  if isStagehand cx.core && s.rd Reg.Hid.CUR_CTX [cx.core] == 0 then s.switch cx.core 16 else s

/-- Whether the context is the one its core runs: a prompter core has one context. -/
def State.onCore (s : State) (cx : Cx) : Bool := !isStagehand cx.core || s.rd Reg.Hid.CUR_CTX [cx.core] == cx.ctx + 1

/-! ### Tickets (R41–R44, R48, R91) -/

/-- The value of a ticket. -/
def ticketWord (e : Nat) (t : Tix) : Word := BitVec.ofNat 40 (e + t.gen * 2 ^ 12 + t.core * 2 ^ 20 + t.ctx * 2 ^ 27)

/-- Whether a ticket's operation has not completed. -/
def Tix.running (t : Tix) : Bool := match t.st with | .pending => true | .done _ => false

/-- Tickets held by a core. -/
def State.heldByCore (s : State) (core : Nat) : Nat := s.cpu.tickets.countP (fun c => c.2.core == core)

/-- Entries that the trees' reserves keep from everyone else (R42): what each serving core has not used of its sixteen. -/
def State.reserved (s : State) : Nat :=
  ((List.range 64).map (fun z => 16 - s.heldByCore (s.server z))).sum

/-- Whether a ticket entry is available to a context (R32, R42). A tenant's quota counts the tickets of its scripts only: those of prompters and of the system context,
which run for tenant 0, count for no tenant (DESIGN CHOICE, log 130). -/
def State.ticketFor (s : State) (cx : Cx) (c : Ctx) : Bool :=
  let n := s.cpu.tickets.length
  let held := s.heldByCore cx.core
  match c.kind with
  | .prompter z => decide (n < 4096) && decide (held < 64) &&
      ((s.server z == cx.core && decide (held < 16)) || decide (n + s.reserved < 4096))
  | .system => decide (held < 512) && decide (n + s.reserved < 4096)
  | .script => decide (held < 512) && decide (n + s.reserved < 4096) &&
      decide (s.cpu.tickets.countP (fun t => t.2.core == cx.core && t.2.ctx != 0) < 480) &&
      decide (s.cpu.tickets.countP (fun t => t.2.tenant == c.tenant && t.2.ctx != 0) < s.rd Reg.Aut.TICKET_QUOTA [c.tenant])

/-- Takes a ticket entry: any free one, the device's choice (R41, log 3), in its next generation. -/
def State.takeTicket (s : State) (cx : Cx) (c : Ctx) (objs : List Nat) (port : Option Nat) : Nat × Tix × State :=
  let (k, s) := s.choose (4096 - s.cpu.tickets.length)
  let e := kthFree (s.cpu.tickets.map Prod.fst) 0 k
  let g := s.rd Reg.Hid.TIX_GEN [e] % 255 + 1
  let t : Tix := { gen := g, core := cx.core, ctx := cx.ctx, tenant := c.tenant, st := .pending, orphan := false, next := none, objs := objs, port := port }
  let s := { s with cpu := { s.cpu with tickets := s.cpu.tickets.put e t } }
  let s := (s.wr Reg.Hid.TIX_GEN [e] g).wr Reg.Hid.TIX_LOW [0] (max (s.rd Reg.Hid.TIX_LOW [0]) s.cpu.tickets.length)
  (e, t, s.wr Reg.Hid.LOW_READ [5] 0)

/-- A ticket entry goes back to the pool; contexts that `ISSUE` held for want of an entry go on (R42). -/
def State.freeTicket (s : State) (e : Nat) : State :=
  let s := { s.wr Reg.Hid.LOW_READ [5] 0 with cpu := { s.cpu with
      tickets := s.cpu.tickets.del e
      ctxs := s.cpu.ctxs.map (fun c => if c.2.block == .issue then (c.1, { c.2 with block := .none }) else c) } }
  (List.range 8).foldl (fun s k => if s.rd Reg.Hid.CUR_CTX [72 + k] = 0 then s.switch (72 + k) 16 else s) s

/-- A ticket's operation completes. An ended context's completion is discarded and its entry freed (R48). A number past the 4,096 entries names an
operation that the twin asked for, and the completion goes back to it (R40). -/
def State.finishTicket (s : State) (e gen : Nat) (w : Word) : State :=
  if 4096 < e then s.emit (.twin 5 [e - 4097, w.toNat])
  else
  match s.cpu.tickets.get? e with
  | some t =>
    if t.gen ≠ gen then s
    else if t.orphan then s.freeTicket e
    else { s with cpu := { s.cpu with tickets := s.cpu.tickets.put e { t with st := .done w } } }
  | none => s

/-- `WAIT` or `POLL` collects a completed ticket: the entry is freed, or is taken up again by the continuation of a curtain (R91). -/
def State.collect (s : State) (e : Nat) : State :=
  match s.cpu.tickets.get? e with
  | some t =>
    match t.next with
    | some st =>
      let g := t.gen % 255 + 1
      let s := s.wr Reg.Hid.TIX_GEN [e] g
      { s with cpu := { s.cpu with tickets := s.cpu.tickets.put e { t with gen := g, st := st, next := none } } }
    | none => s.freeTicket e
  | none => s

/-- The outcome of naming a ticket (R43, R44, R79). -/
inductive TicketView where
  | invalid
  | running
  | done (w : Word) (entry : Option Nat)
deriving DecidableEq, Repr

/-- The sheet ticket of a tree's frame (R79): current and previous frame only, from the core that serves the tree. -/
def State.sheetTicket (s : State) (cx : Cx) (c : Ctx) (t : Word) : TicketView :=
  match c.tree? with
  | some z =>
    if t.toNat = t.toNat % 4096 + cx.core * 2 ^ 20 + 0xF * 2 ^ 27 then
      match s.trees.get? z with
      | some tr =>
        match [tr.ticketNow, tr.ticketPrev].findSome? (fun o => match o with
          | some (f, w) => if f % 4096 = t.toNat % 4096 then some w else none
          | none => none) with
        | some (some w) => .done w none
        | some none => .running
        | none => .invalid
      | none => .invalid
    else .invalid
  | none => .invalid

/-- What a context finds when it names a ticket (R44). -/
def State.viewTicket (s : State) (cx : Cx) (c : Ctx) (t : Word) : TicketView :=
  if t = 0 then .invalid
  else
    let e := t.toNat % 4096
    match s.cpu.tickets.get? e with
    | some x =>
      if ticketWord e x = t ∧ x.core = cx.core ∧ x.ctx = cx.ctx ∧ !x.orphan then
        match x.st with
        | .pending => .running
        | .done w => .done w (some e)
      else s.sheetTicket cx c t
    | none => s.sheetTicket cx c t

/-! ### Messages to the twin (R243, R429) -/

/-- A class 4 or 5 message goes out and waits for its acknowledgement. -/
def State.sendTwin (s : State) (cls : Nat) (cx : Cx) (addr instr : Word) (payload : List Nat) (done : AckFor) : State :=
  let q := (s.rd Reg.Hid.TW_SEQ [0] + 1) % 2 ^ 16
  let m : TwinOut := { seq := q, cls := cls, tries := 0, sent := s.ext, cx := cx, addr := addr, instr := instr, payload := payload, done := done, acked := false }
  { (s.wr Reg.Hid.TW_SEQ [0] q).emit (.twin cls (q :: payload)) with unacked := s.unacked ++ [m] }

/-- Whether a step from `s` to `t` sent the twin something to acknowledge. -/
def State.sentSince (t s : State) : Bool := decide (s.unacked.length < t.unacked.length)

/-- The last message sent to the twin is what `d` waits for. -/
def State.lastFor (s : State) (d : AckFor) : State :=
  { s with unacked := s.unacked.dropLast ++ (s.unacked.drop (s.unacked.length - 1)).map (fun m => { m with done := d }) }

/-! ### What `ORDER` and `FENCE` wait for -/

/-- Every operation the context has issued has completed: the condition of `ORDER` and `FENCE` (R46, R47); a store is visible here at once (log 8),
and on the twin once its message is acknowledged. -/
def State.opsDone (s : State) (cx : Cx) : Bool :=
  s.unacked.all (fun m => m.cx != cx) && s.cpu.tickets.all (fun c => !(c.2.core == cx.core && c.2.ctx == cx.ctx && !c.2.orphan && c.2.running))

/-- A ticket with its context gone: a curtain that completed `VERSION_BUSY` uncollected goes on as the operation it stands for (R48, R91). -/
def Tix.abandon (t : Tix) : Tix := { t with orphan := true, st := t.next.getD t.st, next := none }

/-- A context ends: its completed tickets are freed, the others return when their operations complete (R48). -/
def State.orphanTickets (s : State) (cx : Cx) : State :=
  let mine := fun (t : Tix) => t.core == cx.core && t.ctx == cx.ctx && !t.orphan
  let gone := (s.cpu.tickets.filter (fun c => mine c.2 && !c.2.abandon.running)).map Prod.fst
  let s := { s with cpu := { s.cpu with tickets := s.cpu.tickets.map (fun c => if mine c.2 then (c.1, c.2.abandon) else c) } }
  gone.foldl State.freeTicket s

/-! ### Interrupts and completions (R104–R108) -/

/-- An MSI-X message of a function: a masked vector sets its pending bit instead (R108). -/
def State.msix (s : State) (f v : Nat) : State :=
  if s.flag Reg.Hid.MSIX_MASK [f, v] then s.wr Reg.Hid.MSIX_PEND [f, v] 1 else s.emit (.msix f v)

/-- A ring error changes from 0 to 1: one message on `ERR_VEC` while `IRQ_EN` bit [14] is 1 (R108). -/
def State.ringError (s : State) (f : Nat) (fld : Field) : State :=
  if s.flag fld [f] then s
  else
    let s := s.wr fld [f] 1
    if (s.rd Reg.Bar.IRQ_EN [f]).testBit 2 then s.msix f (s.rd Reg.Bar.ERR_VEC [f]) else s

/-- Counts an entry toward an interrupt (R108): `unsig` and `since` are the ring's counters, `vec` its vector. -/
def State.coalesce (s : State) (f : Nat) (unsig since vec : Field) : State :=
  let n := s.rd unsig [f] + 1
  if max 1 (s.rd Reg.Bar.COAL_CNT [f]) ≤ n then
    ((s.wr unsig [f] 0).wr since [f] 0).msix f (s.rd vec [f])
  else
    let s := s.wr unsig [f] n
    if s.rd since [f] = 0 then s.wr since [f] (s.ext + 1) else s

/-- The 32 bytes of a completion entry (R105). -/
def Cpl.bytes (c : Cpl) : List Nat :=
  leBytes 4 c.tag ++ [c.code % 256, c.sub % 256] ++ leBytes 2 c.index ++ leBytes 8 c.res0 ++ leBytes 8 c.res1 ++ leBytes 4 c.cycles ++
    [bit c.dmaErr, 0, 0, c.phase % 2]

/-- Writes a completion entry to the slot at `CQ_TAIL` and advances it; the phase inverts at each wrap (R104–R106). -/
def State.complete (s : State) (j : Job) (code sub : Nat) (res0 res1 cycles : Nat) (dmaErr : Bool) : State :=
  if j.discard then s
  else
    let f := j.func
    let t := s.rd Reg.Bar.CQ_TAIL [f]
    let ph := s.rd Reg.Hid.CQ_PHASE [f]
    let e : Cpl :=
      { tag := j.tag, code := code, sub := sub, index := j.index, res0 := res0, res1 := res1, cycles := min cycles (2 ^ 32 - 1), dmaErr := dmaErr, phase := ph }
    let s := s.emit (.completion f t e e.bytes)
    let t' := (t + 1) % 2 ^ s.rd Reg.Bar.CQ_LOG2 [f]
    let s := (s.wr Reg.Bar.CQ_TAIL [f] t').wr Reg.Hid.INFLIGHT_F [f] (s.rd Reg.Hid.INFLIGHT_F [f] - 1)
    let s := if t' = 0 then s.wr Reg.Hid.CQ_PHASE [f] (1 - ph) else s
    if (s.rd Reg.Bar.IRQ_EN [f]).testBit 0 && !j.noIrq then
      s.coalesce f Reg.Hid.CQ_UNSIG Reg.Hid.CQ_COAL_AT Reg.Bar.CQ_VEC
    else s

/-! ### The end of a script (R47, R48, R51, R59, R100) -/

/-- One instance of a resident image ends; the last one lets a waiting unload complete `OK` (R99). -/
def State.residentEnds (s : State) (h : Nat) : State :=
  let rs := s.cpu.residents.map (fun r => if r.handle = h then { r with running := r.running - 1 } else r)
  match rs.find? (fun r => r.handle == h && r.running == 0 && r.unload.isSome) with
  | some r =>
    let s := { s with cpu := { s.cpu with residents := rs.filter (fun r => r.handle != h) } }
    match r.unload with
    | some j => s.complete j 0 0 0 0 0 false
    | none => s
  | none => { s with cpu := { s.cpu with residents := rs } }

/-- The context's script is over: its results go to the completion entry, its data area is zeroed (R35), its buffers pass to
its function (R357), its tickets are left behind (R48), and the context is free. -/
def State.finishScript (s : State) (cx : Cx) (c : Ctx) (code sub : Nat) : State :=
  let s := s.orphanTickets cx
  let s := match c.job with | some j => s.rehomeBufs cx.core cx.ctx j.func c.tenant | none => s
  let s := (s.countTenant c.tenant 8).countTenant c.tenant 9 c.cycles
  let s := { s with cpu := { s.cpu with ctxs := s.cpu.ctxs.del (cxKey cx), mem := s.cpu.mem.clear (memBase cx) (memBase cx + 2 ^ 16) } }
  let s := match c.job with
    | some j =>
      let s := s.complete j code sub c.res0.toNat c.res1.toNat c.cycles false
      if j.resident = 0 then s else s.residentEnds (j.resident - 1)
    | none => s
  if s.rd Reg.Hid.CUR_CTX [cx.core] = cx.ctx + 1 then s.switch cx.core cx.ctx else s

/-- A script's end is decided: the implicit `FENCE` of R47 holds it, blocked as `b`, until every operation has completed. -/
def State.endAs (s : State) (b : Block) (cx : Cx) (c : Ctx) (code sub : Nat) : State :=
  if s.opsDone cx && c.refused.isEmpty then s.finishScript cx c code sub
  else
    let s := s.putCtx cx { c with ended := some (code, sub), block := b }
    if s.rd Reg.Hid.CUR_CTX [cx.core] = cx.ctx + 1 then s.switch cx.core cx.ctx else s

/-- A script ends of itself: a refusal that returns at its final `FENCE` is still taken there (R39, R100). -/
def State.endScript (s : State) (cx : Cx) (c : Ctx) (code sub : Nat) : State := s.endAs .ending cx c code sub

/-- A script is ended: by an unhandled exception, at its run limit, or from outside (R30, R51, R59). It executes nothing more, its handler included. -/
def State.stopScript (s : State) (cx : Cx) (c : Ctx) (code sub : Nat) : State :=
  s.endAs .stopped cx { c with block := .none, kill := none, refused := [] } code sub

/-- A stop from outside (R30, R51): at once for a context at an instruction boundary, as one is that `ISSUE` keeps waiting for a ticket entry, else when its
blocking instruction completes. A script at its own final `FENCE` has executed its last instruction: its own end stands, but a refusal that returns there meets the
stop in the place of its exception. -/
def State.killScript (s : State) (cx : Cx) (c : Ctx) (code sub : Nat) : State :=
  if c.ended.isSome then (if c.block = .ending then s.putCtx cx { c with kill := some (code, sub) } else s)
  else if c.block = .none ∨ c.block = .issue then s.stopScript cx c code sub
  else s.putCtx cx { c with kill := some (code, sub) }

/-- A refused posted store of a context: its refusal is on the way back (R39). -/
def State.refuseStore (s : State) (cx : Cx) (x : Nat × Nat) (addr instr : Word) : State :=
  match s.ctx? cx with
  | some c => s.putCtx cx { c with refused := c.refused ++ [{ code := x.1, sub := x.2, instr := instr, addr := addr, returned := false }] }
  | none => s

/-! ### Exceptions (R49–R51) -/

/-- The halt of a stagehand's system context (R51): its scripts end at their next boundary with `FAULT` subcause 0x09. -/
def State.haltStagehand (s : State) (cx : Cx) (c : Ctx) : State :=
  let s := s.orphanTickets cx
  let s := s.putCtx cx { c with block := .idle }
  let s := (s.wr Reg.Bar.SYS_HALTED [] 1).raise 0x83 0 []
  ((List.range 15).map (· + 1)).foldl (fun s k =>
    match s.ctx? ⟨cx.core, k⟩ with
    | some d => s.killScript ⟨cx.core, k⟩ d 0x7E 9
    | none => s) s

/-- The base address of a tree's objects in block 0x02. -/
def treeObj (z : Nat) : Nat := Reg.Cue.MAP_LEAD.addr [z]

/-- A prompter's run ends in a fault (R51): the third frame in a row halts the prompter. -/
def State.promptFault (s : State) (cx : Cx) (c : Ctx) (z : Nat) : State :=
  let s := s.putCtx cx { c with block := .idle }
  let s := (s.wr Reg.Hid.PR_FLAG2 [z] 1).wr Reg.Hid.PR_FAULTED [z] 1
  let s := s.raise 0x84 (treeObj z) [s.rd Reg.Cue.FRAME [z]]
  let n := s.rd Reg.Hid.PR_STREAK [z] + 1
  if 3 ≤ n then ((s.wr Reg.Hid.PR_STREAK [z] 0).wr Reg.Cue.HALTED [z] 1).raise 0x85 (treeObj z) []
  else s.wr Reg.Hid.PR_STREAK [z] n

/-- An exception with no handler, or a double fault (R51). -/
def State.unhandled (s : State) (cx : Cx) (c : Ctx) (code sub : Nat) : State :=
  let s := s.freezeTrace cx.core 2
  match c.kind with
  | .script => (s.raiseFor c.tenant 0x82 0 []).stopScript cx c code sub
  | .system => s.haltStagehand cx c
  | .prompter z => s.promptFault cx c z

/-- Taking an exception (R49): the frame in words 1–5 of data memory, then the handler; with no handler, or inside one, R51.
`epc` is the address the frame saves, `instr` the word it names, `addr` the address concerned, `posted` bit [16] of `ECAUSE`. A
`VECTOR` that does not fit the program counter leads to a fetch that faults inside the handler, a double fault (log 9). -/
def State.takeException (s : State) (cx : Cx) (c : Ctx) (code sub : Nat) (epc : Nat) (addr instr : Word) (posted : Bool) : State :=
  let vec := (s.dataWord cx 0).toNat
  let c := { c with block := .none }
  if vec = 0 ∨ s.dataWord cx 5 ≠ 0 then s.unhandled cx c code sub
  else
    let s := ((((s.setDataWord cx 1 (BitVec.ofNat 40 epc)).setDataWord cx 2
      (BitVec.ofNat 40 (code + sub * 256 + bit posted * 65536))).setDataWord cx 3 addr).setDataWord cx 4 instr).setDataWord cx 5 1
    if 2 ^ 17 ≤ vec then s.unhandled cx c 0x7E 3
    else (s.putCtx cx { c with pc := vec, cycles := c.cycles + 2 }).trace cx.core 2 epc vec cx.ctx

/-- The cycles since a context blocked: 8 ticks each, the last one begun counting (R57). -/
def State.blockedFor (s : State) (c : Ctx) : Nat := (s.ext - c.since + 7) / 8

/-- The context with the cycles it was blocked for: they count for a prompter (R57, R65), and for an instruction that raises an exception (R65); a script's or the
system's count only what executes (R59). `least` is what the blocking instruction takes at the least (R72). -/
def State.waited (s : State) (c : Ctx) (least : Nat) (raises : Bool) : Ctx :=
  if c.tree?.isSome || raises then { c with cycles := c.cycles + max least (s.blockedFor c) } else c

/-- A blocked context goes on: a stop ordered meanwhile ends it, and a refusal that returned meanwhile is taken at this boundary (R30, R39). -/
def State.resume (s : State) (cx : Cx) (c : Ctx) : State :=
  match c.kill with
  | some (code, sub) => s.stopScript cx c code sub
  | none =>
    match c.refused.find? (·.returned) with
    | some r =>
      let c := { c with block := .none, refused := c.refused.erase r }
      (s.takeException cx c r.code r.sub c.pc r.addr r.instr true).wake cx
    | none => (s.putCtx cx { c with block := .none }).wake cx

end Sys2Proof.Machine
end

