-- ==== Sys2Proof/Machine/Memory.lean ====
section
/-! DEFINITION. External memory and the prompt book (R436–R448): the layout, segment words, ECC, journaling and queries. -/

namespace Sys2Proof.Machine

/-- 2^30. -/
def gib : Nat := 2 ^ 30

/-- The usable capacity in bytes (R437). -/
def State.memBytes (s : State) : Nat := 15 * 2 ^ s.rd Reg.Mem.CH_GIB [] * gib

/-- The prompt book's byte address (R440). -/
def State.pbBase (s : State) : Nat := s.rd Reg.Mem.E_BASE [] + s.rd Reg.Buf.E_UNITS [] * gib
/-- The prompt book region's size in bytes. -/
def State.pbBytes (s : State) : Nat := s.rd Reg.Mem.PB_GIB [] * gib
/-- Segment space's byte address (R440). -/
def State.segBase (s : State) : Nat := s.pbBase + s.pbBytes
/-- The words of segment space (R441). -/
def State.segWords (s : State) : Nat := (s.memBytes - s.segBase) / 8
/-- Whether the layout fits (R440). -/
def State.layoutFits (s : State) : Bool := decide (2 + s.rd Reg.Buf.E_UNITS [] + s.rd Reg.Mem.PB_GIB [] ≤ 15 * 2 ^ s.rd Reg.Mem.CH_GIB [])
/-- The channel of a byte address (R437). -/
def memChannel (a : Nat) : Nat := a / 256 % 16
/-- The ECC unit of a word of segment space. -/
def State.segUnit (s : State) (w : Nat) : Nat := (s.segBase + 8 * w) / 32

/-- A corrected error (R438). -/
def State.memCe (s : State) (a : Nat) : State :=
  let c := memChannel a
  (s.addTo Reg.Mem.CE_CNT [c] 1).raiseRated (secTicks 1) 0xD9 c (tagOf s 0 (Reg.Mem.CE_CNT.addr [c])) (Reg.Mem.CE_CNT.addr [c]) [a]

/-- An uncorrectable error (R438). -/
def State.memUe (s : State) (a : Nat) : State :=
  let c := memChannel a
  (((s.addTo Reg.Mem.UE_CNT [c] 1).wr Reg.Mem.UE_ADDR [c] a).raise 0xDA (Reg.Mem.UE_ADDR.addr [c]) [a])

/-- Reads a word of segment space: none where its unit is bad (R438). A word never written reads as an open value (log 5). -/
def State.segRead (s : State) (w : Nat) : Option Word × State :=
  if s.segUnit w ∈ s.xmem.bad then (none, s.memUe (s.segBase + 8 * w))
  else (some ((s.xmem.words.get? w).getD (Config.memInit s.xmem.epoch (s.segBase + 8 * w))), s)

/-- Writes a word of segment space: a bad unit stays bad under a write smaller than it (R438). -/
def State.segWrite (s : State) (w : Nat) (v : Word) : State := { s with xmem := { s.xmem with words := s.xmem.words.put w v } }

/-- Units that a write of some words, by their numbers in the usable capacity, covers whole are good again (R438). -/
def State.heal (s : State) (ws : List Nat) : State :=
  { s with xmem := { s.xmem with bad := s.xmem.bad.filter (fun u => !([0, 1, 2, 3].all (fun j => decide (4 * u + j ∈ ws)))) } }

/-- Writes consecutive words: units covered whole are good again (R438). -/
def State.segWriteRange (s : State) (w : Nat) (vs : List Word) : State :=
  ((vs.zipIdx).foldl (fun s p => s.segWrite (w + p.2) p.1) s).heal ((List.range vs.length).map (fun i => s.segBase / 8 + w + i))

/-- A patrol scrub read of one unit (R439): 0 good, 1 corrected, 2 uncorrectable. A bad unit of the flow counter area restarts its counters (R438). -/
def State.scrubUnit (s : State) (unit outcome : Nat) : State :=
  if !s.flag Reg.Mem.MEM_OPEN [] || decide (s.memBytes ≤ 32 * unit) then s
  else if outcome = 1 then s.memCe (32 * unit)
  else if outcome = 0 then s
  else
    let s := s.memUe (32 * unit)
    if 32 * unit < 16777216 then
      (List.range 4).foldl (fun s i =>
        let n := 131072 + 4 * unit + i
        let s := (s.wr Reg.Cnt.CNT [n] 0).wr Reg.Cnt.WRAP [n] 1
        ({ s with xmem := { s.xmem with flows := s.xmem.flows.set (4 * unit + i) 0 } } : State)) s
    else { s with xmem := { s.xmem with bad := if unit ∈ s.xmem.bad then s.xmem.bad else s.xmem.bad ++ [unit] } }

/-! ### The prompt book -/

/-- The number a tree carries in records and claims: absolute over the pair (R18, R448). -/
def State.treeNo (s : State) (z : Nat) : Nat := if s.rd Reg.Bar.PAIRING [] = 1 then z + 64 * s.env.unit else z

/-- Whether this unit tracks a tree without lighting it (graft-understudy mode). -/
def State.understudy (s : State) (z : Nat) : Bool := s.rd Reg.Bar.PAIRING [] == 2 && !s.flag Reg.Pon.LIT [z]

/-- Whether the twin lights a tree, from its last valid frame. -/
def State.twinLit (s : State) (z : Nat) : Bool :=
  if z < 32 then (s.rd Reg.Twn.TWIN_LIT_LO []).testBit z else (s.rd Reg.Twn.TWIN_LIT_HI []).testBit (z - 32)

/-- What the writer lacks of its allowance of 8.4 GB/s; its depth, one frame's worth, is the model's (log 12). -/
def State.pbDeficit (s : State) : Nat :=
  s.rd Reg.Hid.PB_DEFICIT [0] - (s.ext - s.rd Reg.Hid.PB_DEFICIT_AT [0]) * 84000

/-- Writes one record at `PB_WPTR` (R443–R445), a 32-byte record after a pad where it would cross the region's end. One that covers a whole unit makes it good (R438). -/
def State.pbWrite (s : State) (z typ size term stamp bits : Nat) : State :=
  if !s.flag Reg.Mem.MEM_OPEN [] || s.understudy z then s
  else if 1050000 * 62208 < s.pbDeficit + size * 62208 then
    (s.addTo Reg.Mem.PB_DROP [] 1).raiseRated rateMs 0xDB z (tagOf s 0 (treeObj z)) (treeObj z) []
  else
    let n := s.pbBytes
    let pad := if size = 32 ∧ s.xmem.pbPos % n + 32 > n then 16 else 0
    let p := s.xmem.pbPos + pad
    let s := (s.wr Reg.Hid.PB_DEFICIT [0] (s.pbDeficit + size * 62208)).wr Reg.Hid.PB_DEFICIT_AT [0] s.ext
    let s := { s with xmem := { s.xmem with
      pb := s.xmem.pb ++ [PbRec.mk p size typ (s.treeNo z) term stamp bits]
      pbPos := p + size
      raw := (List.range ((size + pad) / 8)).foldl (fun m i => m.del ((s.pbBase + (p - pad) % n) / 8 + i)) s.xmem.raw } }
    let s := if size = 32 then s.heal ((List.range 4).map (fun i => (s.pbBase + p % n) / 8 + i)) else s
    (((s.wr Reg.Mem.PB_WPTR [] ((p + size) % n)).wr Reg.Mem.PB_WRAPS [] ((p + size) / n)).wr
      Reg.Bar.PB_WPTR [] ((p + size) % n)).wr Reg.Bar.PB_WRAPS [] ((p + size) / n)

/-- Whether grant and burst records of terminal t of tree z are journaled (R444); 1,023 stands for no terminal. -/
def State.pbSelected (s : State) (z t : Nat) : Bool :=
  (s.rd Reg.Mem.PB_TREE [z / 32]).testBit (z % 32) || (t < 1020 && (s.rd Reg.Mem.PB_TERM [z, t / 32]).testBit (t % 32))

/-- Puts fields of given widths together, first field lowest. -/
def packBits : List (Nat × Nat) → Nat
  | [] => 0
  | (w, v) :: t => v % 2 ^ w + 2 ^ w * packBits t

/-- The kind of an entry in its grant record. -/
def EntKind.code : EntKind → Nat
  | .grant => 0 | .disc => 1 | .rng => 2 | .silence => 3

/-- The grant record of one transmitted entry (R211, R445's table). `p` is P or the window's start, in extended stage time. -/
def State.pbGrant (s : State) (z frame : Nat) (e : Entry) (p : Nat) : State :=
  let term := if e.kind = .disc ∨ e.kind = .silence then 0x3FF else e.term
  if !s.pbSelected z (if e.kind = .grant then e.term else 1023) then s
  else s.pbWrite z 1 16 term p (packBits [(2, 1), (7, s.treeNo z), (8, frame), (2, e.kind.code), (12, if e.kind = .grant then e.alloc else 0), (10, term),
    (20, e.start), (20, e.size), (1, bit e.long), (2, e.src), (40, p), (4, p / 2 ^ 40)])

/-- The burst record (R142). -/
def State.pbBurst (s : State) (z term delim : Nat) (d : Int) (score : Nat) (long : Bool) (dec : Decoded) (status : Nat) : State :=
  if !s.pbSelected z term then s
  else s.pbWrite z 2 16 term delim (packBits [(2, 2), (7, s.treeNo z), (10, term), (40, delim), (8, (d % 256).toNat), (7, score), (1, bit long),
    (13, min dec.codewords 8191), (16, min dec.corrected 65535), (8, min dec.uncorrectable 255), (2, status), (4, delim / 2 ^ 40)])

/-- The digest record of an allocation (R211). -/
def State.pbDigest (s : State) (z a : Nat) (g : Dig) (late : Nat) : State :=
  if !s.flag Reg.Mem.PB_DIGEST_EN [] then s
  else
    let t := s.rd Reg.Cue.TERM [z, a]
    s.pbWrite z 3 32 t s.ext (packBits [(2, 3), (7, s.treeNo z), (12, a), (10, t), (6, s.rd Reg.Cue.TENANT [z, a]), (40, s.now), (16, s.ext / 2 ^ 40),
      (16, min g.reports 65535), (24, g.backlog), (32, g.granted), (32, g.received), (16, g.nmissed), (16, late)])

/-- The bytes of a record, in order. -/
def recBytes (size bits : Nat) : List Nat := (List.range size).map (fun i => bits / 2 ^ (8 * i) % 256)

/-- Packs bytes five to a word, the first in the high byte, as the key bytes of R84. -/
def packWords : List Nat → List Word
  | a :: b :: c :: d :: e :: t => BitVec.ofNat 40 ((((a * 256 + b) * 256 + c) * 256 + d) * 256 + e) :: packWords t
  | [] => []
  | t => [BitVec.ofNat 40 (((((t.getD 0 0) * 256 + t.getD 1 0) * 256 + t.getD 2 0) * 256 + t.getD 3 0) * 256)]

/-- The query descriptor of `PB.QUERY` (R84). -/
structure PbQuery where
  lo : Nat
  hi : Nat
  term : Nat
  kinds : Nat
  tFrom : Word
  tTo : Word
  max : Nat

/-- The latest extended stage time at or before now with a 40-bit value (R447 item 1). -/
def State.lastAt (s : State) (t : Word) : Nat := s.ext - (s.ext + 2 ^ 40 - t.toNat) % 2 ^ 40

/-- Whether a record's stamp lies in a query's range. -/
def State.pbInRange (s : State) (q : PbQuery) (r : PbRec) : Bool :=
  decide (s.lastAt q.tFrom ≤ r.stamp) && decide (r.stamp ≤ s.lastAt q.tTo)

/-- Whether a record matches a query (R447 item 3) made with tenant `t` (R89). -/
def State.pbMatches (s : State) (q : PbQuery) (t : Nat) (r : PbRec) : Bool :=
  q.kinds.testBit (r.typ - 1) && r.typ != 0 && decide (q.lo ≤ r.tree) && decide (r.tree ≤ q.hi) && (q.term == 0x3FF || q.term == r.term) &&
    s.pbInRange q r && (t == 0 || (r.term != 0x3FF && s.rd Reg.Rng.TENANT [r.tree % 64, r.term] == t))

/-- Whether a record is still held, not overwritten (R443). -/
def State.pbHeld (s : State) (r : PbRec) : Bool := decide (s.xmem.pbPos ≤ r.pos + s.pbBytes)

/-- Whether a unit that a record lies in is bad (R438): a 32-byte record may lie in two. -/
def State.pbBad (s : State) (r : PbRec) : Option Nat :=
  let a := s.pbBase + r.pos % s.pbBytes
  [a / 32, (a + r.size - 1) / 32].find? (fun u => decide (u ∈ s.xmem.bad))

/-- The records that a scan meets before it stops, which it does behind its `max`th readable one (R447 item 4). -/
def scanned (bad : PbRec → Bool) : Nat → List PbRec → List PbRec
  | 0, _ => []
  | _, [] => []
  | k + 1, r :: rs => r :: scanned bad (if bad r then k + 1 else k) rs

/-- A query (R447): the words written to `DEST`, the `RESULT`, and the state with the bad records that the scan met counted. -/
def State.pbQuery (s : State) (q : PbQuery) (t : Nat) : List Word × Nat × State :=
  let held := (s.xmem.pb.filter (s.pbMatches q t)).filter s.pbHeld
  let bad := fun (r : PbRec) => (s.pbBad r).isSome
  let met := scanned bad q.max held
  let out := met.filter (fun r => !bad r)
  let s' := (met.filterMap s.pbBad).foldl (fun s u => (s.memUe (32 * u)).addTo Reg.Mem.PB_UE_SKIP [] 1) s
  ((out.map (fun r => packWords (recBytes r.size r.bits))).flatten,
    out.length + bit (decide (met.length < held.length)) * 2 ^ 24 +
    bit (s.xmem.pb.any (fun r => s.pbInRange q r && !s.pbHeld r)) * 2 ^ 25, s')

/-! ### The whole usable capacity, as the system program reaches it (R440, R441) -/

/-- The byte at an offset of the prompt book region (R443): the newest one written there, zero in a pad, open where nothing was written. -/
def State.pbByte (s : State) (o : Nat) : Nat :=
  if s.xmem.pbPos ≤ o then (Config.memInit s.xmem.epoch (s.pbBase + o)).toNat % 256
  else
    let l := o + (s.xmem.pbPos - 1 - o) / s.pbBytes * s.pbBytes
    match s.xmem.pb.find? (fun r => decide (r.pos ≤ l) && decide (l < r.pos + r.size)) with
    | some r => r.bits / 2 ^ (8 * (l - r.pos)) % 256
    | none => 0

/-- Reads word w of the usable capacity, the 40 low bits of its eight bytes: none where its unit is bad (R438). Flow counters, the prompt book and segment space hold what
they hold; how pool E's buffers and the image copies lie in theirs is open, and so is what they read as (log 156). -/
def State.rawRead (s : State) (w : Nat) : Option Word × State :=
  let b := s.segBase / 8
  if b ≤ w then s.segRead (w - b)
  else if w / 4 ∈ s.xmem.bad then (none, s.memUe (8 * w))
  else
    match s.xmem.raw.get? w with
    | some v => (some v, s)
    | none =>
      (some (if w < 2097152 then BitVec.ofNat 40 (s.xmem.flows.get w).toNat
      else if s.pbBase ≤ 8 * w then BitVec.ofNat 40 ((List.range 5).map (fun i => s.pbByte (8 * w - s.pbBase + i) * 256 ^ i)).sum
      else Config.memInit s.xmem.epoch (8 * w)), s)

/-- Writes word w of the usable capacity. -/
def State.rawWrite (s : State) (w : Nat) (v : Word) : State :=
  let b := s.segBase / 8
  if b ≤ w then s.segWrite (w - b) v
  else if w < 2097152 then { s with xmem := { s.xmem with flows := s.xmem.flows.set w v } }
  else { s with xmem := { s.xmem with raw := s.xmem.raw.put w v } }

end Sys2Proof.Machine
end

