-- ==== Sys2Proof/Machine/Operands.lean ====
section
/-! DEFINITION. The operand forms of Erten instructions (R63, R70), the local address map (R34), and the checks every instruction
goes through before its own operation (R23, R36, R64). -/

namespace Sys2Proof.Machine

/-- A word whose value the spec leaves open (log 3). -/
def State.freeWord (s : State) : Word × State := (Config.freeWord s.freeCtr, { s with freeCtr := s.freeCtr + 1 })

/-- Which fields an instruction uses (R63, R64): its registers, the bits of `imm` it gives a meaning, whether it is reserved to prompters (R23), and the listed
cycles that one refused for its encoding costs where its operation counts them itself (R65). -/
structure Use where
  wd : Bool := false
  wa : Bool := false
  wb : Bool := false
  mask : Nat := 0
  bad : Nat → Bool := fun _ => false
  prompter : Bool := false
  refusedCost : Nat := 0

/-- Whether every unused field and every reserved immediate bit is zero and no field has a reserved value (R64). -/
def Use.ok (u : Use) (f : Fields) : Bool :=
  (u.wd || f.wd == 0) && (u.wa || f.wa == 0) && (u.wb || f.wb == 0) && (f.imm.toNat ||| u.mask) == u.mask && !u.bad f.imm.toNat

/-- Raises an exception at the instruction in execution (R39, R49). -/
def State.raiseAt (s : State) (cx : Cx) (c : Ctx) (code sub : Nat) (addr : Word) (instr : Word) : State :=
  s.takeException cx c code sub c.pc addr instr false

/-- As `raiseAt`, where no address is concerned: `EADDR` is open. -/
def State.raiseFree (s : State) (cx : Cx) (c : Ctx) (code sub : Nat) (instr : Word) : State :=
  let (a, s) := s.freeWord
  s.raiseAt cx c code sub a instr

/-- The opcodes that R65 defines. -/
def definedOps : List Nat := 0x48 :: opTable.map Prod.fst

/-- What a fetch finds wrong at the program counter: `FAULT` subcause 0x03 outside the running image (R36), 0x07 on a word of instruction memory with an uncorrectable
error (R50), 0x01 on a word of the image with an undefined opcode, with the word itself (R64). -/
def State.fetchFault (s : State) (cx : Cx) (c : Ctx) : Option (Nat × Option Word) :=
  if c.icount ≤ c.pc then some (3, none)
  else if s.cpu.badCode.contains (cxKey cx * 2 ^ 17 + c.pc) then some (7, none)
  else
    match c.code[c.pc]? with
    | some w => if definedOps.contains (wordOp w) then none else some (1, some w)
    | none => none

/-- A fetch that fails (log 108): no instruction has executed, so no cycles are counted. -/
def State.raiseFetch (s : State) (cx : Cx) (c : Ctx) (x : Nat × Option Word) : State :=
  match x.2 with
  | some w => s.raiseFree cx c 0x7E x.1 w
  | none =>
    let (i, s) := s.freeWord
    s.raiseAt cx c 0x7E x.1 (BitVec.ofNat 40 c.pc) i

/-- What every instruction does first: nothing in a context that does not run (log 10); a fetch that fails faults (R36, R50, R64); a bad
encoding faults (R64); a prompter instruction elsewhere is denied (R23; the encoding is judged first, log 11). Its cycles are counted (R65). -/
def erten (op : Nat) (u : Use) (cost : Nat) (cx : Cx) (f : Fields) (body : Ctx → State → State) (s : State) : State :=
  match s.ctx? cx with
  | none => s
  | some c0 =>
    if !c0.runs || !s.onCore cx then s
    else
      let w := ertenWord op f
      let c := { c0 with cycles := c0.cycles + cost }
      match s.fetchFault cx c0 with
      | some x => s.raiseFetch cx c0 x
      | none =>
        if !u.ok f then s.raiseFree cx { c with cycles := c.cycles + u.refusedCost } 0x7E 1 w
        else if u.prompter && c.tree?.isNone then s.raiseFree cx c 0x7F 1 w
        else body c s

/-- An instruction that writes one register from the context's registers and goes on. -/
def writeReg (cx : Cx) (f : Fields) (g : Ctx → Word) (c : Ctx) (s : State) : State :=
  s.putCtx cx ((c.setReg f.wd.toNat (g c)).advance)

/-- The first source register. -/
def Ctx.a (c : Ctx) (f : Fields) : Word := c.reg f.wa.toNat
/-- The second source register. -/
def Ctx.b (c : Ctx) (f : Fields) : Word := c.reg f.wb.toNat
/-- The third source register. -/
def Ctx.c3 (c : Ctx) (f : Fields) : Word := c.reg f.wc

/-- A denied access of a context (R28): the issuing tenant's counter, and the event at most once per millisecond per context. -/
def State.denied (s : State) (cx : Cx) (c : Ctx) (addr : Nat) : State :=
  s.deniedBy cx false c.tenant addr

/-! ### Local addresses (R34) -/

/-- Where a local address leads: a word of data memory, of the tree state window, of external segment space (its word index), of the whole usable capacity (likewise). -/
inductive Place' where
  | data (a : Nat)
  | window (z a : Nat)
  | seg (w : Nat)
  | raw (w : Nat)
  | outside
deriving DecidableEq, Repr

/-- The local address map of a context (R34). The segments of a script lie in segment space, those of the system context anywhere in the usable capacity (R440, R441). -/
def Ctx.place (c : Ctx) (a : Nat) : Place' :=
  if a < c.dwords then .data a
  else
    match c.kind with
    | .prompter z => if 0x100000 ≤ a ∧ a ≤ 0x10FFFF then .window z (a - 0x100000) else .outside
    | _ =>
      if 0x100000000 ≤ a ∧ a < 0x100000000 + 16 * 0x10000000 then
        let o := (a - 0x100000000) % 0x10000000
        match c.segs.find? (fun g => g.1 == (a - 0x100000000) / 0x10000000) with
        | some (_, g0, n) => if o < n * 8192 then (if c.kind = .system then .raw (g0 * 8192 + o) else .seg (g0 * 8192 + o)) else .outside
        | none => .outside
      else .outside

/-- The external segment that a local address of segment space lies in (R34). -/
def segNo (a : Nat) : Nat := (a - 0x100000000) / 0x10000000

/-- Whether every word of `[a, a + n)`, n below 2^28, lies in the context's map: the words of one memory, of one segment, or of two segments that abut, the
lower one of the full 2^28 words. -/
def Ctx.covers (c : Ctx) (a n : Nat) : Bool :=
  let b := a + n - 1
  (c.place a != .outside) && (n ≤ 1 || (c.place b != .outside && match c.place a, c.place b with
    | .data _, .data _ => true
    | .window _ _, .window _ _ => true
    | .seg _, .seg _ | .raw _, .raw _ => segNo a == segNo b || (segNo b == segNo a + 1 && c.place (segNo b * 0x10000000 + 0xFFFFFFFF) != .outside)
    | _, _ => false))

/-- The object address of a word of external segment space (R441). -/
def segObj (w : Nat) : Nat := 0x0C * 2 ^ 34 + w

/-- Whether an object lies in a region open to every reader (R27). -/
def State.publicRead (s : State) (addr : Nat) : Bool :=
  match regionOf s addr with | some n => s.flag Reg.Aut.PUBLIC_RD [n] | none => false

/-- Whether a context may touch a word of external segment space (R27, R35): its granule's tag against the context's tenant, or for a read a public region. -/
def State.segAllowed (s : State) (c : Ctx) (w : Nat) (write : Bool) : Bool :=
  c.tenant == 0 || s.rd Reg.Mem.G_TENANT [w / 8192] == c.tenant || (!write && s.publicRead (segObj w))

/-- What refuses an access to a word of external segment space: its granule's tag (R27), memory that is not open or has no such word (R436, R441). -/
def State.segRefuses (s : State) (c : Ctx) (w : Nat) (write : Bool) : Option (Nat × Nat) :=
  if !s.segAllowed c w write then some (0x7F, 2)
  else if !s.flag Reg.Mem.MEM_OPEN [] || decide (s.segWords ≤ w) then some (0x7F, 6)
  else none

/-- What refuses the system program an access to a word of the usable capacity (R436, R441). -/
def State.rawRefuses (s : State) (w : Nat) : Option (Nat × Nat) :=
  if !s.flag Reg.Mem.MEM_OPEN [] || decide (s.memBytes ≤ 8 * w) then some (0x7F, 6) else none

/-- Reads a local word: the word, or the exception's code and subcause; a word of data memory with an uncorrectable error gives `FAULT` subcause 0x07 (R50). -/
def State.localRead (s : State) (cx : Cx) (c : Ctx) (a : Nat) : Except (Nat × Nat) Word × State :=
  match c.place a with
  | .data a => if s.cpu.badData.contains (memBase cx + a) then (.error (0x7E, 7), s) else (.ok (s.dataWord cx a), s)
  | .window z a => (.ok (s.cpu.win.get (z * 2 ^ 16 + a)), s)
  | .seg w =>
    match s.segRefuses c w false with
    | some x => (.error x, s)
    | none =>
      match s.segRead w with
      | (some v, s) => (.ok v, s)
      | (none, s) => (.error (0x31, 0), s)
  | .raw w =>
    match s.rawRefuses w with
    | some x => (.error x, s)
    | none =>
      match s.rawRead w with
      | (some v, s) => (.ok v, s)
      | (none, s) => (.error (0x31, 0), s)
  | .outside => (.error (0x7E, 2), s)

/-- Writes a local word: none, or the exception's code and subcause. A whole word written is good again (R50, log 84). -/
def State.localWrite (s : State) (cx : Cx) (c : Ctx) (a : Nat) (v : Word) : Option (Nat × Nat) × State :=
  match c.place a with
  | .data a => (none, s.setDataWord cx a v)
  | .window z a => (none, { s with cpu := { s.cpu with win := s.cpu.win.set (z * 2 ^ 16 + a) v } })
  | .seg w =>
    match s.segRefuses c w true with
    | some x => (some x, s)
    | none => (none, s.segWrite w v)
  | .raw w =>
    match s.rawRefuses w with
    | some x => (some x, s)
    | none => (none, s.rawWrite w v)
  | .outside => (some (0x7E, 2), s)

end Sys2Proof.Machine
end

