-- ==== Sys2Proof/Machine/Port.lean ====
section
/-! DEFINITION. PON ports: modes and rates (R117–R124, R133, R186), presets (R134–R138), control messages (R144, R157), terminal states (R155–R157),
rogue evidence (R174). -/

namespace Sys2Proof.Machine

/-! ### Trees, modes and rates -/

/-- A tree's record before anything has happened on it. -/
def emptyTree : Tree :=
  { sheet := [], sealed := false, late := false, fixed := none, standing := [], carried := [], wins := [], bursts := [], dig := [], ctrl := [],
    ticketNow := none, ticketPrev := none, evidence := [], kinds := 0, suspects := [],
    iso := { on := false, cands := [], test := [], rest := [], dirty := false, attributed := false, watch := 0 }, found := [], tailQ := [], syncs := [], shadow := [], seen := [], offs := [] }

/-- The record of tree z. -/
def State.tree (s : State) (z : Nat) : Tree := (s.trees.get? z).getD emptyTree

/-- Stores the record of tree z. -/
def State.putTree (s : State) (z : Nat) (t : Tree) : State := { s with trees := s.trees.put z t }

/-- Changes the record of tree z. -/
def State.modTree (s : State) (z : Nat) (f : Tree → Tree) : State := s.putTree z (f (s.tree z))

/-- The port's mode (R117). -/
def State.mode (s : State) (p : Nat) : Nat := s.rd Reg.Pon.MODE [p]
/-- Head role (R117). -/
def State.head (s : State) (p : Nat) : Bool := s.mode p != 0 && !s.flag Reg.Pon.ROLE [p]
/-- Tail role (R117). -/
def State.tail (s : State) (p : Nat) : Bool := s.mode p != 0 && s.flag Reg.Pon.ROLE [p]
/-- An EPON mode. -/
def eponMode (m : Nat) : Bool := m == 3 || m == 4
/-- A port in an EPON mode. -/
def State.isEpon (s : State) (p : Nat) : Bool := eponMode (s.mode p)
/-- n of C_z = n × 125 µs (R182): 1 in ITU modes. -/
def State.cycleN (s : State) (z : Nat) : Nat := if s.isEpon z then s.rd Reg.Cue.GATE_CYCLE [z] else 1
/-- The frame or GATE cycle in ticks (R182). -/
def State.cycleTicks (s : State) (z : Nat) : Nat := s.cycleN z * 777600
/-- The even port of a bonded pair at 50/50, whose two channels both carry bursts (R124, R187). -/
def State.twoChannels (s : State) (z : Nat) : Bool := s.flag Reg.Pon.BOND [z] && s.rd Reg.Pon.UP_RATE [z] == 2

/-- One upstream rate (R133, R161, R186): ticks per unit as a fraction, units per frame (0 for time quanta), H long and short, delimiter ticks, discovery
burst length in 1/100 µs, ticks per bit as a fraction, guard, long and short preamble in bits. -/
structure Rate where
  uNum : Nat
  uDen : Nat
  upf : Nat
  hLong : Nat
  hShort : Nat
  dt : Nat
  b100 : Nat
  bNum : Nat
  bDen : Nat
  guard : Nat
  long : Nat
  short : Nat

/-- The rate of an upstream mode and `UP_RATE` (R117). -/
def rateOf (mode up : Nat) : Rate :=
  if mode = 1 ∧ up = 2 then ⟨4, 1, 194400, 450, 130, 8, 66, 1, 8, 1536, 12800, 2560⟩
  else if mode = 1 ∧ up = 1 then ⟨8, 1, 97200, 226, 66, 16, 98, 1, 4, 768, 6400, 1280⟩
  else if mode = 1 then ⟨16, 1, 48600, 114, 34, 32, 162, 1, 2, 384, 3200, 640⟩
  else if mode = 3 ∧ up ≠ 0 then ⟨995328, 10000, 0, 19, 6, 16, 90, 124416, 515625, 792, 6600, 1320⟩
  else if mode = 3 ∨ mode = 4 then ⟨995328, 10000, 0, 19, 6, 40, 60, 62208, 103125, 330, 2640, 528⟩
  else ⟨20, 1, 38880, 92, 28, 40, 50, 5, 8, 320, 2560, 512⟩

/-- The upstream rate of a port. -/
def State.rate (s : State) (p : Nat) : Rate := rateOf (s.mode p) (s.rd Reg.Pon.UP_RATE [p])

/-- Units per frame (R186). -/
def State.unitsPerFrame (s : State) (z : Nat) : Nat :=
  if (s.rate z).upf = 0 then s.cycleN z * 15625 / 2 else (s.rate z).upf

/-- Units in ticks, rounded to the nearest tick (R186). -/
def Rate.ticks (r : Rate) (u : Nat) : Nat := (2 * u * r.uNum + r.uDen) / (2 * r.uDen)

/-- The 32-bit MPCP time of a moment of extended stage time (R165, R205): time quanta of 16 ns since stage time 0 (DEDUCED, log 120). -/
def mpcpTime (t : Nat) : Nat := t * 10000 / 995328 % 2 ^ 32

/-- Bits in ticks, rounded down: R164 gives no rounding for `EQD_RTT` and `R_MEAS` (DESIGN CHOICE, log 121). -/
def Rate.bitTicks (r : Rate) (b : Nat) : Nat := b * r.bNum / r.bDen

/-- Ticks in bits, rounded down (R159). -/
def Rate.tickBits (r : Rate) (t : Nat) : Nat := t * r.bDen / r.bNum

/-- Whether a port carries a value of `UP_RATE` for a mode (R117, R124). -/
def rateDefined (mode up : Nat) (bonded : Bool) : Bool :=
  match mode with
  | 1 => decide (up ≤ 2)
  | 3 => decide (up ≤ 1) || (up == 2 && bonded)
  | _ => up == 0

/-- Ranging's r_lo and r_hi (R159): `L_MIN`, `L_MAX` in 100 m; 6,096.384 ticks each. -/
def rLo (lmin : Nat) : Nat := lmin * 6096384 / 1000
/-- The farthest round trip allowed. -/
def rHi (lmax : Nat) : Nat := (lmax * 6096384 + 999) / 1000
/-- D_pre in ticks (R159). -/
def State.dPre (s : State) (z : Nat) : Nat := s.rd Reg.Rng.EQD_ZERO [z] - rLo (s.rd Reg.Rng.L_MIN [z])
/-- B in ticks, rounded up (R161). -/
def Rate.bTicks (r : Rate) : Nat := (r.b100 * 62208 + 999) / 1000
/-- The discovery window (R161). -/
def State.discW (s : State) (z : Nat) : Nat :=
  (rHi (s.rd Reg.Rng.L_MAX [z]) - rLo (s.rd Reg.Rng.L_MIN [z])) + usTicks (s.rd Reg.Rng.RAND_US [z]) + (s.rate z).bTicks
/-- The ranging window (R161). -/
def State.rangeW (s : State) (z : Nat) : Nat :=
  (rHi (s.rd Reg.Rng.L_MAX [z]) - rLo (s.rd Reg.Rng.L_MIN [z])) + (s.rate z).bTicks

/-- Whether the clock of the PON SerDes is locked (R503). -/
def State.ponClock (s : State) : Bool := !(s.rd Reg.Pwr.PLL_STAT []).testBit 0

/-! ### Balls (R126) -/

/-- An edge on a sideband ball lies on the `CORE` cycle grid of 4 ticks (R126): at the grid point before it, where a rule's own time lies between two (DESIGN
CHOICE, log 103). -/
def State.edge (s : State) (b : Pin) (p level at' : Nat) : State := s.emit (.pin b p level (at' / 4 * 4))

/-! ### Presets -/

/-- A preset's settings as they stand (R134). -/
def State.presetNow (s : State) (z t : Nat) : Preset :=
  { gain := s.rd Reg.Pon.GAIN [z, t], thr := s.rd Reg.Pon.THR [z, t], phase := s.rd Reg.Pon.PHASE [z, t], seed := s.rd Reg.Pon.EQ_SEED [z, t] }

/-- The preamble of a profile in ticks. -/
def Rate.preTicks (r : Rate) (long : Bool) : Nat := r.bitTicks (if long then r.long else r.short)

/-- Presets reach the arming queue 1,245 ticks before their bursts' preambles start (R135): every window whose time has come is armed with its preset's settings. -/
def State.armDue (s : State) (z : Nat) : State :=
  s.modTree z (fun tr => { tr with wins := tr.wins.map (fun w =>
    if w.armed.isNone && decide (w.p ≤ s.ext + (s.rate z).preTicks w.long + 1245) then { w with armed := some (s.presetNow z w.preset) } else w) })

/-- The arming queue (R135): the windows that hold their settings, in order of P. -/
def State.armingQueue (s : State) (z : Nat) : List Win := (s.tree z).wins.filter (fun w => w.armed.isSome)

/-- A terminal's refined settings reach its next burst, where that is armed and its preamble has not started (R136). -/
def State.refreshArmed (s : State) (z t : Nat) : State :=
  s.modTree z (fun tr => { tr with wins := tr.wins.map (fun w =>
    if w.armed.isSome && w.kind == .grant && w.term == t && decide (s.ext < w.p - (s.rate z).preTicks w.long) then { w with armed := some (s.presetNow z t) } else w) })

/-- Clears the `VALID` bit of a terminal's preset; the stored values stay (R138). -/
def State.clearPreset (s : State) (z t : Nat) : State := if t < 1020 then s.wr Reg.Pon.VALID [z, t] 0 else s

/-- Whether a terminal's preset is valid. -/
def State.presetValid (s : State) (z t : Nat) : Bool := s.flag Reg.Pon.VALID [z, t]

/-- Clamps a number to a fence: the value, and 0 for unclamped, 1 where the loop wanted lower, 2 where it wanted higher. -/
def clamp (lo hi v : Int) : Int × Nat := if v < lo then (lo, 1) else if hi < v then (hi, 2) else (v, 0)

/-- A field of `w` bits read as two's complement. -/
def signed (w v : Nat) : Int := if v % 2 ^ w < 2 ^ (w - 1) then (v % 2 ^ w : Nat) else (v % 2 ^ w : Nat) - (2 ^ w : Nat)

/-- A signed number in `w` bits. -/
def unsigned (w : Nat) (v : Int) : Nat := (v % (2 ^ w : Nat)).toNat

/-- One variable of the adaptive loop has been updated (R137): consecutive clamps are counted, and at `FENCE_CNT` `FENCED` is raised once per run. -/
def State.fence (s : State) (p t var dir : Nat) : State :=
  if dir = 0 then (s.wr Reg.Hid.FENCE_RUN [p, t, var] 0).wr Reg.Hid.FENCED_SET [p, t, var] 0
  else
    let s := (s.bump Reg.Hid.FENCE_RUN [p, t, var]).bump Reg.Hid.FENCE_CLAMPS [p, t, var]
    if s.rd Reg.Pon.FENCE_CNT [p] ≤ s.rd Reg.Hid.FENCE_RUN [p, t, var] ∧ !s.flag Reg.Hid.FENCED_SET [p, t, var] then
      (s.wr Reg.Hid.FENCED_SET [p, t, var] 1).raise 0x60 (Reg.Pon.GAIN.addr [p, t]) [0, var, dir - 1, 0]
    else s

/-- The refined values written back to a preset within the fences (R136, R137). -/
def State.writeback (s : State) (p t gain thr phase seed : Nat) : State :=
  let (g, gd) := clamp (s.rd Reg.Pon.GAIN_MIN [p]) (s.rd Reg.Pon.GAIN_MAX [p]) (gain % 256 : Nat)
  let (h, hd) := clamp (signed 10 (s.rd Reg.Pon.THR_MIN [p])) (signed 10 (s.rd Reg.Pon.THR_MAX [p])) (signed 10 thr)
  let lim : Int := (s.rd Reg.Pon.TAP_LIM [p] : Nat)
  let taps := (List.range 4).map (fun i => clamp (-lim) lim (signed 8 (seed / 2 ^ (8 * i))))
  let eq := packBits (taps.map (fun x => (8, unsigned 8 x.1)))
  let s := (((((s.wr Reg.Pon.GAIN [p, t] g.toNat).wr Reg.Pon.THR [p, t] (unsigned 10 h)).wr Reg.Pon.PHASE [p, t] phase).wr Reg.Pon.EQ_SEED [p, t] eq).wr
    Reg.Pon.VALID [p, t] 1).addTo Reg.Pon.REFINES [p, t] 1
  let s := (s.fence p t 0 gd).fence p t 1 hd
  (taps.zipIdx).foldl (fun s x => s.fence p t (2 + x.2) x.1.2) s

/-! ### Control messages (R144, R157) -/

/-- The two forms of Disable_Serial_Number are one kind of message. -/
def sameKind (a b : CtrlKind) : Bool :=
  a == b || ((a == .snDisable || a == .snEnable) && (b == .snDisable || b == .snEnable))

/-- Originates a control message: it goes out in the next lit downstream frame; while the port is dark it is held, one of each kind per terminal. -/
def State.originate (s : State) (z : Nat) (k : CtrlKind) (t : Nat) (args : List Nat) : State :=
  let m : Ctrl := { kind := k, term := t, args := args }
  s.modTree z (fun tr =>
    let old := if s.flag Reg.Pon.LIT [z] then tr.ctrl else tr.ctrl.filter (fun c => !(sameKind c.kind k && c.term == t))
    { tr with ctrl := old ++ [m] })

/-- A message of the ITU modes; EPON silencing and deregistration are software's (R158). -/
def State.ploam (s : State) (z : Nat) (k : CtrlKind) (t : Nat) (args : List Nat) : State :=
  if s.isEpon z then s else s.originate z k t args

/-! ### Terminal states (R155–R157) -/

/-- The states of R155. -/
def stIDLE : Nat := 0
/-- Serial number known. -/
def stSN_KNOWN : Nat := 1
/-- Ranging. -/
def stRANGING : Nat := 2
/-- In service. -/
def stACTIVE : Nat := 3
/-- Bursts have stopped. -/
def stLOST : Nat := 4
/-- Held silent. -/
def stDISABLED : Nat := 5

/-- The state of terminal t of tree z. -/
def State.term (s : State) (z t : Nat) : Nat := s.rd Reg.Rng.STATE [z, t]

/-- The fields of a terminal's record that the device itself changes and a pair holds as one (R181, R233): all but the drift averages, which each unit has of its own. -/
def termFields : List Field :=
  [Reg.Rng.ADMIN, Reg.Rng.STATE, Reg.Rng.TENANT, Reg.Rng.DISABLE, Reg.Rng.ROGUE_HELD, Reg.Rng.RSSI_REQ, Reg.Rng.PWR_BUSY, Reg.Rng.REG_SEEN, Reg.Rng.EQD_RTT,
   Reg.Rng.R_MEAS, Reg.Rng.MISSED, Reg.Rng.RANGE_TRY, Reg.Rng.ACT_STAMP]

/-- Word `i` of a terminal's record, as the copying message carries it. -/
def State.termWord (s : State) (z t i : Nat) : Nat :=
  ((termFields.filter (fun f => f.base == 0x1000 + i)).map (fun f => s.rd f [z, t] * 2 ^ f.lo)).sum

/-- The unit that lights a tree of a graft-understudy pair mirrors what it changes in a terminal's record, word by word (R181, R233, R257). -/
def State.tellTerm (s : State) (z t : Nat) : State :=
  if s.rd Reg.Bar.PAIRING [] = 2 ∧ !s.understudy z then
    [0, 4, 5, 6, 7].foldl (fun s i => s.emit (.twin 4 [0xC0, Reg.Rng.ADMIN.addr [z, t] + i, s.termWord z t i])) s
  else s

/-- The device changes a field of a terminal's record. -/
def State.setTerm (s : State) (f : Field) (z t v : Nat) : State := if s.rd f [z, t] = v then s else (s.wr f [z, t] v).tellTerm z t

/-- Enters a state: entries to `IDLE`, `RANGING` and `DISABLED` clear the preset's `VALID` bit; `ACT_STAMP` keeps the entry to `ACTIVE`; the time of entry is kept for `LOST_TO`;
a drift correction that waits for its Acknowledge is given up where the terminal leaves service. -/
def State.enter (s : State) (z t st : Nat) : State :=
  let s := (s.wr Reg.Rng.STATE [z, t] st).wr Reg.Hid.TERM_SINCE [z, t] s.ext
  let s := if st = stIDLE ∨ st = stRANGING ∨ st = stDISABLED then s.clearPreset z t else s
  let s := if st = stIDLE ∨ st = stDISABLED then (s.wr Reg.Rng.RANGE_TRY [z, t] 0).wr Reg.Rng.MISSED [z, t] 0 else s
  let s := if st = stIDLE ∨ st = stRANGING ∨ st = stDISABLED then s.wr Reg.Hid.DRIFT_SENDS [z, t] 0 else s
  let s := if st = stACTIVE then ((s.wr Reg.Rng.ACT_STAMP [z, t] s.now).wr Reg.Rng.RANGE_TRY [z, t] 0).wr Reg.Rng.MISSED [z, t] 0 else s
  s.tellTerm z t

/-- Active for grants (R156). -/
def State.active (s : State) (z t : Nat) : Bool :=
  s.flag Reg.Rng.ADMIN [z, t] && (s.term z t == stACTIVE || s.term z t == stLOST)

/-- An allocation is in use (R189). -/
def State.allocUsed (s : State) (z a : Nat) : Bool :=
  decide (a < 4096) && s.flag Reg.Cue.EN [z, a] && s.active z (s.rd Reg.Cue.TERM [z, a])

/-- The terminal's record as an object (R181). -/
def termObj (z t : Nat) : Nat := Reg.Rng.ADMIN.addr [z, t]

/-- The unit that lights a tree acts on R157 to R176; an understudy does not (R170, R181). -/
def State.lights (s : State) (z : Nat) : Bool := !s.understudy z

/-- A terminal is deactivated (R157). -/
def State.deactivate (s : State) (z t : Nat) : State := (s.enter z t stIDLE).ploam z .deactivate t []

/-- Disable_Serial_Number, disable (R157, R175). -/
def State.silence (s : State) (z t : Nat) : State :=
  (s.enter z t stDISABLED).ploam z .snDisable t [s.rd Reg.Rng.SN_HI [z, t], s.rd Reg.Rng.SN_LO [z, t]]

/-- Disable_Serial_Number, enable: the terminal must go through discovery and ranging again. -/
def State.unsilence (s : State) (z t : Nat) : State :=
  (s.enter z t stIDLE).ploam z .snEnable t [s.rd Reg.Rng.SN_HI [z, t], s.rd Reg.Rng.SN_LO [z, t]]

/-! ### Evidence (R174) -/

/-- The kinds of rogue evidence, as bit numbers of the mask an event carries. -/
inductive Evid where
  | energy | wrongId | inactiveId | overrun | snDuplicate
deriving DecidableEq, Repr

/-- The bit of a kind of evidence. -/
def Evid.bitNo : Evid → Nat
  | .energy => 0 | .wrongId => 1 | .inactiveId => 2 | .overrun => 3 | .snDuplicate => 4

/-- Evidence is seen in the present frame; what an understudy sees is never evidence (R20, R255). -/
def State.evidence (s : State) (z : Nat) (k : Evid) (t : Option Nat) : State :=
  if s.understudy z then s
  else s.modTree z (fun tr =>
    { tr with kinds := tr.kinds ||| 2 ^ k.bitNo
              suspects := match t with | some n => if n ∈ tr.suspects then tr.suspects else tr.suspects ++ [n] | none => tr.suspects
              iso := { tr.iso with dirty := true } })

/-- A burst with a good header names terminal `t`, which the window was not granted to (R174, R177). -/
def State.namedOther (s : State) (z t : Nat) : State :=
  let s := s.evidence z .wrongId (some t)
  if t < 1020 ∧ !s.active z t then
    let s := s.evidence z .inactiveId (some t)
    if !s.flag Reg.Rng.ADMIN [z, t] && !s.understudy z then s.raise 0x70 (termObj z t) [s.rd Reg.Rng.ADMIN [z, t], s.term z t] else s
  else s

/-! ### Defects (R151) -/

/-- A port as an object. -/
def portObj (p : Nat) : Nat := Reg.Pon.MODE.addr [p]

/-- Sets or clears a defect: each change latches its sticky bit and raises `PORT_DEFECT` (R151, R152). -/
def State.defect (s : State) (p i : Nat) (v : Bool) : State :=
  let d := s.rd Reg.Pon.DEFECT [p]
  if d.testBit i = v then s
  else
    let s := (s.wr Reg.Pon.DEFECT [p] (if v then d + 2 ^ i else d - 2 ^ i)).wr Reg.Pon.DEFECT_STICKY [p] (s.rd Reg.Pon.DEFECT_STICKY [p] ||| 2 ^ i)
    s.raise 0x90 (portObj p) [i, bit v]

end Sys2Proof.Machine
end

