-- ==== Sys2Proof/Machine/Ranging.lean ====
section
/-! DEFINITION. Activation, ranging, drift, power levelling and rogue isolation (R154–R180): the events of chapter 6 and the consumed
control messages of the head role. -/

namespace Sys2Proof.Machine

/-- The outcome of a meaning that completes. -/
abbrev Out' := Host.Outcome State Fault Refusal

/-- Whether tree z takes part in ranging: a head-role port below 64 that this unit may act for. -/
def State.ranges (s : State) (z : Nat) : Bool := decide (z < 64) && s.head z && s.lights z

/-! ### Discovery -/

/-- The record whose serial number or MAC address matches (R157, R158). -/
def State.recordOf (s : State) (z hi lo : Nat) : Option Nat :=
  (s.listed Reg.Rng.SN_LO [z] ++ s.listed Reg.Rng.SN_HI [z]).find? (fun t =>
    decide (t < 1020) && s.rd Reg.Rng.SN_HI [z, t] == hi && s.rd Reg.Rng.SN_LO [z, t] == lo)

/-- The front discovery response leaves the queue, with the time its delimiter arrived. -/
def State.takeFound (s : State) (z : Nat) : Option (Nat × Candidate × State) :=
  match (s.tree z).found with
  | (at', c) :: rest => some (at', c, s.modTree z (fun tr => { tr with found := rest }))
  | [] => none

/-- A response that matches no record, or one not admitted (R157). -/
def State.snUnknown (s : State) (z : Nat) (c : Candidate) (known : Bool) (t : Nat) : State :=
  (s.addTo Reg.Rng.SN_UNKNOWN_CNT [z] 1).raise 0x94 (if known then termObj z t else portObj z)
    (if known then [c.snHi, c.snLo, 1] else [c.snHi, c.snLo])

/-- The terminal's serial number matches: Assign_ONU-ID (R157). -/
def State.assign (s : State) (z t : Nat) : State :=
  s.ploam z .assignOnuId t [t, s.rd Reg.Rng.SN_HI [z, t], s.rd Reg.Rng.SN_LO [z, t]]

/-- The frame of a tree that runs at a moment of extended stage time up to the present one. -/
def State.frameAt (s : State) (z t : Nat) : Nat :=
  let c := s.cycleTicks z
  s.rd Reg.Cue.FRAME [z] - (s.rd Reg.Hid.F_EXT [z] + c - 1 - t) / c

/-- A burst with a good header of terminal `t` lay in frame `k`: the frames of the last ones are kept, the newest and which of the seven before it (R162). -/
def State.goodIn (s : State) (z t k : Nat) : State :=
  let n := s.rd Reg.Hid.GOOD_AT [z, t]
  let h := s.rd Reg.Hid.GOOD_HIST [z, t]
  if n = 0 ∨ n + 7 < k + 1 then (s.wr Reg.Hid.GOOD_AT [z, t] (k + 1)).wr Reg.Hid.GOOD_HIST [z, t] 1
  else if n ≤ k + 1 then (s.wr Reg.Hid.GOOD_AT [z, t] (k + 1)).wr Reg.Hid.GOOD_HIST [z, t] (h * 2 ^ (k + 1 - n) ||| 1)
  else if n ≤ k + 8 then s.wr Reg.Hid.GOOD_HIST [z, t] (h ||| 2 ^ (n - (k + 1)))
  else s

/-- Whether a burst with a good header of terminal `t` lay in frame `k` (R162). -/
def State.wasGoodIn (s : State) (z t k : Nat) : Bool :=
  let n := s.rd Reg.Hid.GOOD_AT [z, t]
  decide (k + 1 ≤ n) && decide (n ≤ k + 8) && (s.rd Reg.Hid.GOOD_HIST [z, t]).testBit (n - (k + 1))

/-- `SERIAL_NUMBER_ONU` (R157, R162): the front discovery response is matched against the records of an ITU tree. One that matches a
record in `DISABLED`, for which R157 has no row, changes nothing (DESIGN CHOICE, log 145). -/
def execSerialNumberOnu (z : Nat) (s : State) : Out' :=
  if !s.ranges z || s.isEpon z then .next s
  else
    match s.takeFound z with
    | none => .next s
    | some (at', c, s) =>
      match s.recordOf z c.snHi c.snLo with
      | none => .next (s.snUnknown z c false 0)
      | some t =>
        let st := s.term z t
        if st = stIDLE then
          if s.flag Reg.Rng.ADMIN [z, t] then .next (((s.enter z t stSN_KNOWN).assign z t).raise 0x93 (termObj z t) [])
          else .next (s.snUnknown z c true t)
        else if st = stSN_KNOWN ∨ st = stRANGING then .next (s.assign z t)
        else if st = stACTIVE ∨ st = stLOST then
          -- a good burst in the response's frame or the one before: two terminals carry the number (R162)
          let k := s.frameAt z at'
          if s.wasGoodIn z t k || (k != 0 && s.wasGoodIn z t (k - 1)) then .next (s.evidence z .snDuplicate (some t))
          else .next ((s.enter z t stSN_KNOWN).assign z t)
        else .next s

/-- The round trip of a REGISTER_REQ in ticks (R165): the MPCP time of its delimiter's arrival less the timestamp it carries. -/
def State.roundTrip (s : State) (z at' ts : Nat) : Nat := (s.rate z).ticks ((mpcpTime at' + (2 ^ 32 - ts % 2 ^ 32)) % 2 ^ 32)

/-- The terminal's skew between the channels of a bonded pair is within bounds or not (R125). -/
def State.skewSeen (s : State) (z t skew : Nat) : State :=
  if !s.flag Reg.Pon.BOND [z] then s
  else
    let s := s.wr Reg.Hid.SKEW [z, t] skew
    if s.rd Reg.Pon.BOND_SKEW_MAX [z] < skew then
      let s := s.wr Reg.Hid.SKEW_GOOD [z, t] 0
      if s.flag Reg.Hid.SKEW_HELD [z, t] then s
      else ((s.wr Reg.Hid.SKEW_HELD [z, t] 1).addTo Reg.Hid.SKEW_EVENTS [z] 1).raise 0x91 (termObj z t) [skew]
    else if s.flag Reg.Hid.SKEW_HELD [z, t] then
      let n := s.rd Reg.Hid.SKEW_GOOD [z, t] + 1
      if 64 ≤ n then (s.wr Reg.Hid.SKEW_HELD [z, t] 0).wr Reg.Hid.SKEW_GOOD [z, t] 0 else s.wr Reg.Hid.SKEW_GOOD [z, t] n
    else s

/-- `REGISTER_REQ` (R125, R158, R165): an EPON registration request is matched by MAC address, its round trip and, on a bonded pair, its skew measured, and REGISTER
sent. -/
def execRegisterReq (z : Nat) (s : State) : Out' :=
  if !s.ranges z || !s.isEpon z then .next s
  else
    match s.takeFound z with
    | none => .next s
    | some (at', c, s) =>
      match s.recordOf z c.snHi c.snLo with
      | none => .next (s.snUnknown z c false 0)
      | some t =>
        if s.term z t ≠ stIDLE then .next s
        else if !s.flag Reg.Rng.ADMIN [z, t] then .next (s.snUnknown z c true t)
        else
          let e := s.rd Reg.Rng.EQD_ZERO [z]
          let rtt := s.roundTrip z at' c.ts
          if e < rtt ∨ rtt + 2438553 < e then .next (s.raise 0x96 (termObj z t) [rtt])
          else
            let s := (((s.enter z t stRANGING).wr Reg.Rng.EQD_RTT [z, t] rtt).wr Reg.Rng.R_MEAS [z, t] rtt).skewSeen z t c.skew
            .next (s.originate z .register t [s.rd Reg.Cue.ALLOC_ID [z, s.rd Reg.Rng.DEF_ALLOC [z, t]]])

/-- `REGISTER_ACK` (R158): the terminal becomes active. -/
def execRegisterAck (z t : Nat) (s : State) : Out' :=
  if s.ranges z && s.isEpon z && decide (t < 1020) && s.term z t == stRANGING then .next ((s.enter z t stACTIVE).raise 0x95 (termObj z t) [])
  else .next s

/-! ### Ranging -/

/-- The first window of a kind, and the others in order. -/
def takeWin (k : EntKind) : List Win → Option (Win × List Win)
  | [] => none
  | w :: ws => if w.kind = k then some (w, ws) else
      match takeWin k ws with
      | some (v, r) => some (v, w :: r)
      | none => none

/-- The front window of a kind leaves the tree's list, and stage time reaches `w.fin` or its start. -/
def State.popWin (s : State) (z : Nat) (k : EntKind) : Option (Win × State) :=
  match takeWin k (s.tree z).wins with
  | some (w, ws) => some (w, s.modTree z (fun tr => { tr with wins := ws }))
  | none => none

/-- The burst reset of a burst whose guard starts at `g` (R127). -/
def State.brstAt (s : State) (z g : Nat) : State := (s.edge .brst z 1 g).edge .brst z 0 (g + s.rd Reg.Pon.BRST_LEN [z])

/-- A discovery or ranging window ends on a unit that does not light the tree: an understudy judges nothing in it (R255). -/
def State.passWindow (s : State) (z : Nat) (k : EntKind) : State :=
  if decide (z < 64) && s.head z && !s.lights z then
    match s.popWin z k with
    | some (w, s) => (s.advanceTo w.fin).brstAt z w.p
    | none => s
  else s

/-- When the delimiter of a candidate of a window arrives. -/
def State.candAt (s : State) (z : Nat) (w : Win) (c : Candidate) : Nat := w.p + (s.rate z).bitTicks c.x

/-- Candidates that score as delimiters, pass their header checks (R139, R140) and lie within the window that the program opened (R20, R161). -/
def State.goodCands (s : State) (z : Nat) (w : Win) (cs : List Candidate) : List Candidate :=
  cs.filter (fun c => s.ponClock && decide (58 ≤ c.score) && c.headerOk && decide (s.candAt z w c ≤ w.fin))

/-- A ranging window without a response (R157, R164). -/
def State.rangeFailed (s : State) (z t : Nat) : State :=
  if s.term z t ≠ stRANGING then s
  else
    let s := s.addTo Reg.Rng.RANGE_FAILS [z] 1
    if s.rd Reg.Rng.RANGE_TRIES [z] ≤ s.rd Reg.Rng.RANGE_TRY [z, t] then
      (s.deactivate z t).raise 0x97 (termObj z t) []
    else
      let n := s.rd Reg.Rng.RANGE_TRY [z, t]
      (s.enter z t (s.rd Reg.Hid.RNG_PREV [z, t])).setTerm Reg.Rng.RANGE_TRY z t n

/-- The response's equalisation delay (R164): EqD = D_pre − x in bits; out of range it is deactivated. -/
def State.equalise (s : State) (z t x : Nat) : State :=
  let r := s.rate z
  let dp := r.tickBits (s.dPre z)
  if dp < x ∨ 2438553 < r.bitTicks (dp - x) then (s.deactivate z t).raise 0x96 (termObj z t) [x]
  else
    let e := r.bitTicks (dp - x)
    let s := ((s.wr Reg.Hid.EQD_BITS [z, t] (dp - x)).wr Reg.Rng.EQD_RTT [z, t] e).wr Reg.Rng.R_MEAS [z, t] (s.rd Reg.Rng.EQD_ZERO [z] - e)
    let s := ((s.wr Reg.Rng.DRIFT_AVG [z, t] 0).wr Reg.Rng.DRIFT_CLAMPS [z, t] 0).wr Reg.Hid.FENCED_SET [z, t, 6] 0
    ((s.enter z t stACTIVE).ploam z .rangingTime t [dp - x]).raise 0x95 (termObj z t) []

/-- The RSSI pulse of a burst whose delimiter starts at `p`, cut at the burst's end `fin` (R127). -/
def State.rssiAt (s : State) (z p fin : Nat) : State :=
  let a := p + s.rd Reg.Pon.RSSI_DLY [z]
  let b := a + s.rd Reg.Pon.RSSI_LEN [z]
  let s := s.edge .rssi z 1 a
  if fin < b then (s.edge .rssi z 0 (max a fin)).addTo Reg.Pon.RSSI_CUT [z] 1 else s.edge .rssi z 0 b

/-- The pins of a granted burst (R127, R172): burst reset from the guard's start, and the RSSI pulse that `RSSI_REQ` asks for on the terminal's next granted burst,
found or missed. -/
def State.burstPins (s : State) (z : Nat) (w : Win) : State :=
  let r := s.rate z
  let s := s.brstAt z (w.p - r.bitTicks (r.guard + (if w.long then r.long else r.short)))
  if s.flag Reg.Rng.RSSI_REQ [z, w.term] then (s.setTerm Reg.Rng.RSSI_REQ z w.term 0).rssiAt z w.p w.fin else s

/-- The end of a ranging burst whose delimiter starts at `p` (R127, R161): its length is B, the guard included; no later than its window's end (log 104). -/
def State.rangingEnd (s : State) (z p fin : Nat) : Nat :=
  let r := s.rate z
  min fin (p + r.bTicks - r.bitTicks (r.guard + r.long))

/-- A burst with a good header of its window's own terminal, which is not active: rogue evidence outside the grace of R178 (R174, R177, R180). -/
def State.inactiveSeen (s : State) (z : Nat) (w : Win) : State :=
  let t := w.term
  if s.active z t || w.grace then s
  else
    let s := s.evidence z .inactiveId (some t)
    if !s.flag Reg.Rng.ADMIN [z, t] && !s.understudy z then s.raise 0x70 (termObj z t) [s.rd Reg.Rng.ADMIN [z, t], s.term z t] else s

/-- The writeback at the end of a burst with a good header (R136): its values reach the preset, and the terminal's next burst if that is armed, unless software has written
the preset meanwhile. -/
def State.refine (s : State) (z : Nat) (w : Win) (gain thr phase seed : Nat) : State :=
  if w.swWrote then s.addTo Reg.Pon.WB_DISCARD [z] 1 else (s.writeback z w.term gain thr phase seed).refreshArmed z w.term

/-- `RANGING_RESPONSE` (R127, R136, R163, R164, R174): a kind 1 window is searched; the first good candidate that names its terminal gives the RSSI pulse and the writeback, and
ranges the terminal where that is still in `RANGING`; the response of a terminal that is not is evidence (a terminal being ranged is no rogue for answering its own
window: DEDUCED, log 144). Candidates that name another are evidence. -/
def execRangingResponse (z : Nat) (cs : List Candidate) (gain thr phase seed : Nat) (s : State) : Out' :=
  if !s.ranges z || s.isEpon z then .next (s.passWindow z .rng)
  else
    match s.popWin z .rng with
    | none => .next s
    | some (w, s) =>
      let s := ((s.advanceTo w.fin).armDue z).brstAt z w.p
      let good := s.goodCands z w cs
      let s := (good.filter (fun c => c.onu != w.term)).foldl (fun s c => s.namedOther z c.onu) s
      match good.find? (fun c => c.onu == w.term) with
      | none => .next (s.rangeFailed z w.term)
      | some c =>
        let at' := s.candAt z w c
        let s := (s.rssiAt z at' (s.rangingEnd z at' w.fin)).refine z w gain thr phase seed
        if s.term z w.term = stRANGING then .next ((s.equalise z w.term c.x).skewSeen z w.term c.skew)
        else .next (s.inactiveSeen z w)

/-- `RANGING_WINDOW_END` (R157): a ranging window ends with no response. -/
def execRangingWindowEnd (z : Nat) (s : State) : Out' :=
  if !s.ranges z then .next (s.passWindow z .rng)
  else
    match s.popWin z .rng with
    | none => .next s
    | some (w, s) => .next (((s.advanceTo w.fin).brstAt z w.p).rangeFailed z w.term)

/-- `DISCOVERY_WINDOW` (R140): the whole window is searched, candidates are decoded one at a time, and each that passes its header check
is a discovery response. -/
def execDiscoveryWindow (z : Nat) (cs : List Candidate) (s : State) : Out' :=
  if !s.ranges z then .next (s.passWindow z .disc)
  else
    match s.popWin z .disc with
    | none => .next s
    | some (w, s) =>
      .next (((s.advanceTo w.fin).brstAt z w.p).modTree z (fun tr => { tr with found := tr.found ++ (s.goodCands z w cs).map (fun c => (s.candAt z w c, c)) }))

/-- A Registration reply sets `REG_SEEN` and is copied to software (R157). -/
def State.registered (s : State) (z t : Nat) (id : List Nat) : State := (s.setTerm Reg.Rng.REG_SEEN z t 1).emit (.copied z t id)

/-- `LOST_TO_EXPIRY` (R157, R158): `LOST_TO` has run in `SN_KNOWN`, in `LOST`, or in an EPON registration. -/
def execLostToExpiry (z t : Nat) (s : State) : Out' :=
  let st := s.term z t
  let due := decide (t < 1020) && (st == stSN_KNOWN || st == stLOST || (st == stRANGING && s.isEpon z))
  if !s.ranges z || !due then .next s
  else
    let s := s.advanceTo (s.rd Reg.Hid.TERM_SINCE [z, t] + msTicks (s.rd Reg.Rng.LOST_TO [z]))
    .next ((s.deactivate z t).raise (if st = stLOST then 0x99 else 0x97) (termObj z t) [])

/-! ### Drift (R167–R169) -/

/-- The nearest whole number of bits to a/16; halves go away from zero (log 13). -/
def roundSixteenth (a : Int) : Int := if 0 ≤ a then (a + 8) / 16 else -((-a + 8) / 16)

/-- EqD of a terminal in bits (R164): as this unit sent it, or from `EQD_RTT` where the twin ranged the terminal (R258). -/
def State.eqdBits (s : State) (z t : Nat) : Nat :=
  let b := s.rd Reg.Hid.EQD_BITS [z, t]
  let e := s.rd Reg.Rng.EQD_RTT [z, t]
  if (s.rate z).bitTicks b = e then b else (s.rate z).tickBits e

/-- A correction by c bits, positive for a late terminal (R168). In EPON modes the equalisation delay that a round trip stands for is `EQD_ZERO` less it, with the
limits of R165. -/
def State.correct (s : State) (z t : Nat) (c : Int) : State :=
  if s.isEpon z then
    let r := s.rate z
    let m : Nat := (2 * c.natAbs * r.bNum + r.bDen) / (2 * r.bDen)
    let e : Int := if 0 ≤ c then Int.ofNat (s.rd Reg.Rng.EQD_RTT [z, t]) + Int.ofNat m else Int.ofNat (s.rd Reg.Rng.EQD_RTT [z, t]) - Int.ofNat m
    let d : Int := Int.ofNat (s.rd Reg.Rng.EQD_ZERO [z]) - e
    if e < 0 ∨ d < 0 ∨ 2438553 < d then (s.enter z t stIDLE).raise 0x96 (termObj z t) []
    else (((s.wr Reg.Rng.EQD_RTT [z, t] e.toNat).wr Reg.Rng.R_MEAS [z, t] e.toNat).addTo Reg.Rng.DRIFT_CORR [z] 1).tellTerm z t
  else
    let b : Int := (s.eqdBits z t : Nat) - c
    if b < 0 ∨ 2438553 < (s.rate z).bitTicks b.toNat then (s.deactivate z t).raise 0x96 (termObj z t) []
    else
      let e := (s.rate z).bitTicks b.toNat
      let s := ((s.wr Reg.Hid.EQD_BITS [z, t] b.toNat).wr Reg.Rng.EQD_RTT [z, t] e).wr Reg.Rng.R_MEAS [z, t] (s.rd Reg.Rng.EQD_ZERO [z] - e)
      let s := s.addTo Reg.Rng.DRIFT_CORR [z] 1
      (s.tellTerm z t).ploam z .rangingTime t [b.toNat, 1]

/-- A correction's Ranging_Time leaves with the frame that begins at `b` (R168): the averaging stops, and the wait for its Acknowledge begins. -/
def State.correctionSent (s : State) (z t b : Nat) : State :=
  if t < 1020 then (s.wr Reg.Hid.DRIFT_SENDS [z, t] (s.rd Reg.Hid.DRIFT_SENDS [z, t] + 1)).wr Reg.Hid.DRIFT_SENT_AT [z, t] b else s

/-- One in-service burst's offset reaches the drift loop (R167). The understudy averages and corrects nothing (R170). -/
def State.drift (s : State) (z t : Nat) (d : Int) : State :=
  if s.rd Reg.Hid.DRIFT_SENDS [z, t] ≠ 0 ∨ s.ext < s.rd Reg.Hid.DRIFT_HOLD [z, t] then s
  else
    let a0 := signed 16 (s.rd Reg.Rng.DRIFT_AVG [z, t])
    let a := a0 - a0.fdiv 16 + d
    if s.understudy z || decide (a.natAbs < 16 * s.rd Reg.Rng.DRIFT_THR [z]) then s.wr Reg.Rng.DRIFT_AVG [z, t] (unsigned 16 a)
    else
      let c := roundSixteenth a
      let m : Int := (s.rd Reg.Rng.DRIFT_STEP_MAX [z] : Nat)
      let s := s.wr Reg.Rng.DRIFT_AVG [z, t] 0
      if m < c.natAbs then
        let s := s.bump Reg.Rng.DRIFT_CLAMPS [z, t]
        let s := if s.rd Reg.Rng.FENCE_CNT [z] ≤ s.rd Reg.Rng.DRIFT_CLAMPS [z, t] ∧ !s.flag Reg.Hid.FENCED_SET [z, t, 6] then
            (s.wr Reg.Hid.FENCED_SET [z, t, 6] 1).raise 0x60 (termObj z t) [1, 0, (if (0 < c) = (s.isEpon z = true) then 1 else 0), s.rd Reg.Rng.EQD_RTT [z, t]] else s
        s.correct z t (if 0 ≤ c then m else -m)
      else ((s.wr Reg.Rng.DRIFT_CLAMPS [z, t] 0).wr Reg.Hid.FENCED_SET [z, t, 6] 0).correct z t c

/-- A terminal acknowledges a message originated here (R168, R172). -/
def State.acknowledged (s : State) (z t : Nat) (k : AckKind) : State :=
  match k with
  | .rangingTime =>
    if s.rd Reg.Hid.DRIFT_SENDS [z, t] = 0 then s
    else (s.wr Reg.Hid.DRIFT_SENDS [z, t] 0).wr Reg.Hid.DRIFT_HOLD [z, t] (s.ext + 2 * 777600)
  | .changePower => s.setTerm Reg.Rng.PWR_BUSY z t 0
  | .other => s

/-- `RANGING_TIME_ACK_TIMEOUT` (R168): four frames without an Acknowledge since the message was sent; after three sends the terminal is lost. -/
def execRangingTimeAckTimeout (z t : Nat) (s : State) : Out' :=
  let n := s.rd Reg.Hid.DRIFT_SENDS [z, t]
  if !s.ranges z || n == 0 || decide (1020 ≤ t) || (s.tree z).ctrl.any (fun m => m.kind == .rangingTime && m.term == t) then .next s
  else
    let s := s.advanceTo (s.rd Reg.Hid.DRIFT_SENT_AT [z, t] + 4 * 777600)
    if 3 ≤ n then
      let s := s.wr Reg.Hid.DRIFT_SENDS [z, t] 0
      .next (if s.term z t = stACTIVE then (s.enter z t stLOST).raise 0x98 (termObj z t) [] else s)
    else .next (s.ploam z .rangingTime t [s.eqdBits z t, 1])

/-! ### Power levelling (R172, R173) -/

/-- Change_Power_Level waits for the next frame: `PWR_BUSY` until the Acknowledge (R172); the preset is invalid from the message's sending on (R138). -/
def State.changePower (s : State) (z t v : Nat) : State :=
  (s.setTerm Reg.Rng.PWR_BUSY z t 1).ploam z .changePower t [v]

/-- Automatic levelling after a burst that ended at a gain code (R173). -/
def State.autoLevel (s : State) (z t : Nat) : State :=
  if !s.flag Reg.Rng.AUTO_LEVEL [z] || s.isEpon z || s.understudy z then s
  else
    let g := s.rd Reg.Pon.GAIN [z, t]
    let s := if g ≤ s.rd Reg.Pon.GAIN_MIN [z] + 8 then s.bump Reg.Hid.LVL_LOW [z, t] else s.wr Reg.Hid.LVL_LOW [z, t] 0
    let s := if s.rd Reg.Pon.GAIN_MAX [z] ≤ g + 8 then s.bump Reg.Hid.LVL_HIGH [z, t] else s.wr Reg.Hid.LVL_HIGH [z, t] 0
    let last := s.rd Reg.Hid.LVL_AT [z, t]
    if s.flag Reg.Rng.PWR_BUSY [z, t] || (decide (last ≠ 0) && decide (s.ext < last - 1 + secTicks 1)) then s
    else
      let go := fun (s : State) (v : Nat) =>
        (((((s.wr Reg.Hid.LVL_LOW [z, t] 0).wr Reg.Hid.LVL_HIGH [z, t] 0).wr Reg.Hid.LVL_AT [z, t] (s.ext + 1)).changePower z t v).raise 0x9D (termObj z t) [v])
      if 64 ≤ s.rd Reg.Hid.LVL_LOW [z, t] then go s 1
      else if 64 ≤ s.rd Reg.Hid.LVL_HIGH [z, t] then go s 2
      else s

/-! ### Rogue isolation (R174–R176) -/

/-- Terminals in `SN_KNOWN` to `LOST`, most recently activated first (R175). -/
def State.rogueCands (s : State) (z : Nat) : List Nat :=
  let ts := (s.listed Reg.Rng.STATE [z]).filter (fun t => decide (t < 1020) && decide (1 ≤ s.term z t) && decide (s.term z t ≤ 4))
  sortBy (fun a b => decide (0 ≤ sdiff (BitVec.ofNat 40 (s.rd Reg.Rng.ACT_STAMP [z, a])) (BitVec.ofNat 40 (s.rd Reg.Rng.ACT_STAMP [z, b])))) ts

/-- A test begins: the terminals of `H` are disabled and `ROGUE_WATCH` frames are watched. -/
def State.isoTest (s : State) (z : Nat) (test rest cands : List Nat) : State :=
  let s := test.foldl (fun s t => s.silence z t) s
  let s := ((s.wr Reg.Rng.ROGUE_STATE [z] 2).wr Reg.Rng.ROGUE_TERM [z] (test.headD 0)).wr Reg.Rng.ROGUE_LEFT [z] (rest.length + cands.length)
  s.modTree z (fun tr => { tr with iso :=
    { on := true, cands := cands, test := test, rest := rest, dirty := false, attributed := false, watch := s.rd Reg.Rng.ROGUE_WATCH [z] } })

/-- The isolation machine stops. -/
def State.isoStop (s : State) (z st : Nat) : State :=
  ((s.wr Reg.Rng.ROGUE_STATE [z] st).wr Reg.Rng.ROGUE_LEFT [z] 0).modTree z (fun tr => { tr with iso := { tr.iso with on := false, cands := [], test := [], rest := [], attributed := false } })

/-- Every candidate is back and none was found (R175, R176). -/
def State.isoUnresolved (s : State) (z : Nat) : State := (s.isoStop z 3).raise 0x9C (portObj z) []

/-- A terminal is held by isolation (R175): the test is over, and `ROGUE_STATE` goes on showing it until software clears the hold (DEDUCED, log 146). -/
def State.isoHold (s : State) (z t : Nat) : State :=
  ((s.setTerm Reg.Rng.ROGUE_HELD z t 1).isoStop z (s.rd Reg.Rng.ROGUE_STATE [z])).raise 0x9B (termObj z t) []

/-- The next test of a list of candidates, by method (R175): 0 one at a time, 1 bisection. -/
def State.isoNext (s : State) (z : Nat) (cands : List Nat) : State :=
  match cands with
  | [] => s.isoUnresolved z
  | t :: ts =>
    if !s.flag Reg.Rng.ROGUE_METHOD [z] then s.isoTest z [t] [] ts
    else if ts = [] then s.isoTest z [t] [] []
    else s.isoTest z (cands.take ((cands.length + 1) / 2)) (cands.drop ((cands.length + 1) / 2)) []

/-- Isolation enables a terminal that it disabled; one that software holds by `DISABLE` stays silent (R157, R175). -/
def State.isoEnable (s : State) (z t : Nat) : State :=
  if s.term z t = stDISABLED ∧ !s.flag Reg.Rng.DISABLE [z, t] then s.unsilence z t else s

/-- Isolation starts on suspicion (R175): an attributed terminal is disabled and held; energy alone, which is evidence against no ONU-ID, tests every candidate. Evidence
against ONU-IDs that no record stands for is neither, and tests none. -/
def State.isolate (s : State) (z : Nat) (suspects : List Nat) : State :=
  if !s.flag Reg.Rng.ROGUE_AUTO [z] || s.isEpon z || !s.ranges z || (s.tree z).iso.on then s
  else
    match suspects.filter (fun t => decide (t < 1020)) with
    | t :: _ =>
      let s := (s.silence z t).setTerm Reg.Rng.ROGUE_HELD z t 1
      let s := (s.wr Reg.Rng.ROGUE_STATE [z] 2).wr Reg.Rng.ROGUE_TERM [z] t
      s.modTree z (fun tr => { tr with iso := { on := true, cands := [], test := [t], rest := [], dirty := false, attributed := true, watch := s.rd Reg.Rng.ROGUE_WATCH [z] } })
    | [] => if suspects.isEmpty then s.isoNext z (s.rogueCands z) else s

/-- `ROGUE_WATCH_END` (R175): a watch of `ROGUE_WATCH` frames is over and the test moves on. -/
def execRogueWatchEnd (z : Nat) (s : State) : Out' :=
  let i := (s.tree z).iso
  if !i.on || decide (i.watch ≠ 0) || !s.ranges z then .next s
  else if i.attributed then
    match i.test with
    | t :: _ => .next (if i.dirty then s.isoUnresolved z else s.isoHold z t)
    | [] => .next (s.isoUnresolved z)
  else if !s.flag Reg.Rng.ROGUE_METHOD [z] then
    match i.test with
    | t :: _ => if i.dirty then .next ((s.isoEnable z t).isoNext z i.cands) else .next (s.isoHold z t)
    | [] => .next (s.isoUnresolved z)
  else
    match i.test, i.rest with
    | [t], [] => if i.dirty then .next ((s.isoEnable z t).isoUnresolved z) else .next (s.isoHold z t)
    | h, c =>
      if !i.dirty then .next ((c.foldl (fun s t => s.isoEnable z t) s).isoNext z h)
      else .next ((h.foldl (fun s t => s.isoEnable z t) s).isoNext z c)

/-- A frame's evidence is judged at its end (R174): `ROGUE_EVID`, the last 16 frames, and suspicion where at least `ROGUE_FRAMES` of them are evidence frames, with
the kinds and terminals of all of them. Suspicion is raised once: not again while `ROGUE_STATE` shows it, a test runs, or the same frames have ended a test unresolved
(DEDUCED, log 122). -/
def State.judgeEvidence (s : State) (z : Nat) : State :=
  let tr := s.tree z
  let seen := decide (tr.kinds ≠ 0)
  let frames := fun (h : List (Nat × List Nat)) => h.countP (fun e => e.1 != 0)
  let hist := ((tr.kinds, tr.suspects) :: tr.evidence).take 16
  let s := if seen then s.addTo Reg.Rng.ROGUE_EVID [z] 1 else s
  let s := s.modTree z (fun tr => { tr with evidence := hist, kinds := 0, suspects := [], iso := { tr.iso with watch := tr.iso.watch - 1 } })
  let lim := s.rd Reg.Rng.ROGUE_FRAMES [z]
  if seen && decide (lim ≤ frames hist) && (decide (frames tr.evidence < lim) || s.rd Reg.Rng.ROGUE_STATE [z] == 0) && !tr.iso.on then
    let ts := (hist.flatMap Prod.snd).eraseDups
    ((s.wr Reg.Rng.ROGUE_STATE [z] 1).raise 0x9A (match ts with | t :: _ => termObj z t | [] => portObj z)
      (hist.foldl (fun m e => m ||| e.1) 0 :: ts.take 3)).isolate z ts
  else if s.rd Reg.Rng.ROGUE_STATE [z] = 1 && decide (frames hist < lim) then s.wr Reg.Rng.ROGUE_STATE [z] 0
  else s

/-- `ENERGY_DETECTED` (R141, R174, R254): optical energy outside every window is rogue evidence, and no frame it falls into is silent. -/
def execEnergyDetected (z : Nat) (s : State) : Out' :=
  if decide (z < 64) && s.head z then .next ((s.wr Reg.Hid.W_ENERGY [z] 1).evidence z .energy none) else .next s

/-! ### The software's writes of a terminal record, once judged (R157, R172, R177–R179) -/

/-- `ADMIN` written 1 → 0 deactivates a terminal in `SN_KNOWN` to `LOST` (R157); the windows that sheets fixed before still grant it are its grace, whatever is
written next (R178). -/
def State.adminCleared (s : State) (z t : Nat) : State :=
  let st := s.term z t
  let s := s.modTree z (fun tr => { tr with wins := tr.wins.map (fun w => if w.kind != .disc && w.term == t then { w with grace := true } else w) })
  if 1 ≤ st ∧ st ≤ 4 then s.deactivate z t else s

/-- `DISABLE` written (R157): a terminal that isolation holds stays held (R175). -/
def State.disableWritten (s : State) (z t v : Nat) : State :=
  if v = 1 then s.silence z t else if s.term z t = stDISABLED ∧ !s.flag Reg.Rng.ROGUE_HELD [z, t] then s.unsilence z t else s

/-- `ROGUE_HELD` cleared (R157, R175): its terminal is enabled, a test of it is over, and `ROGUE_STATE` returns to 0. -/
def State.heldCleared (s : State) (z t : Nat) : State :=
  let i := (s.tree z).iso
  let s := if i.on && !(i.attributed && i.test == [t]) then s else s.isoStop z 0
  if s.term z t = stDISABLED then s.unsilence z t else s

end Sys2Proof.Machine
end

