-- ==== Sys2Proof/Machine/Sheet.lean ====
section
/-! DEFINITION. Cue sheets (R77–R82, R182–R206): the instructions that build a sheet, the standing list, the sheet deadline, and the
arming of the burst receiver. -/

namespace Sys2Proof.Machine

/-! ### Frames (R182–R185, R204) -/

/-- floor(777.6·(125·n − t_seal)): `CUE` cycles from the frame boundary to the sheet deadline (R183). -/
def sealCycles (n lead : Nat) : Nat := (125 * n - lead) * 7776 / 10

/-- The prompter budget (R183). -/
def budgetOf (n lead : Nat) : Nat := sealCycles n lead - 1200

/-- T_resp of a tree (R204, R216, R217): `EQD_ZERO` plus 35 µs in ITU modes, `EQD_ZERO` alone in EPON modes. -/
def State.tResp (s : State) (z : Nat) : Nat := s.rd Reg.Rng.EQD_ZERO [z] + (if s.isEpon z then 0 else 217728)

/-- The boundary at which frame k of tree z began, in extended stage time, for a frame up to the present one. -/
def State.frameStart (s : State) (z k : Nat) : Nat :=
  s.rd Reg.Hid.F_EXT [z] - (s.rd Reg.Cue.FRAME [z] - k) * s.cycleTicks z

/-- The first grid point after a moment of extended stage time, for a cycle of `c` ticks. -/
def nextGrid (t c : Nat) : Nat := (t / c + 1) * c

/-- The number on the pair's shared grid of frame k of tree z, for a frame up to the present one: multiples of the frame length since extended stage time 0
(R255, R531; log 102). -/
def State.gridOf (s : State) (z k : Nat) : Nat := s.frameStart z k / s.cycleTicks z

/-- The frame number that this port gives, gave or would have given to frame g of the shared grid (R122, R531; log 102): numbers count from the port's first boundary. -/
def State.ownFrame (s : State) (z g : Nat) : Int :=
  if s.flag Reg.Hid.F_RUN [z] then (s.rd Reg.Cue.FRAME [z] : Int) + g - (s.gridOf z (s.rd Reg.Cue.FRAME [z]) : Int)
  else (g : Int) - (nextGrid (s.rd Reg.Hid.TRAIN_UNTIL [z]) (s.cycleTicks z) / s.cycleTicks z : Nat)

/-- What shifts every burst of the tree at this unit (R255, R257, R258): the applied shift where it lights the tree, the twin's shift and
the leg difference where it follows the twin; in 1/8 tick. -/
def State.armShift (s : State) (z : Nat) : Int :=
  if s.understudy z then
    signed 32 (s.rd Reg.Hid.SA [z]) + signed 32 (if s.flag Reg.Twn.DELTA_VALID [z] then s.rd Reg.Twn.DELTA [z] else s.rd Reg.Twn.DELTA_CFG [z])
  else signed 32 (s.rd Reg.Twn.SHIFT [z])

/-- The beginning, in extended stage time, of the upstream frame that the sheet of frame k describes, as this unit expects it (R185, R204, R258). -/
def State.upStart (s : State) (z k : Nat) : Nat :=
  (Int.ofNat (s.frameStart z k + (1 + s.rd Reg.Cue.MAP_LEAD [z]) * s.cycleTicks z + s.tResp z) + (s.armShift z).fdiv 8).toNat

/-- P of a burst of frame k's sheet whose first grant starts at unit `u` (R204). -/
def State.burstP (s : State) (z k u : Nat) : Nat := s.upStart z k + (s.rate z).ticks u - (s.rate z).dt

/-! ### Entries of a frame (R186–R194, R200, R201) -/

/-- H of a profile in units (R186). -/
def Rate.h (r : Rate) (long : Bool) : Nat := if long then r.hLong else r.hShort

/-- Where a start lies (R187): on channel 1, C_TQ earlier, for a start of C_TQ or more on a pair at 50/50. -/
def State.channelOf (s : State) (z start : Nat) : Nat × Nat :=
  if s.twoChannels z && decide (s.unitsPerFrame z ≤ start) then (1, start - s.unitsPerFrame z) else (0, start)

/-- The end of an entry's extent. -/
def Entry.hi (e : Entry) : Nat := e.start + e.size

/-- Whether the extents of two entries share a unit (R191). -/
def Entry.meets (a b : Entry) : Bool :=
  a.chan == b.chan && decide (max (Int.ofNat a.start - a.ovh) (Int.ofNat b.start - b.ovh) < min (Int.ofNat a.hi) (Int.ofNat b.hi))

/-- Whether a standing entry applies in frame n (R80): every P frames after its issue, until the frame that removed it. -/
def Standing.applies (t : Standing) (n : Nat) : Bool :=
  decide (t.frame < n) && ((n : Int) - t.frame) % t.period == 0 && (match t.gone with | none => true | some g => decide ((n : Int) ≤ g))

/-- Where a grant of terminal `t` lies (R125, R187): one on channel 1 of a terminal held to channel 0 lies on channel 0, at the same start. -/
def State.placeOf (s : State) (z t start : Nat) : Nat × Nat :=
  let (ch, st) := s.channelOf z start
  (if s.flag Reg.Hid.SKEW_HELD [z, t] then 0 else ch, st)

/-- A standing entry as an entry of a sheet, with the long overhead it reserves (R201). -/
def State.standingEntry (s : State) (z : Nat) (t : Standing) : Entry :=
  let term := s.rd Reg.Cue.TERM [z, t.alloc]
  let (ch, st) := s.placeOf z term t.start
  { kind := .grant, alloc := t.alloc, term := term, start := st, size := t.size, ovh := (s.rate z).hLong, long := t.long,
    report := false, ploam := false, joined := false, src := 1, chan := ch, left := 0 }

/-- A carried part as an entry of a sheet (R162, R198). -/
def Carried.entry (c : Carried) : Entry :=
  { kind := c.kind, alloc := 0, term := c.term, start := c.start, size := c.size, ovh := 0, long := true, report := false, ploam := false,
    joined := false, src := 2, chan := 0, left := 0 }

/-- The standing entries that apply to frame n and the parts of windows carried into it. -/
def State.fixedEntries (s : State) (z n : Nat) : List Entry :=
  ((s.tree z).standing.filter (fun t => t.applies n)).map (s.standingEntry z) ++
    ((s.tree z).carried.filter (fun c => c.frame == n)).map Carried.entry

/-- The entries of the present frame (R191): standing, carried, and the open sheet. -/
def State.entries (s : State) (z : Nat) : List Entry := s.fixedEntries z (s.rd Reg.Cue.FRAME [z]) ++ (s.tree z).sheet

/-- The entry limit of a merged sheet (R194). -/
def State.entryLimit (s : State) (z : Nat) : Nat := if s.isEpon z then min (256 * s.cycleN z) 1024 else 1024

/-- Whether the open sheet takes no more entries (R78 item 1): `SEAL` has executed, or the deadline is reached. -/
def State.sheetLate (s : State) (z : Nat) : Bool :=
  (s.tree z).sealed || decide (0 ≤ sdiff s.nowW (BitVec.ofNat 40 (s.rd Reg.Cue.DEADLINE [z])))

/-- Ends a sheet instruction: the completion word, with the entries in the open sheet as `RESULT` (R77), and `REFUSED` counted. -/
def sheetReply (cx : Cx) (f : Fields) (z : Nat) (c : Ctx) (code : Nat) (s : State) : State :=
  let s := if code = 0 then s else s.addTo Reg.Cue.REFUSED [z] 1
  s.putCtx cx ((c.setReg f.wd.toNat (cword code (s.entries z).length)).advance)

/-! ### GRANT (R77, R78, R187, R191–R195) -/

/-- Whether an entry is a grant of terminal t on a channel. -/
def Entry.of (e : Entry) (t chan : Nat) : Bool := e.kind == .grant && e.term == t && e.chan == chan

/-- The last grant of a burst of terminal t that ends at `start` (R192): no later entry has joined it there. -/
def lastGrant (t chan start : Nat) : List Entry → Option Entry
  | [] => none
  | e :: es =>
    if e.of t chan && e.hi == start && !es.any (fun x => x.of t chan && x.joined && x.start == start) then some e else lastGrant t chan start es

/-- The burst that a grant of terminal t starting at `start` joins, by its last grant (R192). -/
def State.joins (s : State) (z t chan start : Nat) : Option Entry := if s.isEpon z then none else lastGrant t chan start (s.entries z)

/-- The entry a `GRANT` asks for (R187, R192, R193). -/
def State.grantEntry (s : State) (z a start size flags : Nat) : Entry :=
  let t := s.rd Reg.Cue.TERM [z, a]
  let (ch, st) := s.placeOf z t start
  let j := s.joins z t ch st
  let long := match j with | some e => e.long | none => flags.testBit 2 || !s.presetValid z t
  { kind := .grant, alloc := a, term := t, start := st, size := size, ovh := if j.isSome then 0 else (s.rate z).h long, long := long,
    report := flags.testBit 0, ploam := flags.testBit 1 && !s.isEpon z, joined := j.isSome, src := 0, chan := ch, left := 0 }

/-- Whether an entry leaves the frame (R194), or is an EPON grant of size 0 (R195). -/
def State.outOfFrame (s : State) (z : Nat) (e : Entry) : Bool :=
  decide (e.start < e.ovh) || decide (s.unitsPerFrame z < e.hi) || (s.isEpon z && e.size == 0)

/-- The code of a `GRANT` for allocation `a`, tested in the order of R78. -/
def State.grantCode (s : State) (z a : Nat) (e : Entry) : Nat :=
  if s.sheetLate z then 0x51
  else if !s.allocUsed z a then 0x53
  else if s.entryLimit z ≤ (s.entries z).length ∨ s.outOfFrame z e then 0x52
  else if (s.entries z).any e.meets then 0x50
  else 0

/-- `GRANT` (R77). -/
def execGrant (cx : Cx) (f : Fields) (s : State) : Out' :=
  .next (erten 0x58 { wd := true, wa := true, wb := true, mask := 0x3E007, prompter := true } 4 cx f (fun c s =>
    match c.tree? with
    | none => s
    | some z =>
      let a := (c.a f).toNat % 4096
      let e := s.grantEntry z a (c.b f).toNat (c.c3 f).toNat f.imm13
      let code := s.grantCode z a e
      sheetReply cx f z c code (if code = 0 then s.modTree z (fun tr => { tr with sheet := tr.sheet ++ [e] }) else s)) s)

/-! ### QUIET (R77, R78, R160, R162) -/

/-- The parts of a window over frames 0, 1, … : frame, start, length. -/
def quietParts (upf : Nat) : Nat → Nat → Nat → Nat → List (Nat × Nat × Nat)
  | 0, _, _, _ => []
  | n + 1, d, start, len =>
    let here := min len (upf - start)
    (d, start, here) :: (if here < len then quietParts upf n (d + 1) 0 (len - here) else [])

/-- The kind of a `QUIET`. -/
def quietKind (k : Nat) : EntKind := if k = 0 then .disc else if k = 1 then .rng else .silence

/-- Whether a `QUIET` of kind 1 may name a terminal (R155, R156). -/
def State.mayRange (s : State) (z t : Nat) : Bool :=
  !s.isEpon z && decide (t < 1020) && (s.term z t == stSN_KNOWN || s.term z t == stLOST)

/-- A part of a window as an entry of the frame it lies in. -/
def partEntry (k : EntKind) (t start size left : Nat) : Entry :=
  { kind := k, alloc := 0, term := t, start := start, size := size, ovh := 0, long := true, report := false, ploam := false, joined := false, src := 0,
    chan := 0, left := left }

/-- The code of a `QUIET`, tested in the order of R78; a start outside the frame, more than four frames, or a later frame whose entries reach the limit is
`SHEET_FULL` (R162, R194). A frame of an EPON tree is its GATE cycle (R120), so four frames are
four cycles of C_z, which is R162's 3,110,400 ticks for n = 1 (DEDUCED, log 129). -/
def State.quietCode (s : State) (z k t start len : Nat) : Nat :=
  let n := s.rd Reg.Cue.FRAME [z]
  let upf := s.unitsPerFrame z
  let parts := quietParts upf 6 0 start len
  if s.sheetLate z then 0x51
  else if k = 1 ∧ !s.mayRange z t then 0x53
  else if s.entryLimit z ≤ (s.entries z).length ∨ upf ≤ start ∨ 4 * s.cycleTicks z < (s.rate z).ticks len ∨
      parts.any (fun p => p.1 != 0 && decide (s.entryLimit z ≤ (s.fixedEntries z (n + p.1)).length)) then 0x52
  else if parts.any (fun p => (if p.1 = 0 then s.entries z else s.fixedEntries z (n + p.1)).any (partEntry (quietKind k) t p.2.1 p.2.2 0).meets) then 0x50
  else 0

/-- Places a window: its first part in the open sheet, the others in the later frames (R162). -/
def State.placeQuiet (s : State) (z k t start len : Nat) : State :=
  let n := s.rd Reg.Cue.FRAME [z]
  let parts := quietParts (s.unitsPerFrame z) 6 0 start len
  let first := match parts with | p :: _ => p.2.2 | [] => 0
  s.modTree z (fun tr => { tr with
    sheet := tr.sheet ++ [partEntry (quietKind k) t start first (len - first)]
    carried := tr.carried ++ (parts.filter (fun p => p.1 != 0)).map (fun p =>
      { frame := n + p.1, origin := n, kind := quietKind k, term := t, start := p.2.1, size := p.2.2 }) })

/-- `QUIET` (R77). Kinds 0 and 2 ignore their third operand, whatever it holds (DESIGN CHOICE, log 125). -/
def execQuiet (cx : Cx) (f : Fields) (s : State) : Out' :=
  .next (erten 0x59 { wd := true, wa := true, wb := true, mask := 0x3E003, bad := fun i => i % 4 == 3, prompter := true } 4 cx f (fun c s =>
    match c.tree? with
    | none => s
    | some z =>
      let k := f.imm13 % 4
      let t := if k = 1 then (c.c3 f).toNat % 1024 else 0x3FF
      let code := s.quietCode z k t (c.a f).toNat (c.b f).toNat
      sheetReply cx f z c code (if code = 0 then s.placeQuiet z k t (c.a f).toNat (c.b f).toNat else s)) s)

/-! ### SEAL (R79, R197) -/

/-- The value of a sheet ticket (R79). -/
def sheetTicketWord (core frame : Nat) : Word := BitVec.ofNat 40 (frame % 4096 + core * 2 ^ 20 + 0xF * 2 ^ 27)

/-- `SEAL` (R79): the first one in a run closes the open sheet; it is timely before the deadline (R197). -/
def execSeal (cx : Cx) (f : Fields) (s : State) : Out' :=
  .next (erten 0x5A { wd := true, prompter := true } 6 cx f (fun c s =>
    match c.tree? with
    | none => s
    | some z =>
      let w := sheetTicketWord cx.core (s.rd Reg.Cue.FRAME [z])
      let s := if (s.tree z).sealed then s
        else
          let late := s.sheetLate z
          let n := min c.cycles 0xFFFFE
          ((s.wr Reg.Cue.SEAL_CYCLE [z] n).wr Reg.Cue.SEAL_MAX [z] (max n (s.rd Reg.Cue.SEAL_MAX [z]))).modTree z
            (fun tr => { tr with sealed := true, late := late })
      s.putCtx cx ((c.setReg f.wd.toNat w).advance)) s)

/-! ### STANDING (R80, R200–R203) -/

/-- Two standing entries that both apply in some frame (R201). -/
def Standing.together (a b : Standing) : Bool :=
  a.gone.isNone && (a.frame - b.frame).natAbs % Nat.gcd a.period b.period == 0

/-- A standing entry where its start places it, whatever its terminal's skew holds it to for now (R125, R187). -/
def State.standingPlaced (s : State) (z : Nat) (t : Standing) : Entry :=
  let (ch, st) := s.channelOf z t.start
  { s.standingEntry z t with start := st, chan := ch }

/-- Whether two standing entries would share a unit, as they lie now or as they lie without a hold of R125. -/
def State.standingMeets (s : State) (z : Nat) (a b : Standing) : Bool :=
  (s.standingEntry z a).meets (s.standingEntry z b) || (s.standingPlaced z a).meets (s.standingPlaced z b)

/-- The code of a `STANDING` add (R80, R194, R200–R202). An extent that leaves the frame, and an EPON size of 0, are answered `SHEET_FULL`, as R194 and R195 answer a
grant's (DESIGN CHOICE, log 126). -/
def State.standingCode (s : State) (z : Nat) (t : Standing) : Nat :=
  let l := (s.tree z).standing
  let e := s.standingEntry z t
  if l.any (fun o => o.alloc == t.alloc && o.start == t.start && o.size == t.size && o.period == t.period && o.long == t.long) then 0
  else if !s.allocUsed z t.alloc then 0x53
  else if l.any (fun o => o.alloc == t.alloc && o.start == t.start) then 0x50
  else if 512 ≤ l.length ∨ s.outOfFrame z e then 0x52
  else if l.any (fun o => o.together t && s.standingMeets z o t) then 0x50
  else if (s.tree z).carried.any (fun c => t.applies c.frame && (c.entry.meets e || c.entry.meets (s.standingPlaced z t))) then 0x50
  else 0

/-- The entry a `STANDING` issued in frame n names (R80). -/
def standingOf (f : Fields) (c : Ctx) (n : Nat) : Standing :=
  { alloc := (c.a f).toNat % 4096, start := (c.b f).toNat, size := (c.c3 f).toNat, period := f.imm13 % 256, frame := n, gone := none,
    long := f.imm13.testBit 9 }

/-- The standing list of a tree this unit lights changes: the understudy's copy follows (R82, R214). -/
def State.tellStanding (s : State) (z : Nat) (t : Standing) (remove : Bool) : State :=
  if s.rd Reg.Bar.PAIRING [] = 2 then
    s.emit (.twin 4 [0x5B, z, t.alloc, t.start, t.size, t.period, s.gridOf z (s.rd Reg.Cue.FRAME [z]), bit t.long, bit remove])
  else s

/-- `STANDING` (R80): adds or removes an entry; in a shadow run it answers `OK` and changes nothing (R82). -/
def execStanding (cx : Cx) (f : Fields) (s : State) : Out' :=
  .next (erten 0x5B { wd := true, wa := true, wb := true, mask := 0x3E3FF, bad := fun i => !i.testBit 8 && i % 256 == 0, prompter := true } 8 cx f
    (fun c s =>
    match c.tree? with
    | none => s
    | some z =>
      let n := s.rd Reg.Cue.FRAME [z]
      let t := standingOf f c n
      let l := (s.tree z).standing
      if s.understudy z then sheetReply cx f z c 0 s
      else if f.imm13.testBit 8 then
        if l.any (fun o => o.alloc == t.alloc && o.start == t.start) then
          sheetReply cx f z c 0 ((s.modTree z (fun tr => { tr with standing := l.map (fun o =>
            if o.alloc == t.alloc && o.start == t.start && o.gone.isNone then { o with gone := some t.frame } else o) })).tellStanding z t true)
        else sheetReply cx f z c 0x32 s
      else
        let code := s.standingCode z t
        let known := l.any (fun o => o.alloc == t.alloc && o.start == t.start)
        sheetReply cx f z c code (if code = 0 ∧ !known then (s.modTree z (fun tr => { tr with standing := l ++ [t] })).tellStanding z t false else s)) s)

/-! ### REPORT.GET (R81, R190) -/

/-- `REPORT.GET` (R81): the digest word of the snapshot. -/
def execReportGet (cx : Cx) (f : Fields) (s : State) : Out' :=
  .next (erten 0x5C { wd := true, wa := true, prompter := true } 3 cx f (fun c s =>
    match c.tree? with
    | none => s
    | some z => s.putCtx cx ((c.setReg f.wd.toNat (BitVec.ofNat 40 (s.rd Reg.Cue.DIGEST [z, (c.a f).toNat % 4096]))).advance)) s)

/-! ### The deadline (R196–R198, R204, R210) -/

/-- Whether an entry of the program or the standing list stays in the merged sheet (R196). -/
def State.keeps (s : State) (z : Nat) (e : Entry) : Bool :=
  match e.kind with
  | .grant => s.allocUsed z e.alloc
  | .rng => s.mayRange z e.term
  | _ => true

/-- In order of channel and start; a burst's own grants in the order they abut. -/
def Entry.before (a b : Entry) : Bool :=
  decide (a.chan < b.chan) || (a.chan == b.chan && (decide (a.start < b.start) || (a.start == b.start && (!a.joined || b.joined))))

/-- Gives each burst of a sorted sheet its profile (R19, R192, R193): a joined grant takes its burst's; where the burst's head was left out it heads the burst itself,
on the profile that was chosen for the burst. -/
def headBursts (r : Rate) : Option Entry → List Entry → List Entry
  | _, [] => []
  | prev, e :: es =>
    let head := { e with joined := false, ovh := r.h e.long }
    let e := if e.kind = .grant ∧ e.joined then
        match prev with
        | some p => if p.kind = .grant ∧ p.term = e.term ∧ p.chan = e.chan ∧ p.hi = e.start then { e with long := p.long } else head
        | none => head
      else e
    e :: headBursts r (some e) es

/-- Whether a standing entry that its terminal's skew moved to channel 0 does not fit there among the other entries (R125, R187, R191); it is left out then (DESIGN
CHOICE, log 127). -/
def State.crowded (s : State) (z : Nat) (others : List Entry) (t : Standing) : Bool :=
  let e := s.standingEntry z t
  s.flag Reg.Hid.SKEW_HELD [z, e.term] && (s.channelOf z t.start).1 == 1 && others.any e.meets

/-- The merged sheet of the present frame, and the entries left out of it (R196, R197). -/
def State.merge (s : State) (z : Nat) (alone : Bool) : List Entry × Nat :=
  let n := s.rd Reg.Cue.FRAME [z]
  let all := (s.tree z).standing.filter (fun t => t.applies n)
  let ca := (((s.tree z).carried.filter (fun c => c.frame == n)).map Carried.entry).map (fun e => { e with src := if alone then 3 else 2 })
  let own := if alone then [] else (s.tree z).sheet
  let st := (all.filter (fun t => !s.crowded z (((all.filter (· != t)).map (s.standingEntry z)) ++ ca ++ own) t)).map (fun t =>
    let e := s.standingEntry z t
    { e with long := e.long || !s.presetValid z e.term, src := if alone then 3 else 1 })
  let kept := st.filter (s.keeps z) ++ ca ++ own.filter (s.keeps z)
  (headBursts (s.rate z) none (sortBy Entry.before kept), (all.length + ca.length + own.length) - kept.length)

/-- Whether an entry is a part of a window that an earlier frame opened (R162, R198): its record shows source 2, or 3 in a frame that stands alone (R197). -/
def Entry.carried (e : Entry) : Bool := e.kind != .grant && (e.src == 2 || e.src == 3)

/-- In order of P. -/
def Win.before (a b : Win) : Bool := decide (a.p ≤ b.p)

/-- The arming entries of a sorted sheet of frame n, one for each burst and window (R204, R134). `own`: this unit sends the map. -/
def State.arming (s : State) (z n : Nat) (own : Bool) : List Entry → List Win
  | [] => []
  | e :: es =>
    let rest := s.arming z n own es
    match e.kind with
    | .grant =>
      if e.joined then rest
      else
        let chain := es.takeWhile (fun x => x.kind == .grant && x.joined && x.term == e.term)
        let fin := match chain.getLast? with | some l => l.hi | none => e.hi
        { kind := .grant, term := e.term, allocs := (e :: chain).map (fun x => (x.alloc, x.size)), p := s.burstP z n e.start, shift := s.armShift z,
          fin := s.upStart z n + (s.rate z).ticks fin, long := e.long, preset := if e.long && !s.presetValid z e.term then 1020 else e.term,
          swWrote := false, frame := n, chan := e.chan, own := own, wide := false } :: rest
    | k =>
      -- a carried part goes on in the window its first part armed
      if !e.carried ∧ k ≠ .silence then
        { kind := k, term := e.term, allocs := [], p := s.upStart z n + (s.rate z).ticks e.start, shift := s.armShift z,
          fin := s.upStart z n + (s.rate z).ticks (e.hi + e.left), long := true, preset := 1020, swWrote := false, frame := n, chan := 0,
          own := own, wide := false } :: rest
      else rest

/-- The acquisition of an understudy widens the first window granted to an active terminal in each frame (R257). -/
def State.widen (s : State) (z : Nat) : List Win → List Win
  | [] => []
  | w :: ws => if w.kind = .grant ∧ s.active z w.term then { w with wide := true } :: ws else w :: s.widen z ws

/-- When the search of a window is over: a widened one looks 10 µs past its end (R257). -/
def Win.closes (w : Win) : Nat := if w.wide then w.fin + 62208 else w.fin

/-- Queues the arming entries of a fixed sheet (R204). -/
def State.arm (s : State) (z n : Nat) (own : Bool) (es : List Entry) : State :=
  let ws := s.arming z n own es
  let ws := if own || s.flag Reg.Twn.DELTA_VALID [z] then ws else s.widen z (sortBy Win.before ws)
  s.modTree z (fun tr => { tr with wins := sortBy Win.before (tr.wins ++ ws) })

/-- A sheet that was not sealed in time: the open sheet is discarded, and with it what its windows carried forward (R197). -/
def State.discardSheet (s : State) (z : Nat) : State :=
  let n := s.rd Reg.Cue.FRAME [z]
  s.modTree z (fun tr => { tr with sheet := [], carried := tr.carried.filter (fun c => c.origin != n) })

/-- Whether tree z's port runs its downstream engine in the head role (R131). -/
def State.framing (s : State) (z : Nat) : Bool := decide (z < 64) && s.head z && s.flag Reg.Hid.F_ON [z]

/-- The sheet of the present frame is fixed, merged and, but in a shadow, armed (R196, R197, R204). -/
def State.fixSheet (s : State) (z : Nat) : State :=
  let s := s.advanceTo (s.rd Reg.Hid.D_EXT [z])
  let tr := s.tree z
  let alone := !tr.sealed || tr.late
  let s := if alone then s.discardSheet z else s
  let s :=
    if !s.flag Reg.Cue.LOADED [z] || s.understudy z then s
    else if alone then ((s.addTo Reg.Cue.LATE_SHEETS [z] 1).addTo Reg.Hid.LATE_INT [z] 1).raise 0x51 (treeObj z) [s.rd Reg.Cue.FRAME [z]]
    else s.addTo Reg.Cue.SHEETS_OK [z] 1
  let s := if tr.sealed then s else s.wr Reg.Cue.SEAL_CYCLE [z] 0xFFFFF
  let (es, out) := s.merge z alone
  let s := s.addTo Reg.Cue.OMITTED [z] out
  let s := s.modTree z (fun tr => { tr with fixed := some (es, alone) })
  if s.understudy z then s else s.arm z (s.rd Reg.Cue.FRAME [z]) true es

/-- `SHEET_DEADLINE` (R197): D_k of the present frame is reached. -/
def execSheetDeadline (z : Nat) (s : State) : Out' :=
  if !s.framing z || !s.flag Reg.Hid.F_RUN [z] || (s.tree z).fixed.isSome || s.flag Reg.Pon.BOND_PARTNER [z] then .next s
  else .next (s.fixSheet z)

end Sys2Proof.Machine
end

