-- ==== Sys2Proof/Machine/Twin.lean ====
section
/-! DEFINITION. The pair (R231–R268): forming, the cue light, claim words, the footlight rule, take-over, shadow tracking and
wait-to-restore. -/

namespace Sys2Proof.Machine

/-! ### Modes and forming (R231–R237) -/

/-- `PAIRING` (R15, R231). -/
def State.pairing (s : State) : Nat := s.rd Reg.Bar.PAIRING []

/-- 24 µs in ticks (R242, R250). -/
def t24 : Nat := 149299

/-- The last moment at which a carrier was valid (R242). -/
def State.carrierAt (s : State) (c : Nat) : Nat := s.rd Reg.Hid.CARRIER_AT [c] - 1

/-- Whether a carrier is current (R242): a valid frame within the last 24 µs. -/
def State.carrierOn (s : State) (c : Nat) : Bool :=
  s.rd Reg.Hid.CARRIER_AT [c] != 0 && decide (s.ext ≤ s.carrierAt c + t24)

/-- The conditions of R235 apart from the copying of R267; a unit that started alone beside a twin that runs stays apart (R234). -/
def State.pairLive (s : State) : Bool :=
  s.pairing != 0 && !s.flag Reg.Hid.ALONE [0] && s.carrierOn 0 && s.flag Reg.Twn.LANES_UP [] && s.flag Reg.Twn.ALIGN_OK [] && !s.flag Reg.Twn.PAIR_MISMATCH []

/-- `PAIR_OK` (R235, R267). -/
def State.pairOk (s : State) : Bool := s.flag Reg.Hid.FORMED [0] && s.pairLive

/-- Stage time starts at a value (R234): a start is no step, of the PTP domains either, which have held still (R403). What `BOOT_TIME` reads then is open (log 3). -/
def State.startTime (s : State) (e : Nat) : State :=
  if s.timeOn then s
  else
    -- the cue light has run since `PAIR_SEL` and does not refer to stage time (R238): when its next frame starts is open
    let s := if s.pairing = 0 then s else s.wr Reg.Hid.CUE_NEXT [0] (e + Config.choice s.freeCtr % 49760)
    ({ s with ext := e, timeOn := true, freeCtr := s.freeCtr + 1,
                 ptp := { s.ptp with a := { s.ptp.a with since := e }, b := { s.ptp.b with since := e }, carryAt := e } } : State).wr Reg.Hid.BOOT_FREE [0] (s.freeCtr + 1) |>.wr Reg.Hid.BOOT_E [0] e

/-- `PAIR_SEL` is written (R232, R234): the mode is chosen; in solo stage time starts, in a graft mode the links come up, probing starts, and `PAIR_WAIT` counts as
it stands now. -/
def State.pairSelected (s : State) (m : Nat) : State :=
  let s := s.wr Reg.Hid.PAIR_WAIT_SET [0] (s.rd Reg.Twn.PAIR_WAIT [])
  let s := (((s.wr Reg.Twn.PAIR_SEL [] m).wr Reg.Twn.PAIR_SET [] 1).wr Reg.Bar.PAIRING [] m).wr Reg.Twn.PAIRING [] m
  if m = 0 then s.startTime 0 else s

/-- `PAIR_WAIT_EXPIRY` (R234): no probe was answered within `PAIR_WAIT`, which `BOOT_TIME` has counted; stage time starts at 0 alone. -/
def execPairWaitExpiry (s : State) : Out' :=
  if s.pairing = 0 ∨ !s.flag Reg.Twn.PAIR_SET [] ∨ s.timeOn ∨ s.flag Reg.Hid.PROBED [0] then .next s
  else .next (((s.startTime 0).wr Reg.Hid.ALONE [0] 1).wr Reg.Hid.BOOT_ADD [0] (msTicks (s.rd Reg.Hid.PAIR_WAIT_SET [0])))

/-- `ALIGNMENT_PROBE` (R234, R237, R243): a probe goes out as a message of class 2 and is answered. A held unit starts from a running twin, or unit 0 at 0; a running
one measures its alignment. A twin that is held will start from this unit, and one that runs and did not start alone has started from it, so that neither stays apart.
DESIGN CHOICE: `ALIGN_ERR` holds the nearest value its 8 bits
can (−128 to 127); the event carries the whole measurement (log 115). -/
def execAlignmentProbe (p : Probe) (s : State) : Out' :=
  if s.pairing = 0 ∨ !s.flag Reg.Twn.LANES_UP [] then .next s
  else
  let s := (s.emit (.twin 2 [bit s.timeOn, s.ext])).wr Reg.Hid.PROBED [0] 1
  let s := if p.running && p.alone then s else s.wr Reg.Hid.ALONE [0] 0
  if !s.timeOn then
    if p.running then .next (s.startTime (p.twinExt + p.latency))
    else if s.env.unit = 0 then .next (s.startTime 0)
    else .next s
  else
    let s := s.wr Reg.Twn.ALIGN_ERR [] (unsigned 8 (max (-128) (min 127 p.err)))
    if p.err.natAbs ≤ 2 then .next (s.wr Reg.Twn.ALIGN_OK [] 1)
    else .next ((s.wr Reg.Twn.ALIGN_OK [] 0).raise 0xA1 (Reg.Twn.ALIGN_ERR.addr []) [unsigned 40 p.err])

/-! ### Claims (R245–R249, R262) -/

/-- The penalty of a cause, by its bit of `PEN` (R246). -/
def penalty (b : Nat) : Nat := [8, 8, 4, 4, 4, 2, 15].getD b 0

/-- The health of a tree (R245); 0 while a reset is announced (R264). -/
def State.health (s : State) (z : Nat) : Nat :=
  if s.flag Reg.Hid.RST_NOTICE [0] then 0
  else 15 - ((List.range 7).map (fun b => if (s.rd Reg.Twn.PEN [z]).testBit b then penalty b else 0)).sum

/-- Whether the unit may light tree z (R245). -/
def State.eligible (s : State) (z : Nat) : Bool :=
  s.pairing == 2 && s.head z && !(s.flag Reg.Hid.TWIN_CFG_V [z] && (s.rd Reg.Hid.TWIN_MODE [z] != s.mode z || s.rd Reg.Hid.TWIN_RATE [z] != s.rd Reg.Pon.UP_RATE [z]))

/-- `PRIO_ADV` (R247). -/
def State.prioAdv (s : State) (z : Nat) : Nat := if s.flag Reg.Twn.WTR_RUN [z] then 0 else s.rd Reg.Twn.PRIO [z]

/-- The claim word of a tree (R245); zero in graft-wide mode (R231) and for an odd bonded port (R124). -/
def State.claim (s : State) (z : Nat) : Nat :=
  if !s.eligible z || s.flag Reg.Pon.BOND_PARTNER [z] then 0
  else s.health z * 4096 + s.prioAdv z * 256 + s.rd Reg.Twn.EPOCH [z] * 2 + s.env.unit

/-- A wait-to-restore starts (R262). -/
def State.startWtr (s : State) (z : Nat) : State :=
  (s.wr Reg.Twn.WTR_RUN [z] 1).wr Reg.Hid.WTR_END [z] (s.ext + secTicks (s.rd Reg.Twn.WTR []) + 1)

/-- A wait-to-restore, or its dark rehearsal, ends. -/
def State.stopWtr (s : State) (z : Nat) : State :=
  ((s.wr Reg.Twn.WTR_RUN [z] 0).wr Reg.Hid.WTR_END [z] 0).wr Reg.Hid.WTR_DARK [z] 0

/-- A cause of R246 becomes active or clears, before `PAIR_SEL` chooses a mode too: health back at 15 while the pair is formed starts a wait, a fall of health stops
one (R262). -/
def State.setPen (s : State) (z b : Nat) (v : Bool) : State :=
  let p := s.rd Reg.Twn.PEN [z]
  if p.testBit b = v then s
  else
    let h := s.health z
    let s := s.wr Reg.Twn.PEN [z] (if v then p + 2 ^ b else p - 2 ^ b)
    let s := if b = 6 then s.wr Reg.Twn.TKO_FAIL [z] (bit v) else s
    if s.pairing ≠ 2 then s
    else if h < 15 ∧ s.health z = 15 ∧ s.pairOk then s.startWtr z
    else if s.health z < h then s.stopWtr z
    else s

/-- A cause that concerns every tree. -/
def State.setPenAll (s : State) (b : Nat) (v : Bool) : State := upTo (fun z s => s.setPen z b v) 64 s

/-- `WTR_EXPIRY` (R262): the wait has run and a dark rehearsal of the tree's path is asked for. -/
def execWtrExpiry (z : Nat) (s : State) : Out' :=
  let e := s.rd Reg.Hid.WTR_END [z]
  if 64 ≤ z ∨ e = 0 ∨ !s.flag Reg.Twn.WTR_RUN [z] then .next s
  else .next ((((s.advanceTo (e - 1)).wr Reg.Hid.WTR_END [z] 0).wr Reg.Hid.WTR_DARK [z] 1).wr Reg.Reh.DARK_BUSY [z] 1)

/-! ### The cue light (R238–R242, R252) -/

/-- The trees the footlight stage lights, as the 64 bits of `LIT`. -/
def State.litMask (s : State) : Nat := ((List.range 64).map (fun z => if s.flag Reg.Pon.LIT [z] then 2 ^ z else 0)).sum

/-- `HOLDER` (R268): 0 this unit, 1 the twin, 2 neither. -/
def State.holder (s : State) (z : Nat) : Nat := if s.pairing ≠ 2 then 2 else if s.flag Reg.Pon.LIT [z] then 0 else if s.twinLit z then 1 else 2

/-- The low `n` bits of a number, the most significant first. -/
def bitList (n v : Nat) : List Nat := (List.range n).map (fun i => v / 2 ^ (n - 1 - i) % 2)

/-- Bits as a number, the first the most significant. -/
def ofBits (l : List Nat) : Nat := l.foldl (fun a b => 2 * a + b) 0

/-- `SYNC` (R239). -/
def cueSync : Nat := 0x7A1C36E5

/-- The CRC-32 of IEEE 802.3 over bits in the order of transmission (R240). -/
def crc32 (l : List Nat) : Nat :=
  0xFFFFFFFF ^^^ l.foldl (fun c b => (c * 2 % 2 ^ 32) ^^^ (if (c / 2 ^ 31 + b) % 2 = 1 then 0x04C11DB7 else 0)) 0xFFFFFFFF

/-- The scrambler x^58 + x^39 + 1 (R240): what leaves, and the last 58 bits that left. -/
def scramble : Nat → List Nat → List Nat × Nat
  | r, [] => ([], r)
  | r, b :: t =>
    let o := (b + r / 2 ^ 38 + r / 2 ^ 57) % 2
    let (l, r) := scramble ((2 * r + o) % 2 ^ 58) t
    (o :: l, r)

/-- The descrambler: what was sent, and the last 58 bits received. -/
def descramble : Nat → List Nat → List Nat × Nat
  | r, [] => ([], r)
  | r, b :: t =>
    let (l, r') := descramble ((2 * r + b) % 2 ^ 58) t
    ((b + r / 2 ^ 38 + r / 2 ^ 57) % 2 :: l, r')

/-- Bits 32 to 1,211 of a cue light frame, in the order of transmission (R239). -/
def cueBody (unit mode : Nat) (f : CueFrame) : List Nat :=
  bitList 4 1 ++ bitList 1 unit ++ bitList 2 mode ++ bitList 8 f.flags ++ bitList 24 f.hb ++ bitList 40 f.stamp ++
    (List.range 64).map (fun z => bit (f.lit.testBit z)) ++ ((List.range 64).map (fun z => bitList 16 (f.claims.getD z 0))).flatten ++ bitList 13 0

/-- A frame's payload: bits 32 to 1,243, with the `CRC` (R240, R242). -/
def cuePayload (unit mode : Nat) (f : CueFrame) : List Nat := cueBody unit mode f ++ bitList 32 (crc32 (cueBody unit mode f))

/-- A frame's bits as the cue light sends them, and the scrambler after them (R239, R240). -/
def cueLine (r unit mode : Nat) (f : CueFrame) : Nat × Nat :=
  let (l, r) := scramble r (cuePayload unit mode f)
  (cueSync * 2 ^ 1212 + ofBits l, r)

/-- `CUE_LIGHT_FRAME_TX` (R238–R240, R242, R243): a frame leaves, and its payload over the twin lanes as a message of class 1; the accumulator places the next one,
with a fill bit between them where it has come to 40 ticks. Frames run while stage time is held too, and then carry stage time 0 (R234). What a fill bit carries is open: a free value (log 116). -/
def execCueLightFrameTx (s : State) : Out' :=
  if s.pairing = 0 then .next s
  else
    let s := s.advanceTo (s.rd Reg.Hid.CUE_NEXT [0])
    let hb := (s.rd Reg.Twn.HB_TX [] + 1) % 2 ^ 24
    let claims := (List.range 64).map s.claim
    let flags := s.rd Reg.Hid.RST_NOTICE [0] + 2 * s.rd Reg.Twn.TWIN_LOST [] + 4 * bit s.pairOk
    let f : CueFrame := { hb := hb, stamp := s.ext, flags := flags, lit := s.litMask, claims := claims }
    let acc := s.rd Reg.Hid.CUE_ACC [0] + 64
    let (line, r) := cueLine (s.rd Reg.Hid.CUE_SCR_TX [0]) s.env.unit s.pairing f
    let (fill, s) : Option Bool × State :=
      if acc < 400 then (none, s.wr Reg.Hid.CUE_SCR_TX [0] r)
      else
        let (w, t) := s.freeWord
        let (l, r) := scramble r [w.toNat % 2]
        (some (l.headD 0 == 1), t.wr Reg.Hid.CUE_SCR_TX [0] r)
    let s := (s.wr Reg.Twn.HB_TX [] hb).emit (.cueLight f line fill)
    let s := if s.flag Reg.Twn.LANES_UP [] then s.emit (.twin 1 [ofBits (cuePayload s.env.unit s.pairing f)]) else s
    let s := if s.pairing = 2 then upTo (fun z s => s.wr Reg.Twn.CLAIM [z] (claims.getD z 0)) 64 s else s
    let s := (s.wr Reg.Hid.CUE_ACC [0] (acc % 400)).wr Reg.Hid.CUE_NEXT [0] (s.ext + 49760 + (if 400 ≤ acc then 40 else 0))
    .next { s with pair := { s.pair with sent := f :: s.pair.sent.take 63 } }

/-- A valid frame's content is taken over (R242, R252, R268). -/
def State.acceptFrame (s : State) (f : CueFrame) : State :=
  let s := { s.wr Reg.Twn.HB_RX [] f.hb with pair := { s.pair with rcvd := f :: s.pair.rcvd.take 63 } }
  if s.pairing ≠ 2 then (s.wr Reg.Twn.TWIN_LIT_LO [] (f.lit % 2 ^ 32)).wr Reg.Twn.TWIN_LIT_HI [] (f.lit / 2 ^ 32)
  else
    let s := upTo (fun z s =>
      let s := (s.wr Reg.Twn.TWIN_CLAIM [z] (f.claims.getD z 0)).wr Reg.Twn.TWIN_VALID [z] 1
      -- the view is corrected to the bits (R268)
      let s := if f.lit.testBit z ≠ s.twinLit z then s.raise 0x70 (Reg.Twn.HOLDER.addr [z]) [bit (s.twinLit z), bit (f.lit.testBit z)] else s
      if f.lit.testBit z ∧ s.flag Reg.Pon.LIT [z] ∧ s.rd Reg.Hid.LIT_SINCE [z] < f.stamp then
        (s.addTo Reg.Twn.DOUBLE_LIGHTS [] 1).raise 0xA6 (Reg.Twn.CLAIM.addr [z]) []
      else s) 64 s
    (s.wr Reg.Twn.TWIN_LIT_LO [] (f.lit % 2 ^ 32)).wr Reg.Twn.TWIN_LIT_HI [] (f.lit / 2 ^ 32)

/-- The fields of a received frame (R239), with the carrier it came on and whether its `CRC` checks. -/
structure CueRx where
  lanes : Bool
  crcOk : Bool
  typ : Nat
  unit : Nat
  mode : Nat
  flags : Nat
  hb : Nat
  stamp : Word
  lit : Nat
  claims : List Nat
deriving DecidableEq, Repr

/-- Bits `[a, a + n)` of a frame, counted as R239 does, in the payload's bits. -/
def cueBits (l : List Nat) (a n : Nat) : Nat := ofBits ((l.drop (a - 32)).take n)

/-- A payload's fields (R239). -/
def cueFields (lanes : Bool) (l : List Nat) : CueRx where
  lanes := lanes
  crcOk := cueBits l 1212 32 == crc32 (l.take 1180)
  typ := cueBits l 32 4
  unit := cueBits l 36 1
  mode := cueBits l 37 2
  flags := cueBits l 39 8
  hb := cueBits l 47 24
  stamp := BitVec.ofNat 40 (cueBits l 71 40)
  lit := ofBits ((l.drop 79).take 64).reverse
  claims := (List.range 64).map (fun z => cueBits l (175 + 16 * z) 16)

/-- The errors of a received `SYNC` (R241). -/
def syncErrors (line : Nat) : Nat := (bitList 32 (line / 2 ^ 1212 ^^^ cueSync)).sum

/-- A frame on the cue light goes through the descrambler (R240), after the fill bit that came before it. -/
def State.cueReceived (s : State) (r : RxFrame) : CueRx × State :=
  let (_, d) := descramble (s.rd Reg.Hid.CUE_SCR_RX [0]) (match r.fill with | some b => [bit b] | none => [])
  let (l, d) := descramble d (bitList 1212 r.line)
  (cueFields false l, s.wr Reg.Hid.CUE_SCR_RX [0] d)

/-- The twin claim is valid again (R242): the count of silent frames is over with the loss (R254). -/
def State.claimBack (s : State) : State :=
  upTo (fun z s => s.wr Reg.Twn.SILENT_CNT [z] 0) 64
    (((s.wr Reg.Twn.TWIN_LOST [] 0).wr Reg.Hid.BACK_AT [0] s.ext).raise 0xA4 (Reg.Twn.TWIN_LOST.addr []) [])

/-- A frame or copy whose lock is settled is judged (R236, R241, R242). -/
def State.judgeFrame (s : State) (r : CueRx) : State :=
  let c := bit r.lanes
  if !r.crcOk || r.typ != 1 then s.addTo Reg.Twn.CUE_CRC_ERR [] 1
  else if 62208 < (sdiff r.stamp s.nowW).natAbs then s.addTo Reg.Twn.CUE_STALE [] 1
  else if s.rd Reg.Hid.CARRIER_HB [c] = r.hb % 2 ^ 24 + 1 then s
  else if r.unit = s.env.unit ∨ r.mode ≠ s.pairing then
    (s.wr Reg.Twn.PAIR_MISMATCH [] 1).raise 0xA0 (Reg.Twn.PAIR_MISMATCH.addr []) [r.unit, r.mode]
  else
    let hb := r.hb % 2 ^ 24
    let s := (s.wr Reg.Hid.CARRIER_AT [c] (s.ext + 1)).wr Reg.Hid.CARRIER_HB [c] (hb + 1)
    if s.pair.rcvd.any (fun f => f.hb == hb) then s
    else
      let s := s.acceptFrame { hb := hb, stamp := s.extOf r.stamp, flags := r.flags, lit := r.lit, claims := r.claims }
      if s.flag Reg.Twn.TWIN_LOST [] then s.claimBack else s

/-- `CUE_LIGHT_FRAME_RX` (R241): frame lock on the cue light, then the judgement. -/
def execCueLightFrameRx (r : RxFrame) (s : State) : Out' :=
  if s.pairing = 0 then .next s
  else if r.lanes then .next (if s.flag Reg.Twn.LANES_UP [] then s.judgeFrame (cueFields true (bitList 1212 r.line)) else s)
  else
    let (f, s) := s.cueReceived r
    if 2 < syncErrors r.line then
      if s.flag Reg.Twn.CUE_UP [] then .next (s.addTo Reg.Twn.CUE_CRC_ERR [] 1) else .next (s.wr Reg.Hid.CUE_SYNCS [0] 0)
    else if s.flag Reg.Twn.CUE_UP [] then .next (s.judgeFrame f)
    else if s.flag Reg.Hid.CUE_SYNCS [0] && r.spaced then .next ((s.wr Reg.Twn.CUE_UP [] 1).judgeFrame f)
    else .next (s.wr Reg.Hid.CUE_SYNCS [0] 1)

/-- `CUE_LINK` (R241): four consecutive `SYNC` patterns are missing, and frame lock is lost. -/
def execCueLink (s : State) : Out' :=
  if s.pairing = 0 ∨ !s.flag Reg.Twn.CUE_UP [] then .next s
  else .next (((s.wr Reg.Twn.CUE_UP [] 0).wr Reg.Hid.CUE_SYNCS [0] 0).raise 0xA2 (Reg.Twn.CUE_UP.addr []) [0])

/-- `TWIN_CLAIM_LOST` (R242): neither carrier has been current for 24 µs. -/
def execTwinClaimLost (s : State) : Out' :=
  if s.pairing = 0 ∨ s.flag Reg.Twn.TWIN_LOST [] ∨ !s.timeOn then .next s
  else
    let s := s.advanceTo (max (s.carrierAt 0) (s.carrierAt 1) + t24)
    let s := (((s.wr Reg.Twn.TWIN_LOST [] 1).addTo Reg.Twn.CLAIM_LOSSES [] 1).wr Reg.Hid.LOST_AT [0] (s.ext + 1)).raise 0xA3 (Reg.Twn.TWIN_LOST.addr []) []
    .next (upTo (fun z s => s.wr Reg.Twn.TWIN_VALID [z] 0) 64 s)

/-! ### The footlight rule (R250, R251, R254) -/

/-- The newest frame whose `STAMP` lies before `c`. -/
def selectFrame (c : Nat) (fs : List CueFrame) : Option CueFrame :=
  fs.foldl (fun best f => if c ≤ f.stamp then best else
    match best with | some b => if b.stamp < f.stamp then some f else best | none => some f) none

/-- Whether the twin claim was lost at a moment (R250). -/
def State.lostAt (s : State) (c : Nat) : Bool :=
  let l := s.rd Reg.Hid.LOST_AT [0]
  l != 0 && decide (l - 1 ≤ c) && (s.flag Reg.Twn.TWIN_LOST [] || decide (c < s.rd Reg.Hid.BACK_AT [0]))

/-- The silence wait of a tree (R254). -/
def State.silenceWait (s : State) (z : Nat) : Nat :=
  let n := s.rd Reg.Twn.N_SILENT []
  if s.twinLit z || s.env.unit == 0 then n else 2 * n + 2

/-- The footlight rule for tree z at boundary f (R251): whether to light it, and `CUT_GAPS` counted. -/
def State.footlight (s : State) (z f : Nat) : Bool × State :=
  let c := f - t24
  let lit := s.flag Reg.Pon.LIT [z]
  let hold := fun (b : Bool) => if b && !lit && !s.flag Reg.Twn.ALIGN_OK [] then false else b
  if !s.eligible z || s.flag Reg.Twn.PAIR_MISMATCH [] then (false, s)
  else if s.lostAt c then (hold (lit || decide (s.silenceWait z ≤ s.rd Reg.Twn.SILENT_CNT [z])), s)
  else
    match selectFrame c s.pair.rcvd with
    | none => (lit, s.addTo Reg.Twn.CUT_GAPS [] 1)
    | some tw =>
      if !s.pair.rcvd.any (fun g => g.hb == (tw.hb + 1) % 2 ^ 24 && decide (c ≤ g.stamp)) then (lit, s.addTo Reg.Twn.CUT_GAPS [] 1)
      else
        let t := tw.claims.getD z 0
        let own := match selectFrame c s.pair.sent with | some o => o.claims.getD z 0 | none => 0
        (hold (t == 0 || decide (t < own)), s)

/-! ### Take-over (R249, R258, R259) -/

/-- The unit newly lights a tree by the rule (R249, R258 steps 1 and 5). `plain`: the twin's claim at the cut carried the no-terminal or the
take-over-failed penalty, and no verification follows (R259). -/
def State.takeOver (s : State) (z : Nat) (plain : Bool) : State :=
  let e := if s.pair.rcvd.isEmpty then 1 else s.rd Reg.Twn.TWIN_CLAIM [z] / 2 % 128
  let s := s.wr Reg.Twn.SHIFT [z] (unsigned 32 (s.armShift z))
  let s := ((s.wr Reg.Twn.EPOCH [z] (if e = 127 then 2 else e + 1)).wr Reg.Twn.LAST_TKO [z] s.now).addTo Reg.Twn.TAKEOVERS [z] 1
  let s := (s.wr Reg.Hid.VERIFY_N [z] 0).wr Reg.Twn.SILENT_CNT [z] 0
  s.wr Reg.Twn.VERIFYING [z] (bit !plain)

/-- The unit goes dark by the rule: its epoch after 127 (R249), the messages it holds are discarded (R157), it waits for no Acknowledge any more and averages again (R170), and it is an understudy from here on, which
measures its leg difference, relative to the new holder's shift, from the next burst on as R257 says (R258 step 6). -/
def State.handOver (s : State) (z : Nat) : State :=
  let s := if s.rd Reg.Twn.EPOCH [z] = 127 then s.wr Reg.Twn.EPOCH [z] 1 else s
  let s := s.clearRange (Reg.Hid.DRIFT_SENDS.addr [z, 0]) (Reg.Hid.DRIFT_SENDS.addr [z + 1, 0])
  ((s.wr Reg.Twn.VERIFYING [z] 0).wr Reg.Hid.NT_RUN [z] 0).modTree z (fun tr => { tr with ctrl := [], offs := [] })

/-- A delimiter is found in a window of the tree: it ends a verification (R259) and both no-terminal penalties (R246). -/
def State.heard (s : State) (z : Nat) : State :=
  let s := if s.flag Reg.Twn.VERIFYING [z] then
      ((s.wr Reg.Twn.VERIFYING [z] 0).wr Reg.Twn.TKO_CODE [z] 0).raise 0xA9 (Reg.Twn.TKO_CODE.addr [z]) [0] else s
  (s.setPen z 2 false).setPen z 3 false

/-- `VERIFICATION_END` (R259): N_verify frames have passed without a delimiter. -/
def execVerificationEnd (z : Nat) (s : State) : Out' :=
  if decide (64 ≤ z) || !s.flag Reg.Twn.VERIFYING [z] || decide (s.rd Reg.Hid.VERIFY_N [z] < s.rd Reg.Twn.N_VERIFY []) then .next s
  else
    .next ((((s.wr Reg.Twn.VERIFYING [z] 0).wr Reg.Twn.TKO_CODE [z] 0x71).raise 0xA9 (Reg.Twn.TKO_CODE.addr [z]) [0x71]).setPen z 6 true)

/-! ### Shadow tracking (R199, R256, R257) -/

/-- An entry as the twin-lane message carries it. -/
def Entry.msg (e : Entry) : MsgEntry :=
  { kind := e.kind.code, alloc := e.alloc, term := e.term, start := e.start, size := e.size, ovh := e.ovh, long := e.long, report := e.report,
    ploam := e.ploam, joined := e.joined, carried := e.carried, chan := e.chan, left := e.left }

/-- The kind of an entry by its code. -/
def entKind (k : Nat) : EntKind := match k with | 0 => .grant | 1 => .disc | 2 => .rng | _ => .silence

/-- A received entry as an entry of a sheet. -/
def MsgEntry.entry (m : MsgEntry) : Entry :=
  { kind := entKind m.kind, alloc := m.alloc, term := m.term, start := m.start, size := m.size, ovh := m.ovh, long := m.long, report := m.report,
    ploam := m.ploam, joined := m.joined, src := if m.carried then 2 else 0, chan := m.chan, left := m.left }

/-- The index of the first entry in which two sheets differ. -/
def firstDiff : List MsgEntry → List MsgEntry → Nat → Option Nat
  | [], [], _ => none
  | a :: as, b :: bs, i => if a = b then firstDiff as bs (i + 1) else some i
  | _, _, i => some i

/-- Completes the sheet ticket of a frame (R79, R82). -/
def State.completeSheet (s : State) (z frame : Nat) (w : Word) : State :=
  s.modTree z (fun tr =>
    let f := fun (o : Option (Nat × Option Word)) => match o with | some (k, none) => if k = frame then some (k, some w) else o | _ => o
    { tr with ticketNow := f tr.ticketNow
              ticketPrev := f tr.ticketPrev })

/-- The shadow sheet of a frame leaves the list of those that wait. -/
def State.takeShadow (s : State) (z frame : Nat) : Option (List Entry × Bool) × State :=
  let l := (s.tree z).shadow
  ((l.find? (fun x => x.1 == frame)).map Prod.snd, s.modTree z (fun tr => { tr with shadow := l.filter (fun x => x.1 != frame) }))

/-- The ticket word of a fixed sheet. -/
def sheetWord (es : List Entry) (alone : Bool) : Word := if alone then cword 0x51 0 else cword 0 es.length

/-- A burst summary of the lighting unit for the sheet of a frame, by this port's own number of it (R246). -/
def State.summary (s : State) (z : Nat) (frame : Int) (n : Nat) : State :=
  let mine := ((s.tree z).seen.find? (fun x => (x.1 : Int) == frame)).isSome
  let r := if n ≠ 0 ∧ !mine then min 15 (s.rd Reg.Hid.UNDER_RUN [z] + 1) else 0
  let s := s.wr Reg.Hid.UNDER_RUN [z] r
  if r ≠ 0 ∧ s.rd Reg.Twn.N_MISS [] ≤ r then s.setPen z 3 true else s

/-- `SEALED_SHEET_RX` (R255, R256): the twin's sheet arms the receiver and is compared with the shadow sheet of its frame; a sheet of a frame before this port's
first arms nothing (log 102). -/
def execSealedSheetRx (z : Nat) (m : SheetMsg) (s : State) : Out' :=
  if !s.framing z || !s.understudy z || !s.flag Reg.Twn.LANES_UP [] then .next s
  else
    let s := m.summary.foldl (fun s x => s.summary z (s.ownFrame z x.1) x.2) s
    let s := s.wr Reg.Hid.SA [z] (unsigned 32 m.shift)
    match s.ownFrame z m.frame with
    | .negSucc _ => .next s
    | .ofNat k =>
      let es := m.entries.map MsgEntry.entry
      let (sh, s) := s.takeShadow z k
      let s := s.arm z k false es
      match sh with
      | none => .next s
      | some (own, alone) =>
        let s := match firstDiff m.entries (own.map Entry.msg) 0 with
          | some i => (s.addTo Reg.Twn.DIVERGE [z] 1).raise 0xA7 (Reg.Twn.DIVERGE.addr [z]) [k, i]
          | none => s
        .next (s.completeSheet z k (sheetWord own alone))

/-- `SHEET_MISSING` (R256): no sheet by F_{k+1} + 20 µs; the understudy arms from its own shadow sheet. No
comparison will be made, and the ticket of the shadow's own `SEAL` completes as a sealed sheet's does (R82 leaves it open; DESIGN CHOICE, log 131). -/
def execSheetMissing (z : Nat) (s : State) : Out' :=
  if !s.framing z || !s.understudy z then .next s
  else
    match (s.tree z).shadow with
    | [] => .next s
    | (k, es, alone) :: rest =>
      let s := s.advanceTo (s.rd Reg.Hid.F_EXT [z] + 124416)
      let s := (s.addTo Reg.Twn.SHEETS_MISSING [] 1).modTree z (fun tr => { tr with shadow := rest })
      .next ((s.arm z k false es).completeSheet z k (sheetWord es alone))

/-- The leg difference is out of range (R257). -/
def State.checkDelta (s : State) (z : Nat) : State :=
  if 497664 < (signed 32 (s.rd Reg.Twn.DELTA [z])).natAbs then
    (s.wr Reg.Twn.DELTA_VALID [z] 0).raise 0xA8 (Reg.Twn.DELTA.addr [z]) [s.rd Reg.Twn.DELTA [z]]
  else s

/-- An offset from P + s_a, in 1/8 tick, reaches the leg difference (R257, R258 step 6): `wide` from an acquisition window, else from a normal one. Sixteen offsets
agree where each lies within 4 ticks of their mean, which is rounded down to 1/8 tick (DEDUCED, log 137). -/
def State.legOffset (s : State) (z : Nat) (wide : Bool) (o : Int) : State :=
  if s.flag Reg.Twn.DELTA_VALID [z] then
    if wide then s
    else
      let d := signed 32 (s.rd Reg.Twn.DELTA [z])
      (s.wr Reg.Twn.DELTA [z] (unsigned 32 (d + (o - d).fdiv 64))).checkDelta z
  else if !wide then s
  else
    let l := (o :: (s.tree z).offs).take 16
    let m := l.sum.fdiv (l.length : Nat)
    if l.length = 16 ∧ l.all (fun x => decide ((x - m).natAbs ≤ 32)) then
      (((s.wr Reg.Twn.DELTA [z] (unsigned 32 m)).wr Reg.Twn.DELTA_VALID [z] 1).modTree z (fun tr => { tr with offs := [] })).checkDelta z
    else s.modTree z (fun tr => { tr with offs := l })

end Sys2Proof.Machine
end

