-- ==== Sys2Proof/Machine/Burst.lean ====
section
/-! DEFINITION. The burst receiver in service (R127, R134–R143, R171, R174) and the report digest (R190). -/

namespace Sys2Proof.Machine

/-! ### The report digest (R190) -/

/-- What the digest holds of an allocation that has never reported. -/
def emptyDig : Dig :=
  { backlog := 0, idle := 0, age := 15, fresh := false, missed := false, invalid := false, reports := 0, granted := 0, received := 0, nmissed := 0 }

/-- Changes the digest of an allocation. -/
def State.modDig (s : State) (z a : Nat) (f : Dig → Dig) : State :=
  s.modTree z (fun tr => { tr with dig := tr.dig.put a (f ((tr.dig.get? a).getD emptyDig)) })

/-- A buffer report reaches the digest: a valid one is the last valid report, one that failed its check leaves `BACKLOG` (R190). -/
def State.report (s : State) (z : Nat) (r : BufReport) : State :=
  if 4096 ≤ r.alloc then s
  else s.modDig z r.alloc (fun d =>
    if r.valid then { d with backlog := min r.backlog 0xFFFFFF, age := 0, fresh := true, invalid := false, reports := d.reports + 1 }
    else { d with invalid := true })

/-- `REPORT` (R190): an MPCP REPORT of an EPON terminal. -/
def execReport (z : Nat) (rs : List BufReport) (s : State) : Out' :=
  if decide (z < 64) && s.head z && s.isEpon z then .next (rs.foldl (fun s r => s.report z r) s) else .next s

/-! ### Windows -/

/-- A granted window passes: what the frame's judgements of R151 and R259 need. R151 counts any granted window that passes while this unit lights the tree, whichever
unit's map granted it (DEDUCED, log 136). -/
def State.windowPassed (s : State) (z : Nat) (w : Win) : State :=
  if !s.active z w.term then s
  else
    let s := if s.understudy z then s else s.wr Reg.Hid.W_GRANT [z] 1
    if w.own then s.wr Reg.Hid.W_OWN [z] 1 else s

/-- A granted window in which no delimiter is found (R138, R141, R171, R256). -/
def State.missWindow (s : State) (z : Nat) (w : Win) : State :=
  let t := w.term
  let s := (s.windowPassed z w).countPort z 5
  let s := w.allocs.foldl (fun s a => s.modDig z a.1 (fun d => { d with missed := true, nmissed := d.nmissed + 1 })) s
  let s := s.pbBurst z t w.p 0 0 w.long { codewords := 0, corrected := 0, uncorrectable := 0, idle := [], reports := [], frames := [] } 1
  let n := s.rd Reg.Hid.MISS_RUN [z, t] + 1
  let s := if 2 ≤ n then ((s.wr Reg.Hid.MISS_RUN [z, t] 0).clearPreset z t).addTo Reg.Pon.PRESET_LOST [z] (bit (s.presetValid z t))
    else s.wr Reg.Hid.MISS_RUN [z, t] n
  if s.understudy z then (if s.active z t then s.addTo Reg.Twn.SHADOW_MISS [z] 1 else s)
  else
    let s := s.setTerm Reg.Rng.MISSED z t (min (s.rd Reg.Rng.MISSED [z, t] + 1) 15)
    if s.term z t = stACTIVE ∧ s.rd Reg.Rng.LOST_MISS [z] ≤ s.rd Reg.Rng.MISSED [z, t] then (s.enter z t stLOST).raise 0x98 (termObj z t) []
    else s

/-- `BURST_WINDOW_MISSED` (R141): a granted window ends with no candidate. -/
def execBurstWindowMissed (z : Nat) (s : State) : Out' :=
  if !(decide (z < 64) && s.head z) then .next s
  else
    match s.popWin z .grant with
    | none => .next s
    | some (w, s) => .next ((((s.advanceTo w.closes).armDue z).burstPins z w).missWindow z w)

/-! ### Reception (R136, R139, R167) -/

/-- The winner of the delimiter search (R139): candidates score 58 or more, the highest wins, among equals the earliest. -/
def searchDelim (lim : Int) (scores : List (Int × Nat)) : Option (Int × Nat) :=
  scores.foldl (fun best c =>
    if c.2 < 58 ∨ 64 < c.2 ∨ lim < c.1 ∨ c.1 < -lim then best
    else match best with
      | some b => if b.2 < c.2 ∨ (b.2 = c.2 ∧ c.1 < b.1) then some c else best
      | none => some c) none

/-- How far a window's search reaches, in bits (R139, R257). -/
def State.searchReach (s : State) (z : Nat) (w : Win) : Int := if w.wide then ((s.rate z).tickBits 62208 : Nat) else 64

/-- The burst's delimiter is found: what no header decides (R151, R171, R246, R259). -/
def State.delimFound (s : State) (z : Nat) (w : Win) : State :=
  let t := w.term
  let s := ((s.windowPassed z w).wr Reg.Hid.W_FOUND [z] 1).wr Reg.Hid.MISS_RUN [z, t] 0
  let s := s.modTree z (fun tr => { tr with seen := ((w.frame, 1 + (match tr.seen.find? (fun x => x.1 == w.frame) with | some x => x.2 | none => 0)) ::
    tr.seen.filter (fun x => x.1 != w.frame)).take 8 })
  let s := w.allocs.foldl (fun s a => s.modDig z a.1 (fun d => { d with missed := false, received := d.received + a.2 })) s
  let s := s.heard z
  if s.understudy z then s
  else
    let s := s.setTerm Reg.Rng.MISSED z t 0
    if s.term z t = stLOST then s.enter z t stACTIVE else s

/-- An in-service burst with a good header of its own terminal (R125, R136, R162, R167, R173, R174). -/
def State.goodBurst (s : State) (z : Nat) (w : Win) (obs : BurstObs) (d : Int) : State :=
  let t := w.term
  let s := ((s.inactiveSeen z w).goodIn z t (s.frameAt z w.p)).refine z w obs.gain obs.thr obs.phase obs.seed
  let s := if w.swWrote then s else s.autoLevel z t
  let s := if w.wide then s else s.drift z t d
  s.skewSeen z t obs.skew

/-- `BURST_RECEIVE` (R139): the search of a granted window finds a burst. -/
def execBurstReceive (z : Nat) (obs : BurstObs) (s : State) : Out' :=
  if !(decide (z < 64) && s.head z) then .next s
  else
    match s.popWin z .grant with
    | none => .next s
    | some (w, s) =>
      let s := ((s.advanceTo w.fin).armDue z).burstPins z w
      let s := if obs.overrun then s.evidence z .overrun (some w.term) else s
      match searchDelim (s.searchReach z w) (if s.ponClock then obs.scores else []) with
      | none => .next (s.missWindow z w)
      | some (d, score) =>
        if w.wide && !(obs.headerOk && obs.onu == w.term) then .next (s.missWindow z w)
        else
          let r := s.rate z
          let s := s.delimFound z w
          -- the offset from P + s_a in 1/8 tick: what shifted the window when it was armed, and the delimiter's place in it
          let o := w.shift + (8 * d * (r.bNum : Int)).fdiv (r.bDen : Int) - signed 32 (s.rd Reg.Hid.SA [z])
          let s := if s.understudy z then s.legOffset z w.wide o else s
          let delim := (Int.ofNat w.p + (d * (r.bNum : Int)).fdiv (r.bDen : Int)).toNat
          let ok := obs.headerOk && obs.onu == w.term
          let s := if ok then s.goodBurst z w obs d
            else if obs.headerOk then s.namedOther z obs.onu
            else if w.wide then s else s.drift z w.term d
          .next (s.modTree z (fun tr => { tr with bursts := tr.bursts ++
            [Burst.mk w.term w.allocs delim d score w.long ok] }))

end Sys2Proof.Machine
end

