-- ==== Sys2Proof/Machine/Forward.lean ====
section
/-! DEFINITION. Forwarding (R308–R334, R339–R342): the decision, tenant separation, source binding, the forwarding table with its insert engine and
its rake, replication, policing, and the queues' admission. -/

namespace Sys2Proof.Machine

/-! ### Frames -/

/-- A MAC address at a byte of a frame. -/
def macAt (b : List Nat) (i : Nat) : Nat := (List.range 6).foldl (fun a j => a * 256 + b.getD (i + j) 0 % 256) 0
/-- The EtherType at bytes 12–13. -/
def etherType (b : List Nat) : Nat := b.getD 12 0 * 256 + b.getD 13 0
/-- Whether a frame has an outer tag (types 0x8100 and 0x88A8, log 14). -/
def tagged (b : List Nat) : Bool := etherType b == 0x8100 || etherType b == 0x88A8
/-- The priority code point of the outer tag, 0 without one (R341). -/
def pcp (b : List Nat) : Nat := if tagged b then b.getD 14 0 / 32 % 8 else 0
/-- The drop-eligible bit of the outer tag (R342). -/
def dei (b : List Nat) : Bool := tagged b && (b.getD 14 0).testBit 4
/-- Sets the drop-eligible bit of the outer tag when there is one. -/
def setDei (b : List Nat) : List Nat := if tagged b && !dei b then b.set 14 (b.getD 14 0 + 16) else b
/-- Pushes a service tag: type 0x88A8, the VID, the priority of the inner tag (R342). -/
def pushTag (vid : Nat) (b : List Nat) : List Nat := b.take 12 ++ [0x88, 0xA8, pcp b * 32 + vid / 256 % 16, vid % 256] ++ b.drop 12
/-- Removes the outer tag. -/
def popTag (b : List Nat) : List Nat := if tagged b then b.take 12 ++ b.drop 16 else b
/-- A frame's length with the FCS. -/
def frameLen (b : List Nat) : Nat := b.length + 4

/-! ### Token buckets -/

/-- One byte where a rate of 8 kb/s adds one unit a tick (R336, R342). -/
def byteUnit : Nat := 6220800

/-- What a bucket lacks of being full, now. -/
def deficitNow (d since now rate : Nat) : Nat := d - (now - since) * rate

/-- A two-rate three-colour meter (R342): 0 green, 1 yellow, 2 red. `pre`: the frame arrives drop-eligible and the meter is colour-aware. -/
def State.meter (s : State) (p len : Nat) (pre : Bool) : Nat × State :=
  let c := deficitNow (s.rd Reg.Hid.POL_C [p]) (s.rd Reg.Hid.POL_C_AT [p]) s.ext (s.rd Reg.Fwd.CIR [p])
  let q := deficitNow (s.rd Reg.Hid.POL_P [p]) (s.rd Reg.Hid.POL_P_AT [p]) s.ext (s.rd Reg.Fwd.PIR [p])
  let n := len * byteUnit
  if s.rd Reg.Fwd.PBS [p] * byteUnit < q + n then (2, s)
  else
    let s := (s.wr Reg.Hid.POL_P [p] (q + n)).wr Reg.Hid.POL_P_AT [p] s.ext
    if (pre && s.flag Reg.Fwd.COLOUR_AWARE [p]) || decide (s.rd Reg.Fwd.CBS [p] * byteUnit < c + n) then (1, s)
    else (0, (s.wr Reg.Hid.POL_C [p] (c + n)).wr Reg.Hid.POL_C_AT [p] s.ext)

/-! ### Destinations (R311, R313, R318) -/

/-- The destination word of a flow of this unit. -/
def State.flowWord (s : State) (z f : Nat) : Nat := (if s.pairing = 0 then 0 else s.env.unit) * 2 ^ 20 + z * 2 ^ 14 + f
/-- The destination word of an uplink of this unit. -/
def State.uplinkWord (s : State) (u : Nat) : Nat := 2 ^ 21 + (if s.pairing = 0 then 0 else s.env.unit) * 2 ^ 20 + u
/-- `DKIND`. -/
def dKind (d : Nat) : Nat := d / 2 ^ 21 % 4
/-- The unit bit. -/
def dUnit (d : Nat) : Nat := d / 2 ^ 20 % 2
/-- The tree of a flow destination. -/
def dTree (d : Nat) : Nat := d / 2 ^ 14 % 64
/-- The flow of a flow destination. -/
def dFlow (d : Nat) : Nat := d % 2 ^ 14

/-- Whether a destination word has its form (R311): zeros where the table gives zero, unit bit 0 in solo mode. -/
def State.destOk (s : State) (d : Nat) : Bool :=
  decide (d < 2 ^ 23) &&
  (match dKind d with
   | 0 => s.pairing != 0 || dUnit d == 0
   | 1 => d / 32 % 2 ^ 15 == 0 && (s.pairing != 0 || dUnit d == 0)
   | 2 => d / 2 ^ 16 % 32 == 0 && d % 2 ^ 16 != 0
   | _ => d % 2 ^ 21 == 0)

/-- Whether a flow destination lies on the twin (R318): in graft-wide mode the unit bit says so. -/
def State.farFlow (s : State) (d : Nat) : Bool := s.pairing == 1 && dKind d == 0 && dUnit d != s.env.unit

/-- The tag of the flow a destination names: of the twin's flow record where the flow lies there, as the twin has told it (log 118). -/
def State.flowTenant (s : State) (d : Nat) : Nat := s.rd (if s.farFlow d then Reg.Hid.TWIN_FT else Reg.Fwd.TENANT) [dTree d, dFlow d]

/-- The downstream policer of the flow a destination names. -/
def State.flowPol (s : State) (d : Nat) : Nat := s.rd (if s.farFlow d then Reg.Hid.TWIN_DP else Reg.Fwd.DN_POL) [dTree d, dFlow d]

/-- Whether a service or group tagged `t` may deliver to a destination (R313 rule 2). -/
def State.destAllowed (s : State) (t d : Nat) : Bool :=
  match dKind d with
  | 0 => t == 0 || s.flowTenant d == t
  | 2 => s.rd Reg.Fwd.G_TENANT [d % 2 ^ 16] == t
  | _ => true

/-- Whether two destination words name one arrival point: in graft-understudy mode a flow's unit bit does not count (R318). -/
def State.samePoint (s : State) (a b : Nat) : Bool :=
  a == b || (s.pairing == 2 && dKind a == 0 && dKind b == 0 && a % 2 ^ 20 == b % 2 ^ 20)

/-! ### The forwarding table (R319–R325) -/

/-- The word key of R320. -/
def fwdKey0 (svc mac : Nat) : Nat := svc + mac / 2 ^ 32 * 2 ^ 18
/-- Candidate bucket number `h` of a key. -/
def bucketOf (h svc mac : Nat) : Nat := Config.bucketHash h (fwdKey0 svc mac) (mac % 2 ^ 32) % 262144

/-- Changes the table entry `h`. -/
def State.modEnt (s : State) (h : Nat) (f : FEnt → FEnt) : State := { s with fwd := { s.fwd with table := s.fwd.table.upd h f } }

/-- The entry of a key, disabled ones too. -/
def State.entOf (s : State) (svc mac : Nat) : Option (Nat × FEnt) := s.fwd.table.find? (fun c => c.2.svc == svc && c.2.mac == mac)

/-- A parity check finds an entry's error (R325): the entry is disabled, counted and reported. -/
def State.entParity (s : State) (h : Nat) (e : FEnt) : State :=
  if e.parity then s
  else ((s.modEnt h (fun e => { e with parity := true, struck := false })).addTo Reg.Fwd.PARITY_ERR [] 1).raise 0xB6 (Reg.Fwd.E_KEY0.addr [h]) [e.bucket, e.way, h + e.gen * 2 ^ 20]

/-- What happens to parity outside the device's control: entries of the table go wrong, to be found by the next check (R325). -/
def State.strike (s : State) (l : List Nat) : State := l.foldl (fun s h => s.modEnt h (fun e => { e with struck := true })) s

/-- The check of the entries that an access by key reads, both candidate buckets' (R319, R325). -/
def State.checkKey (s : State) (svc mac : Nat) : State :=
  (s.fwd.table.filter (fun c => c.2.struck && (c.2.bucket == bucketOf 0 svc mac || c.2.bucket == bucketOf 1 svc mac))).foldl (fun s c => s.entParity c.1 c.2) s

/-- The check of the entry that an access by handle reads. -/
def State.checkEnt (s : State) (h : Nat) : State :=
  match s.fwd.table.get? h with
  | some e => if e.struck then s.entParity h e else s
  | none => s

/-- A lookup (R325, R330): the entry that is not disabled, its `HIT` set. -/
def State.lookup (s : State) (svc mac : Nat) : Option (Nat × FEnt) × State :=
  let s := s.checkKey svc mac
  match s.entOf svc mac with
  | some (h, e) => if e.parity then (none, s) else (some (h, e), s.modEnt h (fun e => { e with hit := true }))
  | none => (none, s)

/-- The handle of an entry. -/
def handleOf (h : Nat) (e : FEnt) : Nat := h + e.gen * 2 ^ 20

/-- The entry in a way of a bucket. -/
def State.inWay (s : State) (b w : Nat) : Option (Nat × FEnt) := s.fwd.table.find? (fun c => c.2.bucket == b && c.2.way == w)

/-- The free ways of a bucket. -/
def State.freeWays (s : State) (b : Nat) : List Nat := (List.range 4).filter (fun w => (s.inWay b w).isNone)

/-- The other candidate bucket of an entry. -/
def FEnt.other (e : FEnt) : Nat := if e.bucket = bucketOf 0 e.svc e.mac then bucketOf 1 e.svc e.mac else bucketOf 0 e.svc e.mac

/-- A chain of at most `n` moves that frees a way of bucket `b`, without meeting a bucket twice: the ways whose entries move, first the one in `b` (R323). -/
def State.chain (s : State) : Nat → Nat → List Nat → Option (List (Nat × Nat))
  | 0, _, _ => none
  | n + 1, b, seen =>
    (List.range 4).findSome? (fun w =>
      match s.inWay b w with
      | none => none
      | some (_, e) =>
        let o := e.other
        if o ∈ b :: seen then none
        else if !(s.freeWays o).isEmpty then some [(b, w)]
        else (s.chain n o (b :: seen)).map (fun l => (b, w) :: l))

/-- Moves the entry of a way to its other candidate bucket, which has a free way. -/
def State.moveWay (s : State) (b w : Nat) : State :=
  match s.inWay b w with
  | some (h, e) => (s.checkEnt h).modEnt h (fun e' => { e' with bucket := e.other, way := (s.freeWays e.other).headD 0 })
  | none => s

/-- The age of an entry (R323). -/
def State.entAge (s : State) (e : FEnt) : Nat := if e.hit then 0 else (s.rd Reg.Fwd.EPOCH [] + 16 - e.age) % 16

/-- The oldest candidate of the two buckets (R323 item 1): among equal ages the lower bucket, then the lower way. -/
def State.victim (s : State) (b0 b1 : Nat) : Option (Nat × FEnt) :=
  let l := [min b0 b1, max b0 b1].flatMap (fun b => (List.range 4).filterMap (fun w => s.inWay b w))
  (l.filter (fun c => !c.2.static)).foldl (fun best c =>
    match best with
    | some x => if s.entAge x.2 < s.entAge c.2 then some c else best
    | none => some c) none

/-- Removes an entry and frees its handle. -/
def State.dropEnt (s : State) (h : Nat) : State := { s with fwd := { s.fwd with table := s.fwd.table.del h } }

/-- Puts a new entry in a way: a free entry number in its next generation (R319), which number being the device's choice (log 3). -/
def State.putEnt (s : State) (l : Learn) (static : Bool) (b w : Nat) : Nat × State :=
  let (k, s) := s.choose (1048576 - s.fwd.table.length)
  let h := kthFree (s.fwd.table.map Prod.fst) 0 k
  let g := s.rd Reg.Hid.FWD_GEN [h] % 2047 + 1
  let e : FEnt := { svc := l.svc, mac := l.mac, dest := l.dest, tenant := l.tenant, static := static, bound := l.bound, hit := false, age := s.rd Reg.Fwd.EPOCH [], gen := g, bucket := b, way := w, parity := false, struck := false }
  (handleOf h e, { s.wr Reg.Hid.FWD_GEN [h] g with fwd := { s.fwd with table := s.fwd.table.put h e } })

/-- The insert engine (R323, R325): completion code, handle, new state. A key already present, disabled or not, is rewritten in place. -/
def State.insertEnt (s : State) (l : Learn) (static : Bool) : Nat × Nat × State :=
  let s := s.checkKey l.svc l.mac
  match s.entOf l.svc l.mac with
  | some (h, e) =>
    (0, handleOf h e, s.modEnt h (fun e => { e with
      dest := l.dest
      tenant := l.tenant
      static := static
      bound := l.bound
      hit := false
      age := s.rd Reg.Fwd.EPOCH []
      parity := false
      struck := false }))
  | none =>
    let b0 := bucketOf 0 l.svc l.mac
    let b1 := bucketOf 1 l.svc l.mac
    let free := (s.freeWays b0).map (fun w => (b0, w)) ++ (s.freeWays b1).map (fun w => (b1, w))
    if !free.isEmpty then
      let (k, s) := s.choose free.length
      let p := free.getD k (b0, 0)
      let (h, s) := s.putEnt l static p.1 p.2
      (0, h, s)
    else
      match [b0, b1].findSome? (fun b => s.chain 8 b []) with
      | some ((b, w) :: rest) =>
        let s := ((b, w) :: rest).reverse.foldl (fun s m => s.moveWay m.1 m.2) s
        let (h, s) := s.putEnt l static b w
        (0, h, s)
      | _ =>
        match s.victim b0 b1 with
        | none => (0x33, 0, s)
        | some (h, e) =>
          let s := ((s.dropEnt h).addTo Reg.Fwd.EVICTED [] 1).raise 0xB5 (Reg.Fwd.KIND.addr [e.svc]) [e.mac / 2 ^ 32, e.mac % 2 ^ 32]
          let (h', s) := s.putEnt l static e.bucket e.way
          (0x30, h', s)

/-- The entries a flow has learned: its entries that are not static (R315). -/
def State.macCount (s : State) (z f : Nat) : Nat :=
  s.fwd.table.countP (fun c => !c.2.static && s.samePoint c.2.dest (s.flowWord z f))

/-! ### Drops -/

/-- A packet is dropped and counted: its hardware owner is done with the buffer. -/
def State.dropAt (s : State) (p : RPkt) (fld : Field) : State := (s.addTo fld [] 1).hwDone p.buf

/-- A drop for tenant separation (R313): counted twice, and reported with the service's tag at most once per millisecond per tenant (R464). -/
def State.tenantDrop (s : State) (p : RPkt) (svc other : Nat) : State :=
  ((s.addTo Reg.Fwd.TENANT_DROP [] 1).countTenant p.tenant 4).raiseRated rateMs 0xB2 p.tenant (s.rd Reg.Fwd.S_TENANT [svc]) (Reg.Fwd.KIND.addr [svc]) [p.tenant, other]

/-- `SOURCE_SPOOF` of a flow (R315): the flow is the record's object, then come the tree and the address (R464). -/
def State.spoof (s : State) (z f mac : Nat) : State :=
  (s.addTo Reg.Fwd.SPOOF_DROP [] 1).raiseRated rateMs 0xB3 (z * 16384 + f) (s.rd Reg.Fwd.TENANT [z, f]) (Reg.Fwd.FLOW_ID.addr [z, f]) [z, mac / 2 ^ 32, mac % 2 ^ 32]

/-! ### Queues (R339, R341) -/

/-- The bytes of a list of frames. -/
def queueBytes (l : List QFrame) : Nat := (l.map (fun f => frameLen f.bytes)).sum

/-- The frames of level-4 queue q. -/
def State.queue (s : State) (q : Nat) : List QFrame := (s.fwd.queues.get? q).getD []

/-- Stores a level-4 queue. -/
def State.putQueue (s : State) (q : Nat) (l : List QFrame) : State :=
  { s with fwd := { s.fwd with queues := if l.isEmpty then s.fwd.queues.del q else s.fwd.queues.put q l } }

/-- A frame leaves a queue or is refused by it: its share or its owner's use of the buffer ends (R334, R354). -/
def State.leave (s : State) (f : QFrame) : State := if f.share then s.dropShare f.buf else s.hwDone f.buf

/-- A frame meets the queue of its flow (R339, R342, R452, R453). -/
def State.enqueue (s : State) (z f : Nat) (q : QFrame) : State :=
  let n := s.rd Reg.Fwd.QUEUE [z, f]
  let q := { q with bytes := if s.flag Reg.Fwd.S_PUSH [z, f] then popTag q.bytes else q.bytes }
  let len := frameLen q.bytes
  let d := queueBytes (s.queue n) + len
  if !s.flag Reg.Que.N_EN [4, n] || decide (s.rd Reg.Que.QLIMIT [4, n] < d) || (q.yellow && decide (s.rd Reg.Que.YLIMIT [4, n] < d)) then
    (s.addTo (if q.yellow then Reg.Que.Y_DROP else Reg.Que.Q_DROP) [] 1).leave q
  else
    let k := 131072 + 2 * (16384 * z + f) + 1
    let t := s.rd Reg.Fwd.TENANT [z, f]
    let s := ((s.count k len).countTenant t 2).countTenant t 3 len
    let s := if q.share then s else s.moveBuf q.buf (ownerHw 6 n)
    s.putQueue n (s.queue n ++ [q])

/-- The frames of uplink queue 8u + c. -/
def State.upQueue (s : State) (k : Nat) : List QFrame := (s.fwd.upq.get? k).getD []

/-- A frame meets an uplink's egress queue (R341); it admits nothing while the link is down (R422). -/
def State.enqueueUp (s : State) (u : Nat) (q : QFrame) : State :=
  let c := pcp q.bytes
  let k := 8 * u + c
  if !s.flag Reg.Lan.LINK_UP [u] ∨ s.rd Reg.Que.UQ_LIMIT [u, c] < queueBytes (s.upQueue k) + frameLen q.bytes then (s.addTo Reg.Que.UQ_DROP [] 1).leave q
  else
    let s := if q.share then s else s.moveBuf q.buf (ownerHw 0x0B k)
    let l := s.upQueue k ++ [q]
    { s.wr Reg.Que.UQ_DEPTH [u, c] (queueBytes l) with fwd := { s.fwd with upq := s.fwd.upq.put k l } }

/-- A frame is read from its buffer to be sent (R350, R438): a bad unit under a frame in pool E discards the frame, whose buffer is freed as if it had been sent. -/
def State.readFrame (s : State) (f : QFrame) : Bool × State :=
  if f.buf / 4194304 ≠ 4 then (true, s)
  else
    let a := s.eAddr (f.buf % 4194304)
    match s.xmem.bad.find? (fun u => decide (a < 32 * u + 32) && decide (32 * u < a + frameLen f.bytes)) with
    | none => (true, s)
    | some u => (false, ((s.memUe (32 * u)).addTo Reg.Buf.E_ECC_DROP [] 1).leave f)

/-- Cross traffic to the twin (R244, R318): the frame goes with its ingress tenant, which its buffer carries (R352), and whether it is a replica (R308). -/
def State.sendCross (s : State) (d : Nat) (full : Bool) (q : QFrame) : State :=
  if full || !s.flag Reg.Twn.LANES_UP [] then
    ((s.addTo Reg.Twn.CROSS_DROP [] 1).raiseRated rateMs 0xA5 0 (tagOf s 0 (Reg.Twn.CROSS_DROP.addr [])) (Reg.Twn.CROSS_DROP.addr []) []).leave q
  else
    let s := if q.share then s else s.moveBuf q.buf (ownerHw 0x0A 0)
    let (ok, s) := s.readFrame q
    if ok then (s.emit (.cross d (s.buf q.buf).tenant q.yellow q.share q.bytes)).leave q else s

/-- A frame is delivered to a flow, an uplink or nothing (R311, R318). -/
def State.deliver (s : State) (d : Nat) (full : Bool) (q : QFrame) : State :=
  match dKind d with
  | 0 =>
    let z := dTree d
    if s.pairing = 2 then
      if s.flag Reg.Pon.LIT [z] then s.enqueue z (dFlow d) q
      else if s.twinLit z then s.sendCross d full q
      else (s.addTo Reg.Fwd.DARK_DROP [] 1).leave q
    else if s.pairing = 1 ∧ dUnit d ≠ s.env.unit then s.sendCross d full q
    else s.enqueue z (dFlow d) q
  | 1 => if s.pairing ≠ 0 ∧ dUnit d ≠ s.env.unit then s.sendCross d full q else s.enqueueUp (d % 32) q
  | _ => (s.addTo Reg.Fwd.NULL_DROP [] 1).leave q

/-! ### The forwarding decision (R312–R317) -/

/-- Upstream: the packet entered on a head-role PON port (R310). -/
def State.upstream (s : State) (p : RPkt) : Bool := decide (p.ingress < 64) && s.head p.ingress

/-- The arrival point of a packet as a destination word; the management port, a tail-role port and the punt channel have none. -/
def State.arrival (s : State) (p : RPkt) : Option Nat :=
  if s.upstream p then some (s.flowWord p.ingress p.flow)
  else if 64 ≤ p.ingress ∧ p.ingress < 96 then some (s.uplinkWord (p.ingress - 64)) else none

/-- Whether the device learns at present (R328). -/
def State.learning (s : State) : Bool := s.pairing == 0 || s.pairOk

/-- Queues a learn (R326), or counts what a parted pair would have learned (R328). -/
def State.queueLearn (s : State) (l : Learn) : State :=
  if !s.learning then s.addTo Reg.Fwd.LEARN_HELD [] 1
  else if s.fwd.learns.any (fun x => x.svc == l.svc && x.mac == l.mac) then s
  else if 16384 ≤ s.fwd.learns.length then s.addTo Reg.Fwd.LEARN_DROP [] 1
  else { s.wr Reg.Fwd.LEARN_Q [] (s.fwd.learns.length + 1) with fwd := { s.fwd with learns := s.fwd.learns ++ [l] } }

/-- An entry's data word. -/
def FEnt.data (e : FEnt) : Nat :=
  e.dest + e.tenant * 2 ^ 23 + bit e.static * 2 ^ 29 + bit e.bound * 2 ^ 30 + bit e.hit * 2 ^ 31 + e.age * 2 ^ 32

/-- An entry as the twin's copy takes it over. -/
def FEnt.copy (h : Nat) (e : FEnt) : EntCopy :=
  { no := h, gen := e.gen, key0 := fwdKey0 e.svc e.mac, key1 := e.mac % 2 ^ 32, data := e.data, bucket := e.bucket, way := e.way, gone := false }

/-- An entry but for what each unit finds out by itself: its parity. -/
def FEnt.plain (e : FEnt) : FEnt := { e with parity := false, struck := false }

/-- The entries that differ between two states of the table, as they stand in the second. -/
def tableDiff (a b : Map FEnt) : List EntCopy :=
  (a.filter (fun c => (b.get? c.1).isNone)).map (fun c => { c.2.copy c.1 with gone := true }) ++
    (b.filter (fun c => (a.get? c.1).map FEnt.plain != some c.2.plain)).map (fun c => c.2.copy c.1)

/-- An entry's words in a message. -/
def EntCopy.words (c : EntCopy) : List Nat := [c.no, c.gen, c.key0, c.key1, c.data, c.bucket, c.way, bit c.gone]

/-- What the insert engine of unit 0 has changed in the table goes to unit 1, entry numbers, generations and places with it: the pair has one table (R266, R319). `s` is
the state before. -/
def State.shareTable (s t : State) : State :=
  let d := tableDiff s.fwd.table t.fwd.table
  if s.pairing = 0 ∨ d.isEmpty then t
  else t.sendTwin 4 ⟨127, 0⟩ (BitVec.ofNat 40 (Reg.Fwd.KIND.addr [0])) 0 (0x01 :: (d.map EntCopy.words).flatten) .nothing

/-- A learn of unit 1, or a move of the entry `moved`, leaves for unit 0 (R266, R328): a write of the table that the pair shares. -/
def State.shareLearn (s : State) (l : Learn) (moved : Option Nat) : State :=
  s.sendTwin 4 ⟨127, 0⟩ (BitVec.ofNat 40 (match moved with | some h => Reg.Fwd.E_KEY0.addr [h] | none => Reg.Fwd.KIND.addr [l.svc])) 0
    [0x03, fwdKey0 l.svc l.mac, l.mac % 2 ^ 32, l.dest, l.tenant, bit l.bound, bit moved.isSome] .nothing

/-- Whether a move of entry `h` is under way to unit 0. -/
def State.moving (s : State) (h : Nat) : Bool := s.unacked.any (fun m => m.cls == 4 && m.addr.toNat == Reg.Fwd.E_KEY0.addr [h])

/-- Whether this unit's learns are serialised at unit 0 (R328). -/
def State.learnsAtUnit0 (s : State) : Bool := s.pairing != 0 && s.env.unit == 1

/-- A station has moved (R316): whether its packet passes. A move that unit 1 has asked unit 0 for is counted once. An arrival point without a destination word leaves the entry as it is (log 119). -/
def State.stationMoved (s : State) (l : Learn) (h : Nat) (point : Option Nat) : Bool × State :=
  if !s.flag Reg.Fwd.MOVE_OK [l.svc] then (false, s.addTo Reg.Fwd.MOVE_DROP [] 1)
  else
    match point with
    | none => (true, s)
    | some d =>
      if !s.learning then (true, s.addTo Reg.Fwd.LEARN_HELD [] 1)
      else if s.moving h then (true, s)
      else
        let s := s.addTo Reg.Fwd.MOVES [] 1
        (true, if s.learnsAtUnit0 then s.shareLearn { l with dest := d } (some h) else s.shareTable (s.modEnt h (fun e => { e with dest := d })))

/-- R316 after R315, and the learn of R326, in a bridge service: whether the packet passes. An entry whose `DEST` is a group or discard names no arrival point, and
no station has moved. `boundNew`: a learn would bind. `room`: below `MAC_LIMIT`. -/
def State.bridgeSource (s : State) (p : RPkt) (svc mac : Nat) (e : Option (Nat × FEnt)) (learns boundNew : Bool) : Bool × State :=
  match e, s.arrival p with
  | some (h, e), a =>
    if (match a with | some d => s.samePoint e.dest d | none => false) then (true, s)
    else if e.static || e.bound then
      if !s.upstream p && dKind e.dest == 0 then (false, s.spoof (dTree e.dest) (dFlow e.dest) mac) else (true, s)
    else if 2 ≤ dKind e.dest then (true, s)
    else s.stationMoved { svc := svc, mac := mac, dest := e.dest, tenant := e.tenant, bound := e.bound } h a
  | none, some d =>
    if learns && s.flag Reg.Fwd.LEARN [svc] then
      (true, s.queueLearn { svc := svc, mac := mac, dest := d, tenant := s.rd Reg.Fwd.S_TENANT [svc], bound := boundNew })
    else (true, s)
  | none, none => (true, s)

/-- A run of `MAC_LIMIT_DROP` of a flow: `MAC_LIMIT` is raised once per run (R315). -/
def State.macLimit (s : State) (z f : Nat) : State :=
  let s := s.addTo Reg.Fwd.MAC_LIMIT_DROP [] 1
  if s.flag Reg.Hid.MACL_RUN [z, f] then s else (s.wr Reg.Hid.MACL_RUN [z, f] 1).raise 0xB4 (Reg.Fwd.FLOW_ID.addr [z, f]) []

/-- The source check of R312: whether the packet passes. Only an entry whose `DEST` is a flow or an uplink binds to another arrival point (R315). -/
def State.sourceCheck (s : State) (p : RPkt) (svc : Nat) : Bool × State :=
  let mac := macAt p.bytes 6
  let bridge := s.rd Reg.Fwd.KIND [svc] == 2
  if s.upstream p then
    let z := p.ingress
    let f := p.flow
    if mac.testBit 40 ∨ mac = 0 then (false, s.addTo Reg.Fwd.SRC_INVALID [] 1)
    else
      let (e, s) := s.lookup svc mac
      let mode := s.rd Reg.Fwd.SRC_MODE [z, f]
      let mine := fun (e : FEnt) => s.samePoint e.dest (s.flowWord z f)
      let full := s.rd Reg.Fwd.MAC_LIMIT [z, f] != 0 && decide (s.rd Reg.Fwd.MAC_LIMIT [z, f] ≤ s.macCount z f)
      let pass := match e with
        | some (_, e) => if mode = 2 then e.static && mine e else mine e || !((e.static || e.bound) && decide (dKind e.dest ≤ 1))
        | none => mode != 2
      if !pass then (false, s.spoof z f mac)
      else if mode = 1 && full && e.isNone then (false, s.macLimit z f)
      else
        let s := s.wr Reg.Hid.MACL_RUN [z, f] 0
        if bridge then s.bridgeSource p svc mac e (mode != 2 && !full) (mode == 1) else (true, s)
  else if bridge then
    let (e, s) := s.lookup svc mac
    s.bridgeSource p svc mac e true false
  else (true, s)

/-- The destination of a packet by the kind of its service (R310, R312, R319): none where it is dropped and counted already. -/
def State.destination (s : State) (p : RPkt) (svc : Nat) : Option Nat × State :=
  let up := s.upstream p
  let dst := macAt p.bytes 0
  if s.rd Reg.Fwd.KIND [svc] = 1 then (some (s.rd (if up then Reg.Fwd.UP_DEST else Reg.Fwd.DN_DEST) [svc]), s)
  else if dst = 2 ^ 48 - 1 then
    if up then (some (s.rd Reg.Fwd.UP_DEST [svc]), s)
    else
      let g := s.rd Reg.Fwd.BC_GROUP [svc]
      if g = 0 then (none, s.addTo Reg.Fwd.UNKNOWN_DROP [] 1) else (some (2 * 2 ^ 21 + g), s)
  else
    match s.lookup svc dst with
    | (some (_, e), s) => (some e.dest, s)
    | (none, s) => if up then (some (s.rd Reg.Fwd.UP_DEST [svc]), s) else (none, s.addTo Reg.Fwd.UNKNOWN_DROP [] 1)

/-- Polices a packet with a policer, 0 for none (R342): none for a red frame, else the bytes and whether it is drop-eligible now. -/
def State.police (s : State) (pol : Nat) (b : List Nat) (yellow : Bool) : Option (List Nat × Bool) × State :=
  if pol = 0 then (some (b, yellow), s)
  else
    match s.meter pol (frameLen b) (dei b) with
    | (2, s) => (none, s.addTo Reg.Fwd.POLICE_DROP [] 1)
    | (1, s) => (some (setDei b, true), s)
    | (_, s) => (some (b, yellow), s)

/-- Whether a flow or an uplink may be reached from where the packet came (R317). -/
def State.hairpinOk (s : State) (p : RPkt) (svc d : Nat) : Bool :=
  !(s.upstream p && dKind d == 0) || (s.flag Reg.Fwd.HAIRPIN [svc] && !s.samePoint d (s.flowWord p.ingress p.flow))

/-- What an upstream packet carries to an uplink: its flow's service tag pushed (R342). -/
def State.toUplink (s : State) (p : RPkt) (b : List Nat) : List Nat :=
  if s.upstream p && s.flag Reg.Fwd.S_PUSH [p.ingress, p.flow] then pushTag (s.rd Reg.Fwd.S_VID [p.ingress, p.flow]) b else b

/-- A packet as a queued frame on its way to a destination. -/
def State.frameTo (s : State) (p : RPkt) (d : Nat) (b : List Nat) (yellow share : Bool) : QFrame :=
  { buf := p.buf, bytes := if dKind d = 1 then s.toUplink p b else b, tree := dTree d, flow := dFlow d, yellow := yellow, share := share }

/-- One replica of a group (R333, R334): skipped where R313 or R317 forbid it. -/
def State.replica (s : State) (p : RPkt) (svc : Nat) (b : List Nat) (yellow : Bool) (d : Nat) : State :=
  let ts := s.rd Reg.Fwd.S_TENANT [svc]
  if dKind d = 0 ∧ !s.destAllowed ts d then s.tenantDrop p svc (s.flowTenant d)
  else if !s.hairpinOk p svc d then s.addTo Reg.Fwd.HAIRPIN_DROP [] 1
  else
    match s.takeShare p.buf with
    | (false, s) => s
    | (true, s) => s.deliver d p.full.cross (s.frameTo p d b yellow true)

/-- The group word is sampled once, and each member gets a replica (R333). -/
def State.replicate (s : State) (p : RPkt) (svc g : Nat) (b : List Nat) (yellow : Bool) : State :=
  let s := s.moveBuf p.buf (ownerHw 5 g)
  let base := s.rd Reg.Fwd.G_BASE [g]
  let ms := (List.range (s.rd Reg.Fwd.G_COUNT [g])).map (fun i => s.rd Reg.Fwd.M_DEST [base + i])
  (ms.foldl (fun s d => s.replica p svc b yellow d) s).hwDone p.buf

/-- Whether a destination is a multicast flow of this unit, which carries replicas only (R308). -/
def State.multicastOnly (s : State) (d : Nat) : Bool := dKind d == 0 && !s.farFlow d && s.flag Reg.Fwd.MCAST [dTree d, dFlow d]

/-- Tenant and hairpin checks of a resolved destination, and its delivery (R312). A packet resolved to a multicast flow is dropped (R308); the spec names no count
for it (log 117). -/
def State.sendTo (s : State) (p : RPkt) (svc d : Nat) (b : List Nat) (yellow : Bool) : State :=
  let ts := s.rd Reg.Fwd.S_TENANT [svc]
  if !s.destAllowed ts d then
    (s.tenantDrop p svc (if dKind d = 2 then s.rd Reg.Fwd.G_TENANT [d % 2 ^ 16] else s.flowTenant d)).hwDone p.buf
  else if !s.hairpinOk p svc d then s.dropAt p Reg.Fwd.HAIRPIN_DROP
  else if s.multicastOnly d then s.hwDone p.buf
  else if dKind d = 2 then s.replicate p svc (d % 2 ^ 16) b yellow
  else s.deliver d p.full.cross (s.frameTo p d b yellow false)

/-- The forwarding decision (R312). -/
def State.forward (s : State) (p : RPkt) (svc : Nat) : State :=
  let ts := s.rd Reg.Fwd.S_TENANT [svc]
  if svc = 0 ∨ s.rd Reg.Fwd.KIND [svc] = 0 then s.dropAt p Reg.Fwd.NO_SERVICE
  else if p.tenant ≠ 0 ∧ p.tenant ≠ ts then (s.tenantDrop p svc ts).hwDone p.buf
  else
    match s.sourceCheck p svc with
    | (false, s) => s.hwDone p.buf
    | (true, s) =>
      match s.police (if s.upstream p then s.rd Reg.Fwd.UP_POL [p.ingress, p.flow] else 0) p.bytes false with
      | (none, s) => s.hwDone p.buf
      | (some (b, y), s) =>
        match s.destination p svc with
        | (none, s) => s.hwDone p.buf
        | (some d, s) =>
          match s.police (if dKind d = 0 ∧ !s.upstream p then s.flowPol d else 0) b y with
          | (none, s) => s.hwDone p.buf
          | (some (b, y), s) => s.sendTo p svc d b y

/-! ### Learning and the rake -/

/-- The insert engine publishes a learn (R321, R323, R325): one that finds its key present is a station move, and clears neither `STATIC` nor `BOUND` (R327). -/
def State.publish (s : State) (l : Learn) : State :=
  let s := s.checkKey l.svc l.mac
  match s.entOf l.svc l.mac with
  | some (h, e) =>
    if e.parity then (s.insertEnt { l with bound := l.bound || e.bound } e.static).2.2
    else if s.samePoint e.dest l.dest || e.static || e.bound || decide (2 ≤ dKind e.dest) then s
    else if !s.flag Reg.Fwd.MOVE_OK [l.svc] then s.addTo Reg.Fwd.MOVE_DROP [] 1
    else (s.modEnt h (fun e => { e with dest := l.dest })).addTo Reg.Fwd.MOVES [] 1
  | none =>
    match s.insertEnt l false with
    | (0x33, _, s) => s.addTo Reg.Fwd.LEARN_FULL [] 1
    | (_, _, s) => s

/-- `LEARN` (R321, R326–R328): the insert engine publishes the oldest queued learn; in a pair unit 1's goes through unit 0, and unit 0's to unit 1 as well, and while
the pair is apart none is published. -/
def execLearn (s : State) : Out' :=
  match s.fwd.learns with
  | [] => .next s
  | l :: rest =>
    if !s.learning then .next s
    else
    let s := { s.wr Reg.Fwd.LEARN_Q [] rest.length with fwd := { s.fwd with learns := rest } }
    if s.learnsAtUnit0 then .next (s.shareLearn l none) else .next (s.shareTable (s.publish l))

/-- One entry at a visit of the rake (R329). -/
def State.rakeEntry (s : State) (h : Nat) (e : FEnt) : State :=
  let ep := s.rd Reg.Fwd.EPOCH []
  let lim := s.rd Reg.Fwd.AGE_LIMIT [e.svc]
  if e.static then s
  else if e.parity then s.dropEnt h
  else if e.hit then s.modEnt h (fun e => { e with hit := false, age := ep })
  else if lim = 0 then s.modEnt h (fun e => { e with age := (ep + 1) % 16 })
  else if lim ≤ (ep + 16 - e.age) % 16 then (s.dropEnt h).addTo Reg.Fwd.AGED [] 1
  else s

/-- The result of a visit goes to unit 1 (R331): the epoch, and of each entry that the bucket held, but for static ones, its key and its age, or 16 where it is gone. -/
def State.shareRake (s : State) (es : List FEnt) : State :=
  s.sendTwin 4 ⟨127, 0⟩ (BitVec.ofNat 40 (Reg.Fwd.EPOCH.addr [])) 0
    (0x04 :: s.rd Reg.Fwd.EPOCH [] :: ((es.filter (fun e => !e.static)).map (fun e => [fwdKey0 e.svc e.mac, e.mac % 2 ^ 32, match s.entOf e.svc e.mac with | some (_, x) => x.age | none => 16])).flatten) .nothing

/-- `RAKE_VISIT` (R325, R329–R331): the rake visits a bucket; a visit of bucket 0 starts a sweep and advances the epoch. `bad`: ways that fail
parity; `twin`: ways whose `HIT` unit 1 holds. In a graft mode unit 0 rakes, and nothing is removed while the pair is apart. -/
def execRakeVisit (bucket : Nat) (bad twin : List Nat) (s : State) : Out' :=
  if 262144 ≤ bucket ∨ (s.pairing ≠ 0 ∧ s.env.unit = 1) then .next s
  else
    let s := if bucket = 0 then s.addTo Reg.Fwd.EPOCH [] 1 else s
    let ents := (List.range 4).filterMap (fun w => s.inWay bucket w)
    let s := ents.foldl (fun s c => if c.2.way ∈ bad || c.2.struck then s.entParity c.1 c.2 else s) s
    if s.pairing ≠ 0 ∧ !s.pairOk then .next s
    else
      let s := ents.foldl (fun s c => if s.pairing ≠ 0 ∧ c.2.way ∈ twin then s.modEnt c.1 (fun e => { e with hit := true }) else s) s
      let t := ((List.range 4).filterMap (fun w => s.inWay bucket w)).foldl (fun s c => s.rakeEntry c.1 c.2) s
      .next (if s.pairing = 0 ∨ (ents.isEmpty ∧ bucket ≠ 0) then t else t.shareRake (ents.map Prod.snd))

/-! ### Table operations (R85, R86, R314, R319, R320, R325) -/

/-- The base object of the table. -/
def fwdTable : Nat := 0x05 * 2 ^ 34 + 0x100000000

/-- Whether two key words have the entry layout and a service other than 0 (R320). -/
def fwdKeyOk (k0 k1 : Nat) : Bool := decide (k0 < 2 ^ 34) && decide (k1 < 2 ^ 32) && k0 % 2 ^ 18 != 0

/-- The address of a key. -/
def fwdMac (k0 k1 : Nat) : Nat := k0 / 2 ^ 18 * 2 ^ 32 + k1

/-- `TABLE.INSERT` for an issuer of tenant `t`, its descriptor's form checked: completion code, `RESULT`, new state. -/
def State.tableInsert (s : State) (t k0 k1 data : Nat) : Nat × Nat × State :=
  let svc := k0 % 2 ^ 18
  let dest := data % 2 ^ 23
  let ten := data / 2 ^ 23 % 64
  let ts := s.rd Reg.Fwd.S_TENANT [svc]
  let foreign : Bool := match s.entOf svc (fwdMac k0 k1) with
    | some (_, e) => t != 0 && e.tenant != t
    | none => false
  if (t ≠ 0 ∧ ts ≠ t) ∨ foreign then (0x7F, 2, s)
  else if ten ≠ ts ∨ !s.destAllowed ts dest ∨ (t ≠ 0 ∧ dKind dest = 1 ∧ dest ≠ s.rd Reg.Fwd.UP_DEST [svc]) then (0x7F, 2, s)
  else if !fwdKeyOk k0 k1 || decide (2 ^ 36 ≤ data) || !s.destOk dest then (0x7F, 6, s)
  else s.insertEnt { svc := svc, mac := fwdMac k0 k1, dest := dest, tenant := ten, bound := data.testBit 30 } (data.testBit 29)

/-- The entry a handle names, if its generation is the present one. -/
def State.entAt (s : State) (handle : Nat) : Option (Nat × FEnt) :=
  match s.fwd.table.get? (handle % 2 ^ 20) with
  | some e => if handleOf (handle % 2 ^ 20) e = handle then some (handle % 2 ^ 20, e) else none
  | none => none

/-- The check of the entry that a handle names (R325). -/
def State.checkHandle (s : State) (handle : Nat) : State :=
  match s.entAt handle with
  | some (h, _) => s.checkEnt h
  | none => s

/-- `TABLE.DELETE` of an entry found by handle or by key (R325): completion code, `RESULT`, new state. Of `NOT_FOUND` and `TABLE_PARITY` the spec gives no `RESULT`:
0 (DESIGN CHOICE, R85, log 149). -/
def State.tableDelete (s : State) (t : Nat) (found : Option (Nat × FEnt)) (byKey : Bool) : Nat × Nat × State :=
  match found with
  | none => (0x32, 0, s)
  | some (h, e) =>
    if t ≠ 0 ∧ e.tenant ≠ t then (0x7F, 2, s)
    else if e.parity && !byKey then (0x31, 0, s)
    else (0, handleOf h e, s.dropEnt h)

/-- `TABLE.READ`: completion code, `RESULT`, and the words for `DEST`. The entry's check has been made (`checkEnt`). -/
def State.tableRead (s : State) (t handle : Nat) : Nat × Nat × List Word :=
  match s.entAt handle with
  | none => (0x32, 0, [])
  | some (_, e) =>
    if t ≠ 0 ∧ e.tenant ≠ t then (0x7F, 2, [])
    else if e.parity then (0x31, 0, [])
    else (0, 2 + 1 * 16, [BitVec.ofNat 40 (fwdKey0 e.svc e.mac), BitVec.ofNat 40 (e.mac % 2 ^ 32), BitVec.ofNat 40 e.data])

end Sys2Proof.Machine
end

