-- ==== Sys2Proof/Machine/Sieve.lean ====
section
/-! DEFINITION. The sieve (R270–R306): control channels, the trellis, profiles and keys, the classifier, patterns, actions, the slow path, staging and
curtains. -/

namespace Sys2Proof.Machine

/-! ### Versions (R301, R302) -/

/-- Packets that hold version `v`: between commands they wait in the recirculation queue. -/
def State.holders (s : State) (v : Nat) : Nat := if v = 0 then 0 else s.sieve.recirc.countP (fun p => p.ver == v)

/-- The set a packet's version names, if it is live; an injected packet that recirculates, without a version, meets the current one (log 16). -/
def State.setOf (s : State) (v : Nat) : Option VSet :=
  if v = 0 ∨ v = s.rd Reg.Sve.V_CUR [] then some s.sieve.cur else if v = s.rd Reg.Sve.V_PREV [] then some s.sieve.prev else none

/-- The start entry of an ingress index in a set: kind 3 unless it has been set. -/
def VSet.start (v : VSet) (i : Nat) : Nat := (v.starts.get i).toNat ^^^ 0x300

/-! ### The trellis (R274–R276) -/

/-- Bits of a field word. -/
def bitsOf (w : Word) (lo n : Nat) : Nat := w.toNat / 2 ^ lo % 2 ^ n

/-- A node's words as its fields (R274). -/
structure Node where
  hdrMin : Nat
  hlenPos : Nat
  hlenW : Nat
  hlenShift : Nat
  hlenAdd : Nat
  slot : Nat
  slotEn : Bool
  fragNode : Bool
  tlenPos : Nat
  tlenW : Nat
  tlenAdd : Nat
  fragPos : Nat
  fragW : Nat
  selPos : Nat
  selW : Nat
  defNext : Nat
  arcBase : Nat
  arcCnt : Nat

/-- Node n of a set. -/
def VSet.node (v : VSet) (n : Nat) : Node :=
  let a := v.nodes.get (4 * n)
  let b := v.nodes.get (4 * n + 1)
  let c := v.nodes.get (4 * n + 2)
  { hdrMin := bitsOf a 0 8, hlenPos := bitsOf a 8 8, hlenW := bitsOf a 16 4, hlenShift := bitsOf a 20 3, hlenAdd := bitsOf a 23 8,
    slot := bitsOf a 31 3, slotEn := a.getLsbD 34, fragNode := a.getLsbD 35, tlenPos := bitsOf b 0 8, tlenW := bitsOf b 8 5,
    tlenAdd := bitsOf b 13 8, fragPos := bitsOf b 21 8, fragW := bitsOf b 29 5, selPos := bitsOf c 0 8, selW := bitsOf c 8 5,
    defNext := bitsOf c 13 10, arcBase := bitsOf c 23 12, arcCnt := bitsOf c 35 5 }

/-- A field of `w` bits at bit `pos` of the header at byte `off`, most significant bit of each byte first (R274). -/
def headerField (b : List Nat) (off pos w : Nat) : Nat :=
  (List.range w).foldl (fun a i => 2 * a + bit ((b.getD (off + (pos + i) / 8) 0).testBit (7 - (pos + i) % 8))) 0

/-- How a walk ends (R275, R276). -/
inductive WalkEnd where
  | profile (p : Nat)
  | slow (reason : Nat)
  | drop
  | malformed
deriving DecidableEq, Repr

/-- A walk: its end, the nodes parsed, the end of the declared region, the recorded slots. -/
structure Walk where
  fin : WalkEnd
  nodes : Nat
  region : Nat
  slots : List (Nat × Nat)
deriving DecidableEq, Repr

/-- The next entry of a node: its first arc whose `VALUE` is the selector, else `DEF_NEXT` (R274). -/
def VSet.next (v : VSet) (d : Node) (b : List Nat) (off : Nat) : Nat :=
  if d.selW = 0 then d.defNext
  else
    let sel := headerField b off d.selPos d.selW
    match (List.range d.arcCnt).find? (fun i => bitsOf (v.arcs.get (d.arcBase + i)) 0 16 == sel) with
    | some i => bitsOf (v.arcs.get (d.arcBase + i)) 16 10
    | none => d.defNext

/-- The walk of R276 from next entry `nx`, `n` nodes parsed, header start `off`, region end `e`; `fuel` exceeds the nodes left. -/
def VSet.walk (v : VSet) (b : List Nat) : Nat → Nat → Nat → Nat → Nat → List (Nat × Nat) → Walk
  | 0, _, _, n, e, sl => ⟨.slow 1, n, e, sl⟩
  | fuel + 1, nx, off, n, e, sl =>
    match nx / 256 with
    | 1 => ⟨.profile (nx % 256), n, e, sl⟩
    | 2 => ⟨.slow 4, n, e, sl⟩
    | 3 => ⟨.drop, n, e, sl⟩
    | _ =>
      if n = 16 then ⟨.slow 1, n, e, sl⟩
      else
        let d := v.node (nx % 256)
        let rem := e - off
        if rem < d.hdrMin then ⟨.malformed, n, e, sl⟩
        else
          let h := if d.hlenW = 0 then d.hdrMin else headerField b off d.hlenPos d.hlenW * 2 ^ d.hlenShift + d.hlenAdd
          if h < d.hdrMin ∨ rem < h then ⟨.malformed, n, e, sl⟩
          else if 256 < off + h then ⟨.slow 1, n, e, sl⟩
          else
            let t := headerField b off d.tlenPos d.tlenW + d.tlenAdd
            if d.tlenW ≠ 0 ∧ (t < h ∨ rem < t) then ⟨.malformed, n, e, sl⟩
            else
              let e := if d.tlenW = 0 then e else off + t
              let sl := if d.slotEn then (d.slot, off) :: sl.filter (fun x => x.1 != d.slot) else sl
              if d.fragNode ∨ (d.fragW ≠ 0 ∧ headerField b off d.fragPos d.fragW ≠ 0) then ⟨.slow 3, n + 1, e, sl⟩
              else v.walk b fuel (v.next d b off) (off + h) (n + 1) e sl

/-- The start of a slot, if it was recorded. -/
def Walk.slot? (w : Walk) (k : Nat) : Option Nat := (w.slots.find? (fun x => x.1 == k)).map Prod.snd

/-- `SLOT_VALID`. -/
def Walk.slotValid (w : Walk) : Nat := ((List.range 8).map (fun k => if (w.slot? k).isSome then 2 ^ k else 0)).sum

/-- The parse flags: malformed, trailer (R276, R278, R280). -/
def Walk.flags (w : Walk) (len : Nat) : Nat := bit (w.fin == .malformed) + 2 * bit (w.fin != .malformed && decide (w.region < len))

/-! ### Keys, patterns, lookup (R280–R289) -/

/-- The bytes of a metadata item (R280); a multi-byte item has its most significant byte first (log 15). -/
def metaBytes (p : RPkt) (w : Walk) (pat item : Nat) : List Nat :=
  match item with
  | 0 => [p.ingress]
  | 1 => [p.tenant]
  | 2 => beBytes 2 p.term
  | 3 => beBytes 2 p.flow
  | 4 => beBytes 2 pat
  | 5 => [p.pass]
  | 6 => [w.flags p.bytes.length]
  | 7 => [w.slotValid]
  | _ => []

/-- Writes bytes into a key. -/
def putBytes (key : List Nat) (pos : Nat) (bs : List Nat) : List Nat := (bs.zipIdx).foldl (fun k x => k.set (pos + x.2) x.1) key

/-- One extract word applied to a key: bytes of an unrecorded slot or past the packet's end are zero (R280). -/
def extract (p : RPkt) (w : Walk) (pat : Nat) (key : List Nat) (x : Word) : List Nat :=
  let n := bitsOf x 13 5
  match bitsOf x 0 2 with
  | 1 =>
    let bs := match w.slot? (bitsOf x 2 3) with
      | some o => (List.range n).map (fun i => p.bytes.getD (o + bitsOf x 5 8 + i) 0)
      | none => List.replicate n 0
    putBytes key (bitsOf x 18 7) bs
  | 2 => putBytes key (bitsOf x 18 7) (metaBytes p w pat (bitsOf x 25 4))
  | _ => key

/-- The key words a profile builds. -/
def VSet.key (v : VSet) (prof : Nat) (p : RPkt) (w : Walk) (pat : Nat) : List Word :=
  let kw := bitsOf (v.profiles.get (32 * prof)) 0 2
  let xs := (List.range 16).map (fun i => v.profiles.get (32 * prof + 4 + i))
  packWords (xs.foldl (extract p w pat) (List.replicate (20 * 2 ^ kw) 0))

/-- Byte `i` of words packed as key bytes are. -/
def packedByte (ws : List Word) (i : Nat) : Nat := bitsOf (ws.getD (i / 5) 0) (32 - 8 * (i % 5)) 8

/-- Whether a pattern matches a packet anywhere (R288): word 0 its set, length and range, then 13 value and 13 mask words. -/
def patMatches (ws : List Word) (b : List Nat) : Bool :=
  let w0 := ws.getD 0 0
  let n := bitsOf w0 6 7
  let lim := min b.length 2048
  let lo := bitsOf w0 13 11
  let hi := min (bitsOf w0 24 11) (lim - n)
  decide (n ≤ lim) && (List.range (hi + 1 - lo)).any (fun i => (List.range n).all (fun j =>
    let m := packedByte (ws.drop 14) j
    (b.getD (lo + i + j) 0 &&& m) == (packedByte (ws.drop 1) j &&& m)))

/-- The pattern result of a profile (R289). -/
def VSet.pattern (v : VSet) (prof : Nat) (b : List Nat) : Nat :=
  let w0 := v.profiles.get (32 * prof)
  if !w0.getLsbD 2 then 0
  else
    match v.pats.find? (fun c => bitsOf (c.2.getD 0 0) 0 6 == bitsOf w0 3 6 && patMatches c.2 b) with
    | some (id, _) => 32768 + id
    | none => 0

/-- The logical banks a rule's slices lie in (R282). -/
def Rule.banks (r : Rule) : List Nat := (List.range (2 ^ r.width)).map (fun i => r.bank + i)

/-- Whether no slice's row is disabled by parity (R287). -/
def State.ruleOk (s : State) (r : Rule) : Bool := r.banks.all (fun b => !((4096 * b + r.row) ∈ s.sieve.bad))

/-- Whether a rule matches a key under a profile (R283). -/
def State.ruleMatches (s : State) (v : VSet) (prof tenant : Nat) (key : List Word) (r : Rule) : Bool :=
  (v.profiles.get (32 * prof + 1 + r.bank / 32)).getLsbD (r.bank % 32) && bitsOf (v.profiles.get (32 * prof)) 0 2 == r.width &&
    (r.tenant == 0 || r.tenant == tenant) && s.ruleOk r &&
    (List.range (4 * 2 ^ r.width)).all (fun j => (key.getD j 0 &&& r.masks.getD j 0) == (r.vals.getD j 0 &&& r.masks.getD j 0))

/-- The winner of a lookup (R284): the highest priority, among equals the lowest ID. -/
def State.classify (s : State) (v : VSet) (prof tenant : Nat) (key : List Word) : Option Rule :=
  (v.rules.filter (fun c => s.ruleMatches v prof tenant key c.2)).foldl (fun best c =>
    match best with
    | some r => if r.prio < c.2.prio then some c.2 else best
    | none => some c.2) none

/-! ### The slow path, copies, mirrors (R278, R279, R291, R293) -/

/-- The metadata of a slow-path packet (R278). -/
def slowMeta (p : RPkt) (w : Walk) (reason : Nat) : List Nat :=
  [reason, p.pass + 8 * w.nodes, p.ingress, p.tenant] ++ leBytes 2 p.ver ++ leBytes 2 p.flow ++ leBytes 2 p.term ++
    (List.range 8).map (fun k => (w.slot? k).getD 0) ++ [w.slotValid, w.flags p.bytes.length] ++ leBytes 5 p.stamp ++ List.replicate 7 0

/-- What the slow-path bucket lacks of being full (R279); one packet is 6,220,800,000 units. -/
def State.slowDeficit (s : State) : Nat :=
  deficitNow (s.rd Reg.Hid.SLOW_DEFICIT [0]) (s.rd Reg.Hid.SLOW_DEFICIT_AT [0]) s.ext (s.rd Reg.Sve.SLOW_RATE [])

/-- The depth of a control channel's queue (R272). -/
def chanDepth (c : Nat) : Nat := [2048, 4096, 4096, 4096, 1024, 8192].getD c 0

/-- The reader of a control channel has taken entries from its queue. -/
def State.chanTaken (s : State) (c n : Nat) : State := if n = 0 then s else s.wr Reg.Hid.CHQ [c] (s.rd Reg.Hid.CHQ [c] - n)

/-- An entry joins a control channel's queue, if it has room (R272, R273). -/
def State.chanPut (s : State) (c : Nat) : Option State :=
  if s.rd Reg.Hid.CHQ [c] < chanDepth c then some (s.wr Reg.Hid.CHQ [c] (s.rd Reg.Hid.CHQ [c] + 1)) else none

/-- The bucket's token for one delivery (R279). -/
def State.slowToken (s : State) : Bool × State :=
  let d := s.slowDeficit + tokenCost
  if s.rd Reg.Sve.SLOW_BURST [] * tokenCost < d then (false, s.addTo Reg.Sve.SLOW_DROP [] 1)
  else (true, (s.wr Reg.Hid.SLOW_DEFICIT [0] d).wr Reg.Hid.SLOW_DEFICIT_AT [0] s.ext)

/-- The bucket, then channel 5's queue, for one delivery (R279): whether it passes. A delivery that the queue turns away has used its token. -/
def State.slowPass (s : State) : Bool × State :=
  match s.slowToken with
  | (false, s) => (false, s)
  | (true, s) =>
    match s.chanPut 5 with
    | some s => (true, s)
    | none => (false, s.addTo Reg.Sve.SLOW_DROP [] 1)

/-- A packet leaves the sieve on the slow path; its buffer passes to the system program (R353). -/
def State.slow (s : State) (p : RPkt) (w : Walk) (reason : Nat) : State :=
  match s.slowPass with
  | (false, s) => s.hwDone p.buf
  | (true, s) =>
    let s := { s with bufs := s.bufs.upd p.buf (fun b => { b with owner := ownerSystem, tenant := 0 }) }
    s.emit (.punt (slowMeta p w reason) p.bytes (s.bufRef p.buf))

/-- `COPY` (R290, R291): a copy in a buffer of its own goes to the slow path, if there is a buffer for it and room in the channel. -/
def State.slowCopy (s : State) (p : RPkt) (w : Walk) : State :=
  match s.slowToken with
  | (false, s) => s
  | (true, s) =>
    if chanDepth 5 ≤ s.rd Reg.Hid.CHQ [5] then s.addTo Reg.Sve.SLOW_DROP [] 1
    else
      match s.allocBuf (frameLen p.bytes) false ownerSystem 0 with
      | (none, s) => s.addTo Reg.Sve.SLOW_DROP [] 1
      | (some k, s) => ((s.chanPut 5).getD s).emit (.punt (slowMeta p w 7) p.bytes (s.bufRef k))

/-- `MIRROR` (R293): a copy, cut to `M_TRUNC`, to the session's destination. A rule tagged to a tenant mirrors only to that tenant's sessions. -/
def State.mirror (s : State) (p : RPkt) (m : Nat) (tenant : Nat) : State :=
  if !s.flag Reg.Sve.M_EN [m] then s.addTo Reg.Sve.MIRROR_DROP [] 1
  else if tenant ≠ 0 ∧ s.rd Reg.Sve.M_TENANT [m] ≠ tenant then s
  else
    let n := s.rd Reg.Sve.M_TRUNC [m]
    let b := if n = 0 then p.bytes else p.bytes.take n
    let d := s.rd Reg.Sve.M_DEST [m]
    if d = 127 ∧ chanDepth 5 ≤ s.rd Reg.Hid.CHQ [5] then s.addTo Reg.Sve.MIRROR_DROP [] 1
    else
      match s.allocBuf (frameLen b) false (if d = 127 then ownerSystem else ownerHw 0x0B (8 * (d - 64) + pcp b)) (if d = 127 then 0 else p.tenant) with
      | (none, s) => s.addTo Reg.Sve.MIRROR_DROP [] 1
      | (some k, s) =>
        if d = 127 then ((s.chanPut 5).getD s).emit (.channel 5 p.ingress p.term b)
        else s.enqueueUp (d - 64) { buf := k, bytes := b, tree := 0, flow := 0, yellow := false, share := false }

/-! ### Actions (R290–R294) -/

/-- An action word's fields. -/
def actDisp (a : Nat) : Nat := a % 4

/-- A recirculated packet enters the queue, or is dropped, or has made its four passes (R292). -/
def State.recirculate (s : State) (p : RPkt) (w : Walk) (a : Nat) : State :=
  if 4 ≤ p.pass then s.slow p w 6
  else
    let cut := if a.testBit 13 then (w.slot? (a / 2 ^ 10 % 8)).getD 0 else 0
    let q := { p with bytes := p.bytes.drop cut, pass := p.pass + 1, node := a / 2 ^ 14 % 256 }
    if 786432 < (s.sieve.recirc.map (fun x => x.bytes.length)).sum + q.bytes.length then (s.addTo Reg.Sve.RECIRC_DROP [] 1).hwDone p.buf
    else { s with sieve := { s.sieve with recirc := s.sieve.recirc ++ [q] } }

/-- The action stage carries an action word out (R290–R293); `tenant` is the winning rule's tag. -/
def State.act (s : State) (p : RPkt) (w : Walk) (a tenant : Nat) : State :=
  let s := if a.testBit 2 then s.slowCopy p w else s
  let s := if a.testBit 3 then s.mirror p (a / 16 % 64) tenant else s
  match actDisp a with
  | 1 => s.forward p (a / 2 ^ 22 % 2 ^ 18)
  | 2 => s.recirculate p w a
  | _ => s.hwDone p.buf

/-- The single lookup of a walk's end (R280, R284): the winner's action and tag, its counter incremented. -/
def State.result (s : State) (v : VSet) (prof : Nat) (p : RPkt) (w : Walk) : Nat × Nat × State :=
  match s.classify v prof p.tenant (v.key prof p w (v.pattern prof p.bytes)) with
  | some r => (r.action, r.tenant, if r.cntEn then s.count r.cnt else s)
  | none => ((v.profiles.get (32 * prof + 3)).toNat, 0, s)

/-- One pass (R271 items 3–5): the packet's version must be live (R304). A packet that a profile drops for want of a rule counts as the profile's miss (R291). -/
def State.pass (s : State) (p : RPkt) (nx : VSet → Nat) : State :=
  match s.setOf p.ver with
  | none => (s.addTo Reg.Sve.RETIRED_CNT [] 1).slow p ⟨.drop, 0, p.bytes.length, []⟩ 5
  | some v =>
    let w := v.walk p.bytes 17 (nx v) 0 0 p.bytes.length []
    match w.fin with
    | .drop => (s.addTo Reg.Sve.NO_PARSE [p.ingress] 1).hwDone p.buf
    | .slow r => (if r = 1 then s.addTo Reg.Sve.DEPTH_CNT [p.ingress] 1 else s).slow p w r
    | .profile k =>
      let miss := (s.classify v k p.tenant (v.key k p w (v.pattern k p.bytes))).isNone
      let (a, t, s) := s.result v k p w
      (if miss && actDisp a == 0 then s.addTo Reg.Hid.MISS_DROP [k] 1 else s).act p w a t
    | .malformed =>
      let k := s.rd Reg.Sve.MAL_PROF [p.ingress]
      let miss := (s.classify v k p.tenant (v.key k p w (v.pattern k p.bytes))).isNone
      let (a, t, s) := s.result v k p w
      let s := if miss && !s.flag Reg.Sve.MAL_COPY [p.ingress] then s.addTo Reg.Hid.MISS_DROP [k] 1 else s
      let s := if a.testBit 3 then s.mirror p (a / 16 % 64) t else s
      let s := s.addTo Reg.Sve.MAL_CNT [p.ingress] 1
      if s.flag Reg.Sve.MAL_COPY [p.ingress] then s.slow p w 2 else s.hwDone p.buf

/-! ### Entry (R270–R273, R309) -/

/-- The control channel a frame belongs to (R272). -/
def State.channelFor (s : State) (p : Packet) : Option Nat :=
  let pon := decide (p.ingress < 64) && s.mode p.ingress != 0
  let epon := pon && s.isEpon p.ingress && s.head p.ingress
  if pon && !s.isEpon p.ingress && p.kind == 1 then some 0
  else if pon && !s.isEpon p.ingress && p.kind == 2 then some 1
  else if epon && etherType p.bytes == 0x8808 then some 2
  else if epon && etherType p.bytes == 0x8809 && p.bytes.getD 14 0 == 3 then some 3
  else none

/-- Whether an MPCP frame is a REPORT (R272): opcode 0x0003 after the EtherType. It goes to the report digest, which parses it (`REPORT`, R190). -/
def isReport (b : List Nat) : Bool := b.getD 14 0 == 0 && b.getD 15 0 == 3

/-- A channel packet goes to the system program, a frame in a buffer of its own, an MPCP REPORT to the digest instead (R272, R273, R349). -/
def State.toChannel (s : State) (c : Nat) (p : Packet) : State :=
  if c = 2 ∧ isReport p.bytes then s
  else
    match s.chanPut c with
    | none => s.addTo Reg.Sve.CTRL_DROP [c] 1
    | some t =>
      if c = 0 then t.emit (.channel 0 p.ingress p.term p.bytes)
      else
        match s.allocBuf (frameLen p.bytes) true ownerSystem 0 with
        | (none, s) => s.addTo Reg.Sve.CTRL_DROP [c] 1
        | (some _, s) => ((s.chanPut c).getD s).emit (.channel c p.ingress p.term p.bytes)

/-- The enabled flow record of an upstream frame (R309). -/
def State.flowOf (s : State) (z id t : Nat) : Option Nat :=
  (s.listed Reg.Fwd.F_EN [z]).find? (fun f => s.flag Reg.Fwd.F_EN [z, f] && !s.flag Reg.Fwd.MCAST [z, f] &&
    s.rd Reg.Fwd.FLOW_ID [z, f] == id && s.rd Reg.Fwd.TERM [z, f] == t)

/-- The port an ingress index names, as an object. -/
def ingressObj (i : Nat) : Nat := if i < 64 then portObj i else if i < 96 then Reg.Lan.UL_MODE.addr [i - 64] else Reg.Sve.SIEVE_DROP.addr [i]

/-- A data packet meets the sieve's input queue, takes a buffer, is stamped with the current version and makes its first pass (R225, R271, R348). -/
def State.enterSieve (s : State) (p : Packet) (tenant term flow : Nat) : State :=
  if p.full.input then
    (s.addTo Reg.Sve.SIEVE_DROP [p.ingress] 1).raiseRated rateMs 0xB0 p.ingress (tagOf s 0 (ingressObj p.ingress)) (ingressObj p.ingress) []
  else
    match s.allocBuf (frameLen p.bytes) false (ownerHw 4 p.ingress) tenant with
    | (none, s) => s
    | (some k, s) =>
      let q : RPkt := { bytes := p.bytes, ingress := p.ingress, tenant := tenant, term := term, flow := flow, ver := s.rd Reg.Sve.V_CUR [], pass := 1, node := 0, buf := k, stamp := s.now, full := p.full }
      s.pass q (fun v => v.start p.ingress)

/-- `RECIRC_PASS` (R292): the oldest recirculated packet starts its next pass at `RNODE`. -/
def execRecircPass (s : State) : Out' :=
  match s.sieve.recirc with
  | [] => .next s
  | p :: rest => .next (({ s with sieve := { s.sieve with recirc := rest } } : State).pass p (fun _ => p.node))

/-- Whether an action word has its form (R290): `DISP` 3 is reserved, and fields its `DISP` does not use are zero. -/
def actionOk (a : Nat) : Bool :=
  match actDisp a with
  | 0 => a / 2 ^ 10 == 0
  | 1 => a / 2 ^ 10 % 2 ^ 12 == 0
  | 2 => a / 2 ^ 22 == 0
  | _ => false

/-! ### Rows (R282, R286, R287, R298, R299) -/

/-- Sorts numbers and drops repeats. -/
def sortNats (l : List Nat) : List Nat := sortBy (fun a b => decide (a ≤ b)) l.eraseDups

/-- The rows of a bank that a set holds. -/
def VSet.rowsIn (v : VSet) (b : Nat) : List Nat := v.rules.filterMap (fun c => if b ∈ c.2.banks then some c.2.row else none)

/-- The rows of a bank that any version holds, rising. -/
def State.rowsHeld (s : State) (b : Nat) : List Nat := sortNats (s.sieve.cur.rowsIn b ++ s.sieve.prev.rowsIn b ++ s.sieve.staged.rowsIn b)

/-- Parity marks stay only on held rows. -/
def State.pruneBad (s : State) : State :=
  let held := fun k => decide (k % 4096 ∈ s.rowsHeld (k / 4096))
  { s with sieve := { s.sieve with
      bad := s.sieve.bad.filter held
      struck := s.sieve.struck.filter held } }

/-- A rule is written to a row of each of its banks, which no version held: the rows' parity is good (R287, R298). -/
def State.rowWritten (s : State) (banks : List Nat) (row : Nat) : State :=
  let other := fun k => !(banks.any (fun b => 4096 * b + row == k))
  { s with sieve := { s.sieve with
      bad := s.sieve.bad.filter other
      struck := s.sieve.struck.filter other } }

/-- Moves 160-bit rules of a row to another row of the same bank, in every set that holds them (R299). -/
def VSet.moveRow (v : VSet) (b r r' : Nat) : VSet :=
  { v with rules := v.rules.map (fun c => if c.2.width = 0 ∧ c.2.bank = b ∧ c.2.row = r then (c.1, { c.2 with row := r' }) else c) }

/-- One hole shift (R298): row `r` of bank `b` is freed by a move to another free row, the device's choice. -/
def State.holeShift (s : State) (r : Nat) (b : Nat) : State :=
  let held := s.rowsHeld b
  if !(r ∈ held) then s
  else
    let (k, s) := s.choose (4096 - held.length)
    let r' := kthFree held 0 k
    { s with sieve := { s.sieve with
        cur := s.sieve.cur.moveRow b r r'
        prev := s.sieve.prev.moveRow b r r'
        staged := s.sieve.staged.moveRow b r r'
        bad := s.sieve.bad.map (fun x => if x = 4096 * b + r then 4096 * b + r' else x)
        struck := s.sieve.struck.map (fun x => if x = 4096 * b + r then 4096 * b + r' else x) } }

/-- Whether a row of a bank holds only 160-bit rules. -/
def State.narrowRow (s : State) (b r : Nat) : Bool :=
  [s.sieve.cur, s.sieve.prev, s.sieve.staged].all (fun v => v.rules.all (fun c => !(decide (b ∈ c.2.banks) && c.2.row == r) || c.2.width == 0))

/-- The row a rule is placed at (R298): a row free in all three slots across its banks, after hole shifts where a wide rule needs them; the device's choice
where there are several (log 3). -/
def State.placeRow (s : State) (banks : List Nat) : Option (Nat × State) :=
  let taken := sortNats (banks.flatMap s.rowsHeld)
  if taken.length < 4096 then
    let (k, s) := s.choose (4096 - taken.length)
    some (kthFree taken 0 k, s)
  else if banks.length = 1 then none
  else
    let can := (List.range 4096).filter (fun r => banks.all (fun b =>
      !(decide (r ∈ s.rowsHeld b)) || (s.narrowRow b r && decide ((s.rowsHeld b).length < 4096))))
    if can.isEmpty then none
    else
      let (k, s) := s.choose can.length
      let r := can.getD k 0
      some (r, banks.foldl (fun s b => s.holeShift r b) s)

/-- A parity check finds a row's error (R287): the row is disabled, counted and reported with the rule it holds. -/
def State.rowParity (s : State) (bank row : Nat) : State :=
  let k := 4096 * bank + row
  if decide (k ∈ s.sieve.bad) then s
  else
    let id := [s.sieve.staged, s.sieve.cur, s.sieve.prev].findSome? (fun v => (v.rules.find? (fun c => decide (bank ∈ c.2.banks) && c.2.row == row)).map (fun c => (c.1, c.2.tenant)))
    let s := { s with sieve := { s.sieve with bad := s.sieve.bad ++ [k], struck := s.sieve.struck.filter (· != k) } }
    let (r, t) := id.getD (0, 0)
    (s.addTo Reg.Sve.PARITY_ERR [] 1).raiseFor t 0xB1 (Reg.Sve.R_PRIO.addr [r]) [bank]

/-- The check of the rows that hold a rule, made at every read by handle (R287). -/
def State.checkRule (s : State) (r : Rule) : State := r.banks.foldl (fun s b => if 4096 * b + r.row ∈ s.sieve.struck then s.rowParity b r.row else s) s

/-- Rows whose parity goes wrong, to be found by the next check. -/
def State.strikeRows (s : State) (l : List Nat) : State :=
  { s with sieve := { s.sieve with struck := s.sieve.struck ++ l.filter (fun k => decide (k % 4096 ∈ s.rowsHeld (k / 4096)) && !(decide (k ∈ s.sieve.bad))) } }

/-- `PARITY_SCRUB` (R287): the scrub reads a row of a logical bank; `bad` where its parity fails. -/
def execParityScrub (bank row : Nat) (bad : Bool) (s : State) : Out' :=
  if !(bad || decide ((4096 * bank + row) ∈ s.sieve.struck)) || !(decide (row ∈ s.rowsHeld bank)) then .next s
  else .next (s.rowParity bank row)

/-- `SPARE_BANK_SWITCH` (R286): a physical bank that serves no other logical bank takes over a logical bank. A bank under test serves none, and its logical bank stays
with the spare throughout (R226). -/
def execSpareBankSwitch (bank phys : Nat) (s : State) : Out' :=
  if 64 ≤ bank ∨ 66 ≤ phys ∨ (List.range 64).any (fun b => s.rd Reg.Sve.PHYS [b] == phys) ∨
      s.reh.slices.any (fun x => x.target == .bank phys || (x.target == .bank bank && decide (phys < 64))) then .next s
  else .next (s.wr Reg.Sve.PHYS [bank] phys)

/-! ### Staging (R277, R281, R285, R295–R298, R451) -/

/-- What the fold over a list has found: the state it leaves, the subcauses of refusals, the first record that did not fit, the nodes it wrote. -/
structure StageAcc where
  st : State
  subs : List Nat
  unfit : Option Nat
  nodes : List Nat

/-- The words a record of a kind has (R295): none for an undefined kind. -/
def recLen (kind : Nat) (rec : List Word) : Option Nat :=
  match kind with
  | 1 => match bitsOf (rec.getD 1 0) 12 2 with | 0 => some 12 | 1 => some 20 | 2 => some 36 | _ => none
  | 2 => some 1
  | 3 => some 2
  | 4 => some 4
  | 5 => some 2
  | 6 => some 21
  | 7 => some 28
  | 8 => some 1
  | 9 => some 1
  | _ => none

/-- What an issuer of tenant `t` may not name in an action word (R293, R297): another tenant's service or session; a rule tagged to a tenant mirrors
only to its own sessions. -/
def State.foreignAction (s : State) (t tenant a : Nat) : Bool :=
  (t != 0 && actDisp a == 1 && s.rd Reg.Fwd.S_TENANT [a / 2 ^ 22 % 2 ^ 18] != t) ||
    (tenant != 0 && a.testBit 3 && s.rd Reg.Sve.M_TENANT [a / 16 % 64] != tenant)

/-- The subcause of a counter index (R296, R451), whether the counter is enabled or not: another tenant's group, or a group no rule may name. -/
def State.counterSubs (s : State) (tenant cnt : Nat) : List Nat :=
  if 13 ≤ cnt / 8192 then [6]
  else if s.rd Reg.Cnt.TENANT [cnt / 8192] ≠ tenant then [2] else []

/-- The subcauses of the form of a new rule (R281, R285, R295). -/
def State.ruleSubs (s : State) (t : Nat) (r : Rule) : List Nat :=
  (if t ≠ 0 ∧ r.tenant ≠ t then [2] else []) ++ (if s.foreignAction t r.tenant r.action then [2] else []) ++ s.counterSubs r.tenant r.cnt ++
    (if !actionOk r.action ∨ r.bank % 2 ^ r.width ≠ 0 ∨ (r.tenant ≠ 0 ∧ s.rd Reg.Sve.TENANT_PRIO_MAX [] < r.prio) then [6] else [])

/-- The rule an add record describes. -/
def ruleOf (rec : List Word) : Rule :=
  let w1 := rec.getD 1 0
  let w2 := rec.getD 2 0
  let n := 4 * 2 ^ bitsOf w1 12 2
  { prio := bitsOf w1 0 12, width := bitsOf w1 12 2, tenant := bitsOf w1 14 6, bank := bitsOf w1 20 6, row := 0, cnt := bitsOf w2 0 17,
    cntEn := w2.getLsbD 17, action := (rec.getD 3 0).toNat, vals := (rec.drop 4).take n, masks := (rec.drop (4 + n)).take n }

/-- Whether an extract word has its form for a key of `n` bytes (R280, R281). -/
def extractOk (n : Nat) (x : Word) : Bool :=
  match bitsOf x 0 2 with
  | 0 => true
  | 1 => decide (1 ≤ bitsOf x 13 5) && decide (bitsOf x 13 5 ≤ 20) && decide (bitsOf x 18 7 + bitsOf x 13 5 ≤ n)
  | 2 => decide (bitsOf x 25 4 ≤ 7) && bitsOf x 13 5 == (if bitsOf x 25 4 ∈ [2, 3, 4] then 2 else 1) && decide (bitsOf x 18 7 + bitsOf x 13 5 ≤ n)
  | _ => false

/-- Whether a profile has its form (R281). -/
def profileOk (ws : List Word) : Bool :=
  let k := bitsOf (ws.getD 0 0) 0 2
  let mask := bitsOf (ws.getD 1 0) 0 32 + 2 ^ 32 * bitsOf (ws.getD 2 0) 0 32
  decide (k ≤ 2) && (ws.getD 0 0).toNat / 2 ^ 9 == 0 && (ws.getD 1 0).toNat / 2 ^ 32 == 0 && (ws.getD 2 0).toNat / 2 ^ 32 == 0 && actionOk (ws.getD 3 0).toNat &&
    (List.range (64 / 2 ^ k)).all (fun g => let m := mask / 2 ^ (g * 2 ^ k) % 2 ^ (2 ^ k); m == 0 || m == 2 ^ (2 ^ k) - 1) &&
    (ws.drop 4).all (extractOk (20 * 2 ^ k))

/-- Whether the fields of a node lie within its shortest header, its arcs within the table, and none of its next entries names itself (R277). -/
def VSet.nodeOk (v : VSet) (n : Nat) : Bool :=
  let d := v.node n
  let bits := 8 * d.hdrMin
  decide (1 ≤ d.hdrMin) && decide (d.tlenW ≤ 16) && decide (d.fragW ≤ 16) && decide (d.selW ≤ 16) && decide (d.arcCnt ≤ 16) &&
    (v.nodes.get (4 * n)).toNat / 2 ^ 36 == 0 && (v.nodes.get (4 * n + 1)).toNat / 2 ^ 34 == 0 &&
    (d.hlenW == 0 || decide (d.hlenPos + d.hlenW ≤ bits)) && (d.tlenW == 0 || decide (d.tlenPos + d.tlenW ≤ bits)) &&
    (d.fragW == 0 || decide (d.fragPos + d.fragW ≤ bits)) && (d.selW == 0 || decide (d.selPos + d.selW ≤ bits)) &&
    decide (d.arcBase + d.arcCnt ≤ 4096) && d.defNext != n && (List.range d.arcCnt).all (fun i => bitsOf (v.arcs.get (d.arcBase + i)) 16 10 != n)

/-- Changes the staged set. -/
def State.modStaged (s : State) (f : VSet → VSet) : State := { s with sieve := { s.sieve with staged := f s.sieve.staged } }

/-- The reserved bits of word 0 of a record, above its item's number (R295). -/
def recItem (kind : Nat) (w : Word) : Nat × Bool :=
  let n := match kind with | 1 => 20 | 2 => 20 | 3 => 20 | 4 => 8 | 5 => 12 | 6 => 8 | 7 => 14 | 8 => 14 | _ => 17
  (bitsOf w 10 n, w.toNat / 2 ^ (10 + n) == 0)

/-- The effect of one well-formed record on the staged set, with what it refuses (R295–R298). -/
def stageRec (t i kind item : Nat) (rec : List Word) (a : StageAcc) : StageAcc :=
  let s := a.st
  let v := s.sieve.staged
  match kind with
  | 1 =>
    let r := ruleOf rec
    let subs := s.ruleSubs t r ++ (match v.rules.get? item with | some o => (if t ≠ 0 ∧ o.tenant ≠ t then [2] else []) ++ [6] | none => [])
    match s.placeRow r.banks with
    | some (row, s) => { a with st := (s.rowWritten r.banks row).modStaged (fun v => { v with rules := v.rules.put item { r with row := row } }), subs := a.subs ++ subs }
    | none => { a with subs := a.subs ++ subs, unfit := a.unfit.or (some i), st := s.modStaged (fun v => { v with rules := v.rules.put item { r with row := 4096 } }) }
  | 2 =>
    let subs := match v.rules.get? item with
      | none => [6]
      | some r => if t ≠ 0 ∧ r.tenant ≠ t then [2] else []
    { a with st := s.modStaged (fun v => { v with rules := v.rules.del item }), subs := a.subs ++ subs }
  | 3 =>
    let act := (rec.getD 1 0).toNat
    let subs := match v.rules.get? item with
      | none => [6]
      | some r => (if t ≠ 0 ∧ r.tenant ≠ t then [2] else []) ++ (if s.foreignAction t r.tenant act then [2] else []) ++
          s.counterSubs r.tenant r.cnt ++ (if actionOk act then [] else [6])
    { a with st := s.modStaged (fun v => { v with rules := v.rules.upd item (fun r => { r with action := act }) }), subs := a.subs ++ subs }
  | 4 => { a with st := s.modStaged (fun v => { v with nodes := v.nodes.fill (4 * item) (rec.drop 1) }), nodes := a.nodes ++ [item] }
  | 5 =>
    let w := rec.getD 1 0
    { a with st := s.modStaged (fun v => { v with arcs := v.arcs.set item w }), subs := a.subs ++ (if w.toNat / 2 ^ 26 = 0 then [] else [6]) }
  | 6 =>
    { a with st := s.modStaged (fun v => { v with profiles := v.profiles.fill (32 * item) (rec.drop 1) }), subs := a.subs ++ (if profileOk (rec.drop 1) then [] else [6]) }
  | 7 =>
    let n := bitsOf (rec.getD 1 0) 6 7
    let bad := n == 0 || decide (64 < n) || (rec.getD 1 0).toNat / 2 ^ 35 != 0 || (v.pats.get? item).isSome
    { a with st := s.modStaged (fun v => { v with pats := v.pats.put item (rec.drop 1) }), subs := a.subs ++ (if bad then [6] else []) }
  | 8 => { a with st := s.modStaged (fun v => { v with pats := v.pats.del item }), subs := a.subs ++ (if (v.pats.get? item).isSome then [] else [6]) }
  | _ =>
    let i := item % 128
    { a with st := s.modStaged (fun v => { v with starts := v.starts.set i (BitVec.ofNat 40 ((item / 128) ^^^ 0x300)) }), subs := a.subs ++ (if i ≤ 96 then [] else [6]) }

/-- One record of a list for an issuer of tenant `t` (R296, R297). -/
def stageOne (t : Nat) (a : StageAcc) (x : List Word × Nat) : StageAcc :=
  let w := x.1.getD 0 0
  let kind := bitsOf w 0 4
  let (item, clean) := recItem kind w
  let own := if t ≠ 0 ∧ (kind = 0 ∨ 3 < kind) then [3] else []
  if recLen kind x.1 ≠ some x.1.length ∨ bitsOf w 4 6 ≠ x.1.length ∨ !clean then { a with subs := a.subs ++ own ++ [6] }
  else stageRec t x.2 kind item x.1 { a with subs := a.subs ++ own }

/-- The nodes a list leaves to be judged: those written, and those in use whose arcs may have changed. -/
def VSet.nodesUsed (v : VSet) : List Nat := (List.range 256).filter (fun n => bitsOf (v.nodes.get (4 * n)) 0 8 != 0)

/-- A `STAGE` list applied to the staged set (R296): completion code, `RESULT` or subcause, new state. Nothing is staged where it is refused. -/
def State.stage (s : State) (t : Nat) (recs : List (List Word)) : Nat × Nat × State :=
  let a := (recs.zipIdx).foldl (stageOne t) { st := s, subs := [], unfit := none, nodes := [] }
  let v := a.st.sieve.staged
  let subs := a.subs ++ (if (a.nodes ++ v.nodesUsed).all v.nodeOk then [] else [6])
  if 2 ∈ subs then (0x7F, 2, s)
  else if 3 ∈ subs then (0x7F, 3, s)
  else if 6 ∈ subs then (0x7F, 6, s)
  else
    match a.unfit with
    | some i => (0x33, i, s)
    | none => (0, recs.length, (a.st.wr Reg.Sve.STAGED [] (s.rd Reg.Sve.STAGED [] + recs.length)).pruneBad)

/-- The completion word of a code with its `RESULT` or subcause (R75). -/
def cplWord (code result : Nat) : Word := cword code (result % 2 ^ 31)

/-! ### Curtains (R90, R91, R303–R306) -/

/-- A `STAGE` takes effect (R296, R305, R306): held while a curtain is pending, else checked and applied to the staged set; in a pair it completes once the twin's copy
holds it too, and one that is applied while the pair is apart faults (R306). A denial is counted and reported, at once or after the switch (R28). What unit 0 mirrored,
ticket entry 4096, is applied here and goes no further. -/
def State.stageNow (s : State) (h : HeldStage) : State :=
  if s.sieve.curtain.isSome then { s with sieve := { s.sieve with held := s.sieve.held ++ [h] } }
  else if s.pairing ≠ 0 ∧ !s.pairOk then
    if h.entry = 4096 then s else (s.addTo Reg.Twn.MIRROR_FAULTS [] 1).finishTicket h.entry h.gen (cplWord 0x7E 4)
  else if h.entry = 4096 then (s.stage h.tenant h.recs).2.2
  else
    match s.stage h.tenant h.recs with
    | (code, r, t) =>
      if code = 0x7F then (t.deniedBy h.cx h.remote h.tenant (Reg.Sve.STAGED.addr [])).finishTicket h.entry h.gen (cplWord code r)
      else if s.pairing = 0 ∨ code ≠ 0 then t.finishTicket h.entry h.gen (cplWord code r)
      else
        t.sendTwin 4 h.cx (BitVec.ofNat 40 (Reg.Sve.STAGED.addr [])) 0 (0x50 :: h.tenant :: h.recs.flatten.map BitVec.toNat) (.ticket h.entry h.gen (cplWord code r))

/-- A curtain's outcome reaches its ticket: the operation itself, or the continuation that `VERSION_BUSY` named (R91), whose context may be gone by then (R48). -/
def State.finishCurtain (s : State) (c : Curtain) (w : Word) : State :=
  match s.cpu.tickets.get? c.entry with
  | none => s
  | some t =>
    if t.gen = c.gen ∧ t.next.isSome then { s with cpu := { s.cpu with tickets := s.cpu.tickets.put c.entry { t with next := some (.done w) } } }
    else if c.waiting then (if t.gen = c.gen % 255 + 1 ∨ (t.gen = c.gen ∧ t.orphan) then s.finishTicket c.entry t.gen w else s)
    else s.finishTicket c.entry c.gen w

/-- The outcome is known here: in a graft mode the twin's own switch is awaited, and a timeout on either unit decides (R306). -/
def State.curtainDone (s : State) (c : Curtain) (code v : Nat) : State :=
  if s.pairing = 0 then s.finishCurtain c (cplWord code v)
  else if c.twin = 0 then { s with sieve := { s.sieve with awaits := s.sieve.awaits ++ [(c, code, v)] } }
  else s.finishCurtain c (cplWord (if c.twin = 2 then 0x41 else code) v)

/-- The twin reports its own switch of a curtain (R306). -/
def State.curtainTwin (s : State) (timedOut : Bool) : State :=
  match s.sieve.awaits with
  | (c, code, v) :: rest =>
    ({ s with sieve := { s.sieve with awaits := rest } } : State).finishCurtain c (cplWord (if timedOut then 0x41 else code) v)
  | [] =>
    { s with sieve := { s.sieve with curtain := s.sieve.curtain.map (fun c => { c with twin := if timedOut then 2 else 1 }) } }

/-- The versions rotate (R303), and the stages held behind the curtain are applied (R305). -/
def State.switchVersions (s : State) (c : Curtain) (code : Nat) : State :=
  let v := s.rd Reg.Sve.V_CUR []
  let v' := v % 65535 + 1
  let s := ((((s.wr Reg.Sve.V_CUR [] v').wr Reg.Sve.V_PREV [] v).wr Reg.Sve.STAGED [] 0).wr Reg.Sve.CURTAIN_PEND [] 0)
  let held := s.sieve.held
  let s := ({ s with sieve := { s.sieve with cur := s.sieve.staged, prev := s.sieve.cur, curtain := none, held := [] } } : State).pruneBad
  let s := s.curtainDone c code v'
  let s := if s.pairing = 0 then s else s.emit (.twin 5 [0x51, bit (code == 0x41)])
  held.foldl State.stageNow s

/-- A curtain is due (R303). -/
def State.curtainDue (s : State) (c : Curtain) : State :=
  if s.holders (s.rd Reg.Sve.V_PREV []) = 0 then s.switchVersions c 0
  else
    let s := { s with sieve := { s.sieve with curtain := some { c with waiting := true } } }
    match s.cpu.tickets.get? c.entry with
    | some t =>
      if t.gen = c.gen then
        let cont := ticketWord c.entry { t with gen := t.gen % 255 + 1 }
        let s := { s with cpu := { s.cpu with tickets := s.cpu.tickets.put c.entry { t with next := some .pending } } }
        s.finishTicket c.entry c.gen (cplWord 0x40 cont.toNat)
      else s
    | none => s

/-- When a `CURTAIN` that passed its checks is due (R90, R303): in solo mode now where its time is 0 or past, in a pair no sooner than 50 µs from now. -/
def State.curtainTime (s : State) (tEff : Word) : Nat :=
  let d0 : Nat := if tEff = 0 then s.ext else s.extOf tEff
  if s.pairing ≠ 0 then (if tEff = 0 ∨ d0 < s.ext + 311040 then s.ext + 311040 else d0) else max d0 s.ext

/-- A curtain is scheduled for an extended stage time, one and the same on both units of a pair. -/
def State.curtain (s : State) (entry gen due : Nat) : State :=
  let c : Curtain := { entry := entry, gen := gen, due := due, waiting := false, twin := 0 }
  let s : State := { s.wr Reg.Sve.CURTAIN_PEND [] 1 with sieve := { s.sieve with curtain := some c } }
  if s.pairing = 0 ∧ due ≤ s.ext then s.curtainDue c else s

/-- `CURTAIN_DUE` (R303): the effect time is reached. -/
def execCurtainDue (s : State) : Out' :=
  match s.sieve.curtain with
  | some c => if c.waiting then .next s else .next ((s.advanceTo c.due).curtainDue c)
  | none => .next s

/-- `CURTAIN_SWITCH` (R303): `HOLD_PREV` has reached 0. -/
def execCurtainSwitch (s : State) : Out' :=
  match s.sieve.curtain with
  | some c => if c.waiting ∧ s.holders (s.rd Reg.Sve.V_PREV []) = 0 then .next (s.switchVersions c 0) else .next s
  | none => .next s

/-- `CURTAIN_TIMEOUT` (R304): `CURTAIN_TO` after the effect time the old version is retired by force. -/
def execCurtainTimeout (s : State) : Out' :=
  match s.sieve.curtain with
  | some c =>
    if c.waiting ∧ s.holders (s.rd Reg.Sve.V_PREV []) ≠ 0 then .next ((s.advanceTo (c.due + usTicks (s.rd Reg.Sve.CURTAIN_TO []))).switchVersions c 0x41)
    else .next s
  | none => .next s

/-! ### Rule and pattern views (R300) -/

/-- The record of the newest set that holds an ID: staged, then current, then previous. -/
def State.newest {α : Type} (s : State) (f : VSet → Option α) : Option α :=
  match f s.sieve.staged with
  | some x => some x
  | none => match f s.sieve.cur with
    | some x => some x
    | none => f s.sieve.prev

/-! ### Injection on channel 5 (R273) -/

/-- A context's injection is refused (R28, R273): counted and reported, and its refusal comes back as that of a posted store (R39). -/
def State.refuseInject (s : State) (cx : Cx) (c : Ctx) (sub : Nat) : State :=
  let a := Reg.Sve.CTRL_DROP.addr [5]
  let (i, s) := (s.denied cx c a).freeWord
  s.refuseStore cx (0x7F, sub) (BitVec.ofNat 40 a) i

/-- `PUNT_INJECT` (R273): the system context or a tenant 0 script injects a packet on channel 5 with its action word; any other context is denied. An action word
that is none completes `DENIED` with subcause 0x06 (DEDUCED from R290, log 52). -/
def execPuntInject (cx : Cx) (action : Word) (bytes : List Nat) (full : Full) (s : State) : Out' :=
  match s.ctx? cx with
  | none => .next s
  | some c =>
    let s := s.chanTaken 5 full.punt
    if c.tenant ≠ 0 ∨ c.tree?.isSome then .next (s.refuseInject cx c 1)
    else if !actionOk action.toNat then .next (s.refuseInject cx c 6)
    else if chanDepth 5 ≤ s.rd Reg.Hid.CHQ [5] then .next (s.addTo Reg.Sve.CTRL_DROP [5] 1)
    else
      match s.allocBuf (frameLen bytes) true (ownerHw 4 127) 0 with
      | (none, s) => .next (s.addTo Reg.Sve.CTRL_DROP [5] 1)
      | (some k, s) =>
        let s := (s.strike full.ents).strikeRows full.rows
        let p : RPkt := { bytes := bytes, ingress := 127, tenant := 0, term := 0xFFFF, flow := 0xFFFF, ver := 0, pass := 1, node := 0, buf := k, stamp := s.now, full := full }
        .next (s.act p ⟨.drop, 0, bytes.length, []⟩ action.toNat 0)

end Sys2Proof.Machine
end

