-- ==== Sys2Proof/Machine/Cipher.lean ====
section
/-! DEFINITION. The cipher engine and its key slots (R365–R391). -/

namespace Sys2Proof.Machine

/-! ### Slots (R365, R366, R379) -/

/-- The counter space of a key of a mode (R365). -/
def keySpace (mode : Nat) : Nat :=
  if mode = 2 ∨ mode = 3 then 2 ^ 51
  else if mode = 5 ∨ mode = 13 then 2 ^ 48
  else if 6 ≤ mode ∧ mode ≤ 9 then 2 ^ 32 - 1
  else if mode = 10 ∨ mode = 11 ∨ mode = 12 ∨ mode = 14 then 2 ^ 64 - 1
  else 0

/-- Whether a mode allows a 256-bit key (R365). -/
def mode256 (mode : Nat) : Bool := mode == 1 || (decide (8 ≤ mode) && decide (mode ≤ 14))

/-- A slot's object (R392). -/
def slotObj (n : Nat) : Nat := Reg.Key.MODE.addr [n]

/-- What a slot holds before a key is loaded. -/
def emptySlot : Slot := { key := 0, shadow := none, rem := 0, lastSf := 0, twinPn := 0, ops := [], tix := [], claimed := false }

/-- The hidden part of slot n. -/
def State.slot (s : State) (n : Nat) : Slot := (s.cipher.slots.get? n).getD emptySlot

/-- Stores the hidden part of slot n. -/
def State.putSlot (s : State) (n : Nat) (x : Slot) : State := { s with cipher := { s.cipher with slots := s.cipher.slots.put n x } }

/-- Sets the remaining space of a slot; `REMAIN` saturates (R379). -/
def State.setRemain (s : State) (n r : Nat) : State :=
  (s.putSlot n { s.slot n with rem := r }).wr Reg.Key.REMAIN [n] (min r (2 ^ 40 - 1))

/-- The warning of R379, once per loaded key. -/
def State.checkNear (s : State) (n : Nat) : State :=
  let sp := keySpace (s.rd Reg.Key.MODE [n])
  if s.flag Reg.Key.NEAR [n] || sp == 0 || decide (sp < (s.slot n).rem * 2 ^ s.rd Reg.Key.NEAR_SHIFT []) then s
  else (s.wr Reg.Key.NEAR [n] 1).raise 0x23 (slotObj n) [s.rd Reg.Key.TENANT [n]]

/-- Whether an erase has reached slot n and is not done (R374). -/
def State.erasing (s : State) (n : Nat) : Bool := (s.slot n).ops.any (fun o => match o with | .erase => true | .write _ => false)

/-! ### The queue's shares (R384) -/

/-- The class of a user: 0 PON, 1 MACsec, 2 integrity, 3 contexts. -/
def shareOf : CUser → Nat
  | .down _ _ | .bcast _ | .up _ _ _ => 0
  | .macTx _ | .macRx _ _ _ => 1
  | .mic _ _ => 2
  | .context _ => 3

/-- The reserve of a class. -/
def shareReserve (k : Nat) : Nat := [2048, 1024, 256, 0].getD k 0

/-- Entries of a class in the queue. -/
def State.queued (s : State) (k : Nat) : Nat := s.cipher.bound.countP (fun r => shareOf r.user == k) + s.cipher.held.countP (fun r => shareOf r.user == k)

/-- Whether the queue takes another request of a user: its reserve or a shared entry is free, and contexts hold fewer than 256. -/
def State.queueRoom (s : State) (u : CUser) : Bool :=
  let k := shareOf u
  let extra := ((List.range 4).map (fun j => s.queued j - shareReserve j)).sum
  (k != 3 || decide (s.queued 3 < 256)) && (decide (s.queued k < shareReserve k) || decide (extra < 768))

/-- Shows the free entries. -/
def State.showFree (s : State) : State := s.wr Reg.Key.Q_FREE [] (4096 - (s.cipher.bound.length + s.cipher.held.length))

/-! ### Which slot serves a request (R375, R376, R380, R381) -/

/-- The slot a user's binding names; 0 is none. -/
def State.bindingOf (s : State) : CUser → Nat
  | .down z t => s.rd Reg.Key.DN_SLOT [z, t]
  | .bcast z => s.rd Reg.Key.BC_SLOT [z]
  | .up z t _ => s.rd Reg.Key.UP_SLOT [z, t]
  | .mic z t => s.rd Reg.Key.MIC_SLOT [z, t]
  | .macTx u => s.rd Reg.Key.TX_SLOT [u]
  | .macRx u _ _ => s.rd Reg.Key.RX_SLOT [u]
  | .context _ => 0

/-- Whether a mode serves a user (R365, R375, R376): modes 0x6 and 0x7 are the EPON modes', 0x2 and 0x3 the ITU modes'. -/
def State.modeServes (s : State) (u : CUser) (mode : Nat) : Bool :=
  match u with
  | .down z _ | .bcast z => if s.isEpon z then mode == 6 else mode == 2
  | .up z t _ => if s.isEpon z then mode == 7 else mode == 3 || (mode == 2 && s.rd Reg.Key.UP_SLOT [z, t] == s.rd Reg.Key.DN_SLOT [z, t])
  | .mic _ _ => mode == 5
  | .macTx _ => mode == 8 || mode == 10
  | .macRx _ _ _ => mode == 9 || mode == 11
  | .context _ => mode == 12 || mode == 13 || mode == 14

/-- The key index that a receive request carries. -/
def keyIndex? : CUser → Option Nat
  | .up _ _ i => some i
  | .macRx _ i _ => some i
  | _ => none

/-- Where a request goes: bound to a slot, held at one, or refused with a code. -/
inductive Route where
  | serve (n : Nat)
  | hold (n : Nat)
  | refuse (code : Nat)
deriving DecidableEq, Repr

/-- A transmit request follows the successors of switched slots, at most four links (R381). -/
def State.routeTx (s : State) (u : CUser) : Nat → Nat → Route
  | fuel, n =>
    if s.erasing n then .refuse 0x20
    else if s.flag Reg.Key.SWAP_PEND [n] then .hold n
    else
      match s.rd Reg.Key.STATE [n], fuel with
      | 0, _ => .refuse 0x20
      | 2, 0 => .refuse 0x21
      | 2, f + 1 => s.routeTx u f (s.rd Reg.Key.SUCC [n])
      | 3, _ => .refuse 0x21
      | _, _ => if s.modeServes u (s.rd Reg.Key.MODE [n]) then .serve n else .refuse 0x20

/-- A receive request uses the slot of the chain whose key index its frame carries; the chain is the named slot and at most four successor links (R381). An exhausted
slot refuses what would use its key (R382). -/
def State.routeRx (s : State) (u : CUser) (idx : Nat) : Nat → Nat → Route
  | fuel, n =>
    if s.erasing n then .refuse 0x20
    else if s.flag Reg.Key.SWAP_PEND [n] then .hold n
    else if s.rd Reg.Key.STATE [n] != 0 && s.rd Reg.Key.KEYIDX [n] == idx then
      if !s.modeServes u (s.rd Reg.Key.MODE [n]) then .refuse 0x20 else if s.rd Reg.Key.STATE [n] = 3 then .refuse 0x21 else .serve n
    else if !s.flag Reg.Key.SUCC_V [n] then .refuse 0x20
    else
      match fuel with
      | 0 => .refuse 0x21
      | f + 1 => s.routeRx u idx f (s.rd Reg.Key.SUCC [n])

/-- Where a request that names slot n goes. -/
def State.route (s : State) (u : CUser) (n : Nat) : Route :=
  if n = 0 ∨ 147455 < n then .refuse 0x20
  else match keyIndex? u with
    | some i => s.routeRx u i 4 n
    | none => s.routeTx u 4 n

/-- The slot's key switches to its successor, if one qualifies (R380). -/
def State.switchSlot (s : State) (n : Nat) : Option State :=
  let m := s.rd Reg.Key.SUCC [n]
  if s.flag Reg.Key.SUCC_V [n] && s.rd Reg.Key.STATE [m] == 1 && s.rd Reg.Key.MODE [m] == s.rd Reg.Key.MODE [n] && s.rd Reg.Key.K256 [m] == s.rd Reg.Key.K256 [n] &&
      s.rd Reg.Key.TENANT [m] == s.rd Reg.Key.TENANT [n] && !s.erasing m then
    some (((s.wr Reg.Key.STATE [n] 2).addTo Reg.Key.SWITCHES [] 1).raise 0xC0 (slotObj n) [m])
  else none

/-! ### Completion of what is refused (R375, R382, R385, R386) -/

/-- The key of a context's words in the tables by context. -/
def ctxNo (cx : Cx) : Nat := cx.core * 16 + cx.ctx

/-- A context request completes with a code (R385). -/
def State.cstat (s : State) (cx : Cx) (code bytes : Nat) (nonce : Option Nat) : State :=
  let k := ctxNo cx
  let s := (s.wr Reg.Hid.CREQ_BUSY [k] 0).wr Reg.Hid.CSTAT [k] (code + 256 + 512 * bytes + 2 ^ 23 * bit nonce.isSome)
  match nonce with
  | some v => (s.wr Reg.Hid.CREQ [k, 4] (v % 2 ^ 40)).wr Reg.Hid.CREQ [k, 5] (v / 2 ^ 40 % 2 ^ 24)
  | none => s

/-- Whether a request stands for a frame, and not for a PLOAM message, which is none (R452). -/
def CReq.ofFrame (r : CReq) : Bool :=
  match r.msg with
  | some (.frame p) => p.kind != 1
  | some _ => false
  | none => true

/-- A frame whose request fails is discarded and counted against its port (R452); a downstream one against its flow (R130) and an uplink's against its port (R375), in
counts that no object shows. A message is discarded alike (R386). -/
def State.cipherDiscard (s : State) (r : CReq) : State :=
  let s := match r.user, r.frame with
    | .down z _, some f | .bcast z, some f => s.addTo Reg.Hid.FLOW_DISC [z, f.flow] 1
    | _, _ => s
  let s := match r.user with
    | .down z _ | .bcast z | .up z _ _ | .mic z _ => if r.ofFrame then s.countPort z 10 else s
    | .macTx u | .macRx u _ _ => s.addTo Reg.Hid.UL_DISC [u] 1
    | .context _ => s
  match r.frame with
  | some f => s.leave f
  | none => s

/-- A request that completes `KEY_ABSENT` or `KEY_EXHAUSTED` (R374, R375, R382). -/
def State.refuseRequest (s : State) (r : CReq) (code : Nat) : State :=
  let s := s.addTo (if code = 0x20 then Reg.Key.KEY_ABSENT_CNT else Reg.Key.KEY_EXH_CNT) [] 1
  match r.user with
  | .context cx => s.cstat cx code 0 none
  | _ => s.cipherDiscard r

/-! ### Binding a request (R371, R379, R380, R382, R383) -/

/-- Counts one use of slot n's key: per superframe in modes 0x2 and 0x3, else per use; packet numbers of a receive mode count when accepted (R379). -/
def State.consume (s : State) (n : Nat) : State :=
  let mode := s.rd Reg.Key.MODE [n]
  let sf := s.ext / 777600 + 1
  if mode = 9 ∨ mode = 11 ∨ mode = 4 then s
  else if (mode = 2 ∨ mode = 3) ∧ (s.slot n).lastSf = sf then s
  else
    let s := s.putSlot n { s.slot n with lastSf := sf }
    (s.setRemain n ((s.slot n).rem - 1)).checkNear n

/-- A request is bound to slot n's active bank. -/
def State.bindTo (s : State) (r : CReq) (n : Nat) : State :=
  let count := keySpace (s.rd Reg.Key.MODE [n]) - (s.slot n).rem
  let r := { r with
    slot := n
    mode := s.rd Reg.Key.MODE [n]
    key := (s.slot n).key
    count := count }
  let s := (s.consume n).addTo Reg.Key.INFLIGHT [n] 1
  { s with cipher := { s.cipher with bound := s.cipher.bound ++ [r] } }

/-- Whether the next use of slot n would need a counter value beyond its space (R380). -/
def State.spent (s : State) (n : Nat) : Bool :=
  let mode := s.rd Reg.Key.MODE [n]
  keySpace mode != 0 && mode != 9 && mode != 11 && (s.slot n).rem == 0 &&
    !((mode == 2 || mode == 3) && (s.slot n).lastSf == s.ext / 777600 + 1)

/-- Whether a request of a context would encrypt under a key that one unit only may use (R383, R391). -/
def oneUnitUse (r : CReq) (mode : Nat) : Bool :=
  (mode == 12 || mode == 14) && (match r.words with | some q => !q.dec | none => false)

/-- A context's first encryption under a key claims it for this unit, and the twin learns so (R391; DESIGN CHOICE, log 150). -/
def State.claimSlot (s : State) (n : Nat) : State :=
  if s.pairing = 0 ∨ (s.slot n).claimed then s
  else (s.putSlot n { s.slot n with claimed := true }).emit (.twin 4 [0x4B, n, 1])

/-- A request waits at slot n for its swap (R371). -/
def State.holdAt (s : State) (r : CReq) (n : Nat) : State :=
  { (s.addTo Reg.Key.HELD [n] 1).addTo Reg.Key.HELD_REQ [] 1 with cipher := { s.cipher with held := s.cipher.held ++ [{ r with slot := n }] } }

/-- A request meets the slot that serves it: a key that is spent gives way to its successor (R380) or is exhausted (R382). A switched slot gives way no more, and a
receive slot never does. -/
def State.serve (s : State) (r : CReq) (n : Nat) : Nat → State
  | 0 => s.refuseRequest r 0x21
  | fuel + 1 =>
    let mode := s.rd Reg.Key.MODE [n]
    if oneUnitUse r mode && s.pairing != 0 && s.flag Reg.Hid.TWIN_BOUND [n] then s.refuseRequest r 0x20
    else if !s.spent n then (if oneUnitUse r mode then s.claimSlot n else s).bindTo r n
    else if s.rd Reg.Key.STATE [n] = 2 then s.refuseRequest r 0x21
    else
      match (if mode = 3 ∨ mode = 7 then none else s.switchSlot n) with
      | none => (s.wr Reg.Key.STATE [n] 3).refuseRequest r 0x21
      | some s =>
        match s.route r.user r.named with
        | .serve m => s.serve r m fuel
        | .hold m => s.holdAt r m
        | .refuse c => s.refuseRequest r c

/-- A request that names slot n enters the queue (R371). -/
def State.enterQueue (s : State) (r : CReq) (n : Nat) : State :=
  let r := { r with named := n }
  State.showFree (match s.route r.user n with
  | .serve m => s.serve r m 6
  | .hold m => s.holdAt r m
  | .refuse c => s.refuseRequest r c)

/-- A request before it is bound. -/
def newReq (u : CUser) (slot : Nat) (frame : Option QFrame) (msg : Option CMsg) (words : Option CtxReq) : CReq :=
  { user := u, named := slot, slot := slot, mode := 0, key := 0, count := 0, frame := frame, msg := msg, words := words }

/-- A hardware request, with the frame it would encrypt or the frame or message it decrypts or checks: without a free entry that is discarded (R384). -/
def State.hwRequest (s : State) (u : CUser) (frame : Option QFrame) (msg : Option CMsg) : State :=
  let r := newReq u 0 frame msg none
  if s.queueRoom u then s.enterQueue r (s.bindingOf u)
  else
    let s := s.addTo Reg.Key.CIPHER_DROP [] 1
    match frame with
    | some f => s.leave f
    | none => s

/-- Context requests that wait for an entry enter the queue, oldest first, as entries come free (R384). -/
def State.admitNext (s : State) : Nat → State
  | 0 => s
  | k + 1 =>
    match s.cipher.waiting with
    | [] => s
    | r :: rest =>
      if s.queueRoom r.user then (State.enterQueue { s with cipher := { s.cipher with waiting := rest } } r r.named).admitNext k else s

/-- All that wait and find an entry. -/
def State.admitWaiting (s : State) : State := s.admitNext s.cipher.waiting.length

/-- The user's indexes exist. -/
def userInRange : CUser → Bool
  | .down z t | .up z t _ | .mic z t => decide (z < 64) && decide (t < 1020)
  | .bcast z => decide (z < 64)
  | .macTx u | .macRx u _ _ => decide (u < 32)
  | .context _ => false

/-- Whether a hardware user makes requests: an uplink only while `MACSEC_EN` is 1 (R376). -/
def State.requests (s : State) (u : CUser) : Bool :=
  userInRange u && (match u with | .macTx k | .macRx k _ _ => s.flag Reg.Key.MACSEC_EN [k] | _ => true)

/-- `CIPHER_REQUEST` (R371, R384): a hardware user's request enters the queue. Contexts make theirs through `CGO`. -/
def execCipherRequest (u : CUser) (s : State) : Host.Outcome State Fault Refusal :=
  if s.requests u then .next (s.hwRequest u none none) else .next s

/-! ### Swap and erase (R371–R374, R391) -/

/-- How far both units have to come with an operation before its ticket completes (R371, R374, R391). -/
def KeyTix.target (t : KeyTix) : Nat := if t.goal = .placed then 1 else 2

/-- Whether a ticket waits no more: this unit is done, and where unit 0 serialises for a pair the twin is too (R391). -/
def State.keyTixDone (s : State) (t : KeyTix) : Bool :=
  decide (t.target ≤ t.here) && (decide (t.target ≤ t.twin) || s.pairing == 0 || s.env.unit == 1)

/-- Tickets of slot n that wait no more complete. -/
def State.settleKeyTix (s : State) (n : Nat) : State :=
  let l := (s.slot n).tix
  (l.filter s.keyTixDone).foldl (fun s t => s.finishTicket t.entry t.gen (cword 0 0)) (s.putSlot n { s.slot n with tix := l.filter (fun t => !s.keyTixDone t) })

/-- The oldest ticket that satisfies a test moves on. -/
def moveFirst (ok : KeyTix → Bool) (f : KeyTix → KeyTix) : List KeyTix → List KeyTix
  | [] => []
  | t :: ts => if ok t then f t :: ts else t :: moveFirst ok f ts

/-- Operations on a slot take effect on both units in one order, so a unit that has placed a key has come to the oldest write it had not begun, one that swaps has done
every write it had placed, and one that erases has done its oldest erase (R371, R373, R374, R391). -/
def keyAdvance (what : KeyGoal) (at' : KeyTix → Nat) (set : Nat → KeyTix → KeyTix) (l : List KeyTix) : List KeyTix :=
  match what with
  | .placed => moveFirst (fun t => decide (t.goal ≠ .erased) && at' t == 0) (set 1) l
  | .swapped => l.map (fun t => if at' t = 1 then set 2 t else t)
  | .erased => moveFirst (fun t => decide (t.goal = .erased) && at' t == 0) (set 2) l

/-- The number of a key slot's progress in the message to the twin. -/
def KeyGoal.code : KeyGoal → Nat
  | .swapped => 0
  | .erased => 1
  | .placed => 2

/-- This unit has come further with the operations of slot n: its tickets move on, and in a graft mode the twin learns of it (R391). -/
def State.keyProgress (s : State) (n : Nat) (what : KeyGoal) : State :=
  let s := s.putSlot n { s.slot n with tix := keyAdvance what KeyTix.here (fun k t => { t with here := k }) (s.slot n).tix }
  (if s.pairing = 0 then s else s.emit (.twin 4 [0x4C, n, what.code])).settleKeyTix n

/-- The twin has come further with the operations of slot n (R391). -/
def State.twinKeyDone (s : State) (n what : Nat) : State :=
  let g : KeyGoal := if what = 0 then .swapped else if what = 1 then .erased else .placed
  (s.putSlot n { s.slot n with tix := keyAdvance g KeyTix.twin (fun k t => { t with twin := k }) (s.slot n).tix }).settleKeyTix n

/-- Whether this unit transmits under slot n: a binding of a tree that it does not shadow, or of an uplink, names it, or its contexts encrypt under it (R391). -/
def State.bindsHere (s : State) (n : Nat) : Bool :=
  (List.range 64).any (fun z => !s.understudy z && (s.rd Reg.Key.BC_SLOT [z] == n || (s.listed Reg.Key.DN_SLOT [z]).any (fun t => s.rd Reg.Key.DN_SLOT [z, t] == n))) ||
    (List.range 32).any (fun u => s.rd Reg.Key.TX_SLOT [u] == n) || (s.slot n).claimed

/-- A new key, or none, ends the claim of this unit's contexts (R391; log 150). -/
def State.unclaim (s : State) (n : Nat) : State :=
  if (s.slot n).claimed then
    let s := s.putSlot n { s.slot n with claimed := false }
    if s.bindsHere n then s else s.emit (.twin 4 [0x4B, n, 0])
  else s

/-- The banks of slot n swap (R371): the shadow contents become active, the space is full, held requests are released in order under the new key. -/
def State.swapSlot (s : State) (n : Nat) : State :=
  match (s.slot n).shadow with
  | none => s
  | some b =>
    let s := ((((s.wr Reg.Key.MODE [n] b.mode).wr Reg.Key.K256 [n] (bit b.k256)).wr Reg.Key.KEYIDX [n] b.keyIdx).wr Reg.Key.SUCC [n] b.succ).wr Reg.Key.SUCC_V [n] (bit b.succV)
    let s := ((s.wr Reg.Key.STATE [n] 1).wr Reg.Key.SWAP_PEND [n] 0).wr Reg.Key.NEAR [n] 0
    let s := (s.putSlot n { s.slot n with key := b.key, shadow := none, lastSf := 0 }).setRemain n (keySpace b.mode)
    let s := (s.unclaim n).keyProgress n .swapped
    let mine := s.cipher.held.filter (fun r => r.slot == n)
    let s : State := { s.wr Reg.Key.HELD [n] 0 with cipher := { s.cipher with held := s.cipher.held.filter (fun r => r.slot != n) } }
    State.admitWaiting (mine.foldl (fun s r =>
      if s.modeServes r.user b.mode && (match keyIndex? r.user with | some i => i == b.keyIdx | none => true) then s.serve r n 6
      else s.enterQueue r r.named) s)

/-- A write that has passed its checks reaches the shadow bank (R367, R371, R373, R87); at `INFLIGHT` 0 the banks swap at once (R372). -/
def State.placeKey (s : State) (n : Nat) (b : Bank) : State :=
  let s := ((s.putSlot n { s.slot n with shadow := some b }).wr Reg.Key.SWAP_PEND [n] 1).keyProgress n .placed
  if s.rd Reg.Key.INFLIGHT [n] = 0 then s.swapSlot n else s

/-- Operations on a slot take effect in the order they reach it: writes behind a finished erase are placed, up to the next erase (R374). -/
def State.nextOps (s : State) (n : Nat) : List KeyOp → State
  | .write b :: rest => (s.placeKey n b).nextOps n rest
  | ops => s.putSlot n { s.slot n with ops := ops }

/-- A checked operation reaches slot n with its ticket: behind a draining erase it waits. -/
def State.keyOp (s : State) (n : Nat) (o : KeyOp) (e g : Nat) (goal : KeyGoal) : State :=
  let s := s.putSlot n { s.slot n with tix := (s.slot n).tix ++ [KeyTix.mk e g goal 0 0] }
  if (s.slot n).ops.isEmpty then s.nextOps n [o] else s.putSlot n { s.slot n with ops := (s.slot n).ops ++ [o] }

/-- `KEY_SWAP` (R371): `INFLIGHT` has reached 0 with a swap pending. -/
def execKeySwap (n : Nat) (s : State) : Host.Outcome State Fault Refusal :=
  if decide (n < 147456) && s.flag Reg.Key.SWAP_PEND [n] && s.rd Reg.Key.INFLIGHT [n] == 0 then .next (State.showFree (s.swapSlot n)) else .next s

/-- `KEY_ERASE_DONE` (R374): `INFLIGHT` has reached 0 and no swap is pending; both banks are zeroed and the erase completes. -/
def execKeyEraseDone (n : Nat) (s : State) : Host.Outcome State Fault Refusal :=
  if 147456 ≤ n || s.flag Reg.Key.SWAP_PEND [n] || s.rd Reg.Key.INFLIGHT [n] != 0 then .next s
  else
    match (s.slot n).ops with
    | .erase :: rest =>
      let s := s.clearFields [Reg.Key.MODE, Reg.Key.K256, Reg.Key.KEYIDX, Reg.Key.SUCC, Reg.Key.SUCC_V, Reg.Key.STATE, Reg.Key.REMAIN, Reg.Key.NEAR] [n]
      let s := (s.putSlot n { s.slot n with key := 0, shadow := none, rem := 0, lastSf := 0 }).unclaim n
      .next (State.showFree ((s.keyProgress n .erased).nextOps n rest))
    | _ => .next s

/-! ### KEY.WRITE and KEY.ERASE (R367, R368, R374) -/

/-- Whether a mode fits a slot (R367 item 2). -/
def Bank.fits (b : Bank) (n : Nat) : Bool :=
  b.mode != 0 && b.mode != 15 && (b.mode == 1) == decide (n ≤ 63) && (!b.k256 || mode256 b.mode) &&
    (!b.succV || (decide (64 ≤ b.succ) && decide (b.succ ≤ 147455) && b.succ != n))

/-- The wrapping key of slot n, where one is loaded (R368). -/
def State.wrappingKey (s : State) (n : Nat) : Option Nat :=
  if n = 0 then (if s.flag Reg.Hid.WRAP_BLOWN [0] then none else some Config.fusedKey)
  else
    let k := if n ≤ 63 then 0 else s.rd Reg.Key.TENANT [n]
    if s.rd Reg.Key.STATE [k] = 0 then none else some (s.slot k).key

/-- `KEY.WRITE` behind its authority check (R367 items 2 to 4): a refusal's completion word, or the write reaches the slot. -/
def State.keyWrite (s : State) (e g n : Nat) (b : Bank) (wrapped : List Nat) (swapDone : Bool) : State :=
  if s.pairing ≠ 0 ∧ !s.pairOk then s.finishTicket e g (cword 0x7E 4)
  else if !b.fits n then s.finishTicket e g (cword 0x7F 6)
  else
    match s.wrappingKey n with
    | none => s.finishTicket e g (cword 0x7F 6)
    | some k =>
      match Config.unwrap k wrapped with
      | none => s.finishTicket e g (cword 0x22 0)
      | some key => s.keyOp n (.write { b with key := key }) e g (if swapDone then .swapped else .placed)

/-- `KEY.ERASE` (R374): it reaches the slot. -/
def State.keyErase (s : State) (e g n : Nat) : State :=
  if s.pairing ≠ 0 ∧ !s.pairOk then s.finishTicket e g (cword 0x7E 4) else s.keyOp n .erase e g .erased

/-- Every bank of every slot is zeroed and every request goes (R369). -/
def State.zeroKeys (s : State) : State :=
  let s := s.clearRange (slotObj 0) (slotObj 147456)
  { s with cipher := { slots := [], bound := [], held := [], waiting := [] } }

/-! ### The end of a request (R371, R385, R386) -/

/-- A tag fails to verify (R386): counted per slot and in all, and reported at most once per millisecond per slot. -/
def State.authFail (s : State) (r : CReq) : State :=
  let n := r.slot
  let t := s.rd Reg.Key.TENANT [n]
  let s := (s.addTo Reg.Key.AUTH_FAIL_S [n] 1).addTo Reg.Key.AUTH_FAILS [] 1
  s.raiseRated rateMs 0xC2 n t (slotObj n) [shareOf r.user, t]

/-- The bytes of consecutive segment words, five to a word; none where an uncorrectable error lies among them, which is counted and reported (R438). -/
def State.segBytes (s : State) (w : Nat) : Nat → Option (List Nat) × State
  | 0 => (some [], s)
  | n + 1 =>
    match s.segRead w with
    | (none, s) => (none, s)
    | (some v, s) =>
      match s.segBytes (w + 1) n with
      | (some l, s) => (some (((List.range 5).map (fun i => v.toNat / 2 ^ (32 - 8 * i) % 256)) ++ l), s)
      | (none, s) => (none, s)

/-- The bytes of a tag that stand behind the data of a request: in the output of one that makes a tag, in the source of one that verifies it (R385). -/
def tagBytes (mode : Nat) : Nat := if mode = 12 then 0 else 16

/-- A context request is carried out (R383, R385, R386): the output is `LEN` bytes, and the tag behind them where one is made. -/
def State.contextDone (s : State) (cx : Cx) (r : CReq) (q : CtxReq) : State :=
  let inp := q.len + (if q.dec then tagBytes r.mode else 0)
  let out := q.len + (if q.dec then 0 else tagBytes r.mode)
  match s.segBytes q.src ((inp + 4) / 5) with
  | (none, s) => s.cstat cx 0x31 0 none
  | (some bs, s) =>
    let seq := if q.dec then q.nonce else r.count
    match Config.aes r.mode q.dec r.key (q.fixed * 2 ^ 64 + seq) q.aad (bs.take inp) with
    | none => (s.authFail r).cstat cx 0x22 0 none
    | some f =>
      (s.segWriteRange q.dst (packWords ((List.range out).map (fun i => f i % 256)))).cstat cx 0 q.len (if !q.dec && r.mode != 13 then some seq else none)

/-! ### Terminal re-keying (R378) -/

/-- The successor slots a re-key of terminal t loads: those of `DN_SLOT` and `UP_SLOT`; none where one is not named, not empty or another tenant's. -/
def State.rekeySlots (s : State) (z t : Nat) : Option (List Nat) :=
  let ok := fun n => n != 0 && s.flag Reg.Key.SUCC_V [n] && s.rd Reg.Key.STATE [s.rd Reg.Key.SUCC [n]] == 0 &&
    s.rd Reg.Key.TENANT [s.rd Reg.Key.SUCC [n]] == s.rd Reg.Key.TENANT [n]
  let d := s.rd Reg.Key.DN_SLOT [z, t]
  let u := s.rd Reg.Key.UP_SLOT [z, t]
  if ok d && ok u then some (if d = u then [d] else [d, u]) else none

/-- A re-key fails: the present key stays. -/
def State.rekeyFailed (s : State) (z t : Nat) : State :=
  (((s.addTo Reg.Key.REKEY_FAILS [] 1).wr Reg.Key.REKEY_BUSY [z, t] 0).wr Reg.Hid.REKEY_TRY [z, t] 0).raise 0xC1 (Reg.Key.MIC_SLOT.addr [z, t]) []

/-- Key_Control goes out to terminal t. -/
def State.keyControl (s : State) (z t : Nat) : State :=
  let n := s.rd Reg.Key.DN_SLOT [z, t]
  ((s.wr Reg.Hid.REKEY_TRY [z, t] (s.rd Reg.Hid.REKEY_TRY [z, t] + 1)).wr Reg.Hid.REKEY_AT [z, t] s.ext).ploam z .keyControl t
    [s.rd Reg.Key.KEYIDX [s.rd Reg.Key.SUCC [n]]]

/-- `REKEY` written 1, past its refusals (R378). -/
def State.rekey (s : State) (z t : Nat) : State :=
  match s.rekeySlots z t with
  | none => s.rekeyFailed z t
  | some _ => (s.wr Reg.Key.REKEY_BUSY [z, t] 1).keyControl z t

/-- `REKEY_TIMEOUT` (R378): 100 ms without Key_Report; after three sends the re-key fails. -/
def execRekeyTimeout (z t : Nat) (s : State) : Host.Outcome State Fault Refusal :=
  if !(decide (z < 64) && decide (t < 1020) && s.flag Reg.Key.REKEY_BUSY [z, t]) then .next s
  else
    let s := s.advanceTo (s.rd Reg.Hid.REKEY_AT [z, t] + msTicks 100)
    if 3 ≤ s.rd Reg.Hid.REKEY_TRY [z, t] then .next (s.rekeyFailed z t) else .next (s.keyControl z t)

/-! ### Frames that arrive (R144, R271, R309, R376, R422, R452, R453) -/

/-- Whether a packet is a frame: PLOAM messages, the ITU modes' consumed ones among them, are none (R144, R452). -/
def State.isFrame (s : State) (p : Packet) : Bool := p.kind != 1 && (p.kind != 3 || s.isEpon p.ingress)

/-- Counts a frame at its port (R452). -/
def State.countArrival (s : State) (p : Packet) : State :=
  let n := frameLen p.bytes
  if p.ingress < 64 then (if s.head p.ingress && s.isFrame p then (s.countPort p.ingress 2).countPort p.ingress 3 n else s)
  else if p.ingress < 96 then (s.countUplink (p.ingress - 64) 0).countUplink (p.ingress - 64) 1 n
  else (s.countUplink 32 0).countUplink 32 1 n

/-- Counts an upstream frame at the flow it is given, whatever becomes of it (R309, R453), and at its ingress tenant (R270, R452). -/
def State.countFlow (s : State) (p : Packet) : State :=
  if s.head p.ingress && s.isFrame p then
    match s.flowOf p.ingress p.flowId p.term with
    | none => s
    | some f =>
      let n := frameLen p.bytes
      let t := s.rd Reg.Fwd.TENANT [p.ingress, f]
      ((s.count (131072 + 2 * (16384 * p.ingress + f)) n).countTenant t 0).countTenant t 1 n
  else s

/-- A good frame on its way to the fixed-offset extractor and the sieve (R271, R309, R422): an understudy sends nothing onward (R255). -/
def State.arriveGood (s : State) (p : Packet) : State :=
  let s := (s.strike p.full.ents).strikeRows p.full.rows
  match s.channelFor p with
  | some c => if p.ingress < 64 ∧ s.head p.ingress ∧ s.understudy p.ingress then s else (s.chanTaken c p.full.taken).toChannel c p
  | none =>
    if p.ingress < 64 ∧ s.head p.ingress then
      match s.flowOf p.ingress p.flowId p.term with
      | none => s.addTo Reg.Fwd.UNKNOWN_FLOW [] 1
      | some f => if s.understudy p.ingress then s else s.enterSieve p (s.rd Reg.Fwd.TENANT [p.ingress, f]) p.term f
    else if 64 ≤ p.ingress ∧ p.ingress < 96 ∧ etherType p.bytes = 0x8808 then s.addTo Reg.Lan.MAC_CTRL [p.ingress - 64] 1
    else s.enterSieve p 0 0xFFFF 0xFFFF

/-! ### Messages and frames behind an integrity check (R144, R376, R386) -/

/-- A key that a terminal reported is loaded into the successors of `slots` with the key index of the report, and the transmit side, the first of them, switches (R378
steps 3 and 4). -/
def State.loadReported (s : State) (slots : List Nat) (idx key : Nat) : State :=
  let s := slots.foldl (fun s n => s.keyOp (s.rd Reg.Key.SUCC [n])
    (.write { mode := s.rd Reg.Key.MODE [n], k256 := false, keyIdx := idx % 256, succ := 0, succV := false, key := key }) 4096 0 .placed) s
  (s.switchSlot (slots.headD 0)).getD s

/-- A re-key is over (R378). -/
def State.rekeyDone (s : State) (z t : Nat) : State := (s.wr Reg.Key.REKEY_BUSY [z, t] 0).wr Reg.Hid.REKEY_TRY [z, t] 0

/-- A re-key's load that unit 0 serialises reaches this unit's copy (R266, R391); on the unit that asked for it the re-key is over. -/
def State.keyLoaded (s : State) (unit z t idx key : Nat) (slots : List Nat) : State :=
  let s := s.loadReported (slots.map (· % 147456)) idx key
  if unit = s.env.unit ∧ z < 64 ∧ t < 1020 then s.rekeyDone z t else s

/-- Key_Report of terminal t (R378): the key of its fragments is decrypted under `TKEK_SLOT`, and loaded on both units of a pair (R391). While the pair is apart no key
can be written, and the re-key fails (DEDUCED, log 151). -/
def State.keyReported (s : State) (z t idx : Nat) (frags : List Nat) : State :=
  if !s.flag Reg.Key.REKEY_BUSY [z, t] then s
  else
    let k := s.rd Reg.Key.TKEK_SLOT [z, t]
    if k = 0 ∨ s.rd Reg.Key.STATE [k] ≠ 1 ∨ s.rd Reg.Key.MODE [k] ≠ 4 then s.addTo Reg.Key.KEY_ABSENT_CNT [] 1
    else
      match s.rekeySlots z t with
      | none => s.rekeyFailed z t
      | some l =>
        let key := Config.reportedKey (s.slot k).key frags
        if s.pairing = 0 then s.keyLoaded s.env.unit z t idx key l
        else if !s.pairOk then s.rekeyFailed z t
        else
          let s := s.sendTwin 4 ⟨127, 0⟩ 0 0 (0x12 :: s.env.unit :: z :: t :: idx :: key :: l) .nothing
          if s.env.unit = 0 then s.keyLoaded 0 z t idx key l else s

/-- What stands behind an integrity check is acted on. -/
def State.actOn (s : State) (z t : Nat) : CMsg → State
  | .ack k => s.acknowledged z t k
  | .registration id => s.registered z t id
  | .keyReport idx frags => s.keyReported z t idx frags
  | .frame p => s.arriveGood p
  | .sent m b => s.emit (.ctrl z m b)

/-- A PLOAM or OMCI message of terminal t, in either direction: under `MIC_SLOT` its integrity is a request, and it is acted on when that completes; with no slot bound
it is not checked (R376, R386; DEDUCED, log 152). -/
def State.checked (s : State) (z t : Nat) (m : CMsg) : State :=
  if s.rd Reg.Key.MIC_SLOT [z, t] = 0 then s.actOn z t m else s.hwRequest (.mic z t) none (some m)

/-- A frame that needs no decryption, or has had it: an upstream frame with a bad FCS is discarded, and PLOAM and OMCI messages are checked. -/
def State.opened (s : State) (p : Packet) : State :=
  if p.ingress < 64 ∧ !p.fcsOk then s
  else if p.ingress < 64 ∧ s.head p.ingress ∧ !s.isEpon p.ingress ∧ !s.understudy p.ingress ∧ p.term < 1020 ∧ (p.kind = 1 ∨ p.kind = 2) then s.checked p.ingress p.term (.frame p)
  else s.arriveGood p

/-- An upstream frame of a PON port (R309, R376, R453): an encrypted one is decrypted first. An ITU frame that no flow record names is dropped before; a message that the
port hardware consumes has a command of its own (R144). -/
def State.arrivePon (s : State) (p : Packet) : State :=
  let s := (s.countArrival p).countFlow p
  if p.kind = 3 then s
  else
    match p.crypt with
    | none => s.opened p
    | some x =>
      if !s.head p.ingress then s.opened p
      else if s.understudy p.ingress then s
      else if !s.isEpon p.ingress ∧ p.kind = 0 ∧ (s.flowOf p.ingress p.flowId p.term).isNone then s.addTo Reg.Fwd.UNKNOWN_FLOW [] 1
      else s.hwRequest (.up p.ingress p.term x.idx) none (some (.frame p))

/-- A frame of an uplink (R422, R452): over-long ones and those with a bad FCS are dropped; under `MACSEC_EN` a MACsec frame is decrypted first, and any other but a MAC
control frame is discarded (R376, R386; DESIGN CHOICE, log 153). -/
def State.arriveUplink (s : State) (p : Packet) : State :=
  let u := p.ingress - 64
  let s := s.countArrival p
  let s := if p.fcsOk then s else s.countUplink u 4
  if u < 32 ∧ 10240 < frameLen p.bytes then s.addTo Reg.Lan.OVERSIZE [u] 1
  else if !p.fcsOk then s
  else if u < 32 ∧ s.flag Reg.Key.MACSEC_EN [u] ∧ etherType p.bytes ≠ 0x8808 then
    match p.crypt with
    | some x => s.hwRequest (.macRx u x.idx x.pn) none (some (.frame p))
    | none => s.countUplink u 5
  else s.arriveGood p

/-- A packet arrives (R271); a port that is down or has no mode takes none (R122, R422). -/
def State.arrive (s : State) (p : Packet) : State :=
  if p.ingress < 64 then (if s.mode p.ingress = 0 then s else s.arrivePon p)
  else if 96 < p.ingress ∨ (p.ingress < 96 ∧ !(s.flag Reg.Lan.LINK_UP [p.ingress - 64] && s.flag Reg.Lan.UL_EN [p.ingress - 64])) then s
  else s.arriveUplink p

/-- `SIEVE_PACKET` (R271). -/
def execSievePacket (p : Packet) (s : State) : Host.Outcome State Fault Refusal := .next ((s.chanTaken 5 p.full.punt).arrive p)

/-- `ACKNOWLEDGE` (R168, R172): a terminal acknowledges a message originated here. -/
def execAcknowledge (z t : Nat) (k : AckKind) (s : State) : Host.Outcome State Fault Refusal :=
  if !s.ranges z || s.isEpon z || decide (1020 ≤ t) then .next s else .next (s.checked z t (.ack k))

/-- `REGISTRATION` (R157): a terminal's Registration. -/
def execRegistration (z t : Nat) (id : List Nat) (s : State) : Host.Outcome State Fault Refusal :=
  if s.ranges z && !s.isEpon z && decide (t < 1020) then .next (s.checked z t (.registration id)) else .next s

/-- `KEY_REPORT` (R378): the fragments of a terminal's Key_Report. -/
def execKeyReport (z t idx : Nat) (frags : List Nat) (s : State) : Host.Outcome State Fault Refusal :=
  if decide (z < 64) && decide (t < 1020) && s.flag Reg.Key.REKEY_BUSY [z, t] then .next (s.checked z t (.keyReport idx frags)) else .next s

/-! ### The end of a hardware request (R371, R384, R386) -/

/-- A frame that has been encrypted goes out (R130, R341), with the key index of its slot in the standard's key field (R380; log 139). A port that has gone dark or down
meanwhile carries none (R131, R422). -/
def State.sendSealed (s : State) (r : CReq) (f : QFrame) : State :=
  let idx := s.rd Reg.Key.KEYIDX [r.slot]
  let bs := Config.sealedFrame r.mode r.key r.count f.bytes
  match r.user with
  | .down z _ | .bcast z =>
    if s.flag Reg.Pon.LIT [z] then (((s.countPort z 0).countPort z 1 (frameLen f.bytes)).emit (.sealedDown z f.flow idx r.count bs)).leave f else s.leave f
  | .macTx k =>
    if s.flag Reg.Lan.LINK_UP [k] && s.flag Reg.Lan.UL_EN [k] then
      (((s.countUplink k 2).countUplink k 3 (frameLen f.bytes)).emit (.sealedUplink k idx (r.count + 1) bs)).leave f
    else (s.addTo Reg.Que.UQ_DROP [k] 1).leave f
  | _ => s.leave f

/-- A received frame under the key its request was bound to. -/
def CReq.open (r : CReq) (p : Packet) (pn : Nat) : Packet := { p with bytes := Config.openedFrame r.mode r.key pn p.bytes, crypt := none }

/-- Whether a request verifies a tag. -/
def CReq.verifies (r : CReq) : Bool :=
  match r.user, r.msg with
  | .mic _ _, some (.sent _ _) => false
  | .mic _ _, _ | .macRx _ _ _, _ | .up _ _ _, _ => true
  | _, _ => false

/-- A hardware request is carried out. `ok`: the tag it verifies is right; where it is not, nothing but the verdict is released (R386). -/
def State.hardwareDone (s : State) (r : CReq) (ok : Bool) : State :=
  let ok := ok || !r.verifies
  let s := if ok then s else s.authFail r
  match r.user with
  | .macRx u _ pn =>
    let next := keySpace r.mode - (s.slot r.slot).rem + 1
    if !ok || decide (pn + s.rd Reg.Key.REPLAY_WIN [u] < next) then s.countUplink u 5
    else
      let s := (s.setRemain r.slot (min (s.slot r.slot).rem (keySpace r.mode - pn))).checkNear r.slot
      match r.msg with
      | some (.frame p) => s.arriveGood (r.open p pn)
      | _ => s
  | .up z _ _ =>
    if !ok then s.countPort z 10
    else
      match r.msg with
      | some (.frame p) => s.opened (r.open p (match p.crypt with | some x => x.pn | none => 0))
      | _ => s
  | .mic z t =>
    if !ok then (if r.ofFrame then s.countPort z 10 else s)
    else
      match r.msg with
      | some m => s.actOn z t m
      | none => s
  | .down .. | .bcast _ | .macTx _ | .context _ => match r.frame with | some f => s.sendSealed r f | none => s

/-- Whether two users are one and the same, whatever their frames carry. -/
def sameUser : CUser → CUser → Bool
  | .up z t _, .up z' t' _ => z == z' && t == t'
  | .macRx u _ _, .macRx v _ _ => u == v
  | u, v => decide (u = v)

/-- The first request of a user under a slot leaves the bound list: one user's requests under one slot complete in order (R384). -/
def takeReq (u : CUser) (n : Nat) : List CReq → Option (CReq × List CReq)
  | [] => none
  | r :: rest => if sameUser r.user u ∧ r.slot = n then some (r, rest) else (takeReq u n rest).map (fun x => (x.1, r :: x.2))

/-- `CIPHER_REQUEST_DONE` (R371): the oldest request of user `u` under slot `n` completes and leaves `INFLIGHT`. -/
def execCipherRequestDone (u : CUser) (n : Nat) (ok : Bool) (s : State) : Host.Outcome State Fault Refusal :=
  match takeReq u n s.cipher.bound with
  | none => .next s
  | some (r, rest) =>
    let s : State := { s.wr Reg.Key.INFLIGHT [n] (s.rd Reg.Key.INFLIGHT [n] - 1) with cipher := { s.cipher with bound := rest } }
    let s := match u, r.words with
      | .context cx, some q => s.contextDone cx r q
      | _, _ => s.hardwareDone r ok
    .next (State.showFree s.admitWaiting)

/-! ### Context requests (R385) -/

/-- The request words of a context as a request. -/
def State.ctxReq (s : State) (cx : Cx) : CtxReq :=
  let w := fun i => s.rd Reg.Hid.CREQ [ctxNo cx, i]
  { dec := (w 0).testBit 18, len := w 0 / 2 ^ 19 % 2 ^ 14, src := w 1 % 2 ^ 34, dst := w 2 % 2 ^ 34, fixed := w 3 % 2 ^ 32,
    nonce := w 4 + 2 ^ 40 * (w 5 % 2 ^ 24), aad := w 6 % 2 ^ 14 }

/-- Whether the words of a request lie in the layout's ranges (R385). -/
def State.ctxReqOk (s : State) (cx : Cx) : Bool :=
  let w := fun i => s.rd Reg.Hid.CREQ [ctxNo cx, i]
  let q := s.ctxReq cx
  decide (w 0 % 2 ^ 18 ≤ 147455) && decide (w 0 / 2 ^ 33 = 0) && decide (1 ≤ q.len) && decide (q.len ≤ 10240) && decide (q.aad ≤ q.len) &&
    decide (w 1 / 2 ^ 34 = 0x0C) && decide (w 2 / 2 ^ 34 = 0x0C)

/-- The segment words that a request reads and writes: first word and count of source and destination (R385). -/
def State.ctxRanges (s : State) (cx : Cx) : (Nat × Nat) × (Nat × Nat) :=
  let q := s.ctxReq cx
  let tag := tagBytes (s.rd Reg.Key.MODE [s.rd Reg.Hid.CREQ [ctxNo cx, 0] % 2 ^ 18])
  ((q.src, (q.len + (if q.dec then tag else 0) + 4) / 5), (q.dst, (q.len + (if q.dec then 0 else tag) + 4) / 5))

/-- A store to `CGO` that the object checks allow, by a context of tenant `t` (R385): its request enters the queue, or waits for an entry. `bad`: the object among slot,
source and destination that R28 denies the context; that request completes `DENIED`, and the denial is counted and reported like any other. -/
def State.cgo (s : State) (cx : Cx) (t : Nat) (bad : Option Nat) : State :=
  let n := s.rd Reg.Hid.CREQ [ctxNo cx, 0] % 2 ^ 18
  let k := ctxNo cx
  let s := (s.wr Reg.Hid.CREQ_BUSY [k] 1).wr Reg.Hid.CSTAT [k] 0
  match bad with
  | some a => (s.deniedBy cx false t a).cstat cx 0x7F 0 none
  | none =>
    let r := newReq (.context cx) n none none (some (s.ctxReq cx))
    if s.cipher.waiting.isEmpty && s.queueRoom r.user then s.enterQueue r n
    else { s with cipher := { s.cipher with waiting := s.cipher.waiting ++ [r] } }

/-! ### Entropy, lanes, take-over (R388, R390, R391) -/

/-- `ENTROPY_SAMPLE` (R390): a sample passes both tests or fails one. -/
def execEntropySample (ok : Bool) (s : State) : Host.Outcome State Fault Refusal :=
  if ok then
    let n := min 1024 (s.rd Reg.Hid.ENT_RUN [0] + 1)
    let s := s.wr Reg.Hid.ENT_RUN [0] n
    .next (if n = 1024 then s.wr Reg.Key.ENT_OK [] 1 else s)
  else
    .next ((((s.wr Reg.Hid.ENT_RUN [0] 0).wr Reg.Key.ENT_OK [] 0).addTo Reg.Key.ENT_FAILS [] 1).raise 0xC4 (Reg.Key.ENT_OK.addr []) [])

/-- A lane fails its slice (R388): it is retired, and the spare that served in its place keeps it if it is free. -/
def State.cipherLaneFail (s : State) (l : Nat) : State :=
  let ok := s.rd Reg.Key.LANE_OK []
  let s := s.wr Reg.Key.LANE_OK [] (if ok.testBit l then ok - 2 ^ l else ok)
  let s := if s.rd Reg.Key.SPARE_FOR [] = 0x1F ∧ l < 16 then s.wr Reg.Key.SPARE_FOR [] l else s
  s.raise 0xC3 (Reg.Key.LANE_OK.addr []) [l]

/-- A slot and those that its successor links lead to while it is switched (R381). -/
def State.txChain (s : State) : Nat → Nat → List Nat
  | 0, n => [n]
  | fuel + 1, n => n :: (if s.rd Reg.Key.STATE [n] = 2 ∧ s.flag Reg.Key.SUCC_V [n] then s.txChain fuel (s.rd Reg.Key.SUCC [n]) else [])

/-- The slots that tree z transmits under: its bindings and the successors that have taken over. -/
def State.txSlots (s : State) (z : Nat) : List Nat :=
  let ts := (s.listed Reg.Key.DN_SLOT [z]).map (fun t => s.rd Reg.Key.DN_SLOT [z, t])
  (((s.rd Reg.Key.BC_SLOT [z] :: ts).filter (fun n => decide (64 ≤ n ∧ n < 147456))).flatMap (s.txChain 4)).eraseDups

/-- The `MODE` 0x6 slots among them (R391). -/
def State.countedSlots (s : State) (z : Nat) : List Nat := (s.txSlots z).filter (fun n => s.rd Reg.Key.MODE [n] == 6)

/-- The next packet number of a slot's key: the first is 1 (R391). -/
def State.nextPn (s : State) (n : Nat) : Nat := keySpace (s.rd Reg.Key.MODE [n]) - (s.slot n).rem + 1

/-- The new holder of a tree resumes its packet numbers 2^20 above the mirrored ones, and the tree's transmit slots serve on this unit from now on (R391). -/
def State.resumeCounts (s : State) (z : Nat) : State :=
  let s := (s.countedSlots z).foldl (fun s n => s.setRemain n (keySpace 6 - min (keySpace 6) ((s.slot n).twinPn + 2 ^ 20 - 1))) s
  (s.txSlots z).foldl (fun s n => (s.wr Reg.Hid.TWIN_BOUND [n] 0).emit (.twin 4 [0x4B, n, 1])) s

/-- The lighting unit mirrors the next packet numbers of its tree to the twin, every frame (R391). -/
def State.mirrorCounts (s : State) (z : Nat) : State :=
  (s.countedSlots z).foldl (fun s n => s.emit (.twin 4 [n, s.nextPn n])) s

end Sys2Proof.Machine
end

