-- ==== Sys2Proof/Machine/Time.lean ====
section
/-! DEFINITION. Network time (R403–R416): the two domains and their servo, the output time, timestamps, snapshots, time of day, PPS; and the wrap
of stage time (R394). -/

namespace Sys2Proof.Machine

/-! ### Domains (R403) -/

/-- 2^−8 ns in the unit of a domain's time. -/
def ptpFrac : Int := 3888 * 2 ^ 32

/-- One second in 2^−8 ns. -/
def second256 : Nat := 256 * 1000000000

/-- A domain's record. -/
def State.dom (s : State) (d : Nat) : Dom := if d = 0 then s.ptp.a else s.ptp.b

/-- Stores a domain's record. -/
def State.putDom (s : State) (d : Nat) (x : Dom) : State := { s with ptp := if d = 0 then { s.ptp with a := x } else { s.ptp with b := x } }

/-- A domain's rate adjustment. -/
def State.ptpRate (s : State) (d : Nat) : Int := signed 32 (s.rd Reg.Tim.RATE [d])

/-- A domain's time at extended stage time `e`, at its present rate. -/
def State.domAt (s : State) (d e : Nat) : Int := (s.dom d).val + ((e : Int) - ((s.dom d).since : Int)) * (625 * (2 ^ 40 + s.ptpRate d))

/-- Brings a domain's record up to now, so that its rate or its time may change. -/
def State.settleDom (s : State) (d : Nat) : State := s.putDom d { since := s.ext, val := s.domAt d s.ext }

/-- The carry at extended stage time `e`: slewed toward 0 at `SLEW_PPM` (R408). -/
def State.carryAtTime (s : State) (e : Nat) : Int :=
  let gone : Nat := (e - s.ptp.carryAt) * s.rd Reg.Tim.SLEW_PPM [] * 625 * 2 ^ 40 / 1000000
  if 0 ≤ s.ptp.carry then max 0 (s.ptp.carry - gone) else min 0 (s.ptp.carry + gone)

/-- Sets the carry as of now. -/
def State.setCarry (s : State) (c : Int) : State := { s with ptp := { s.ptp with carry := c, carryAt := s.ext } }

/-- The domain that drives the output. -/
def State.outDom (s : State) : Nat := s.rd Reg.Tim.OUT_DOM []

/-- The PTP output time at extended stage time `e` (R403, R408). -/
def State.outAt (s : State) (e : Nat) : Int := s.domAt s.outDom e + s.carryAtTime e

/-- A time as 48-bit seconds and 2^−8 ns. -/
def ptpParts (t : Int) : Nat × Nat :=
  let f := t.fdiv ptpFrac
  ((f.fdiv second256 % (2 ^ 48 : Nat)).toNat, (f.fmod second256).toNat)

/-- A signed time in 2^−8 ns as a 40-bit word. -/
def ptpWord (t : Int) : Nat := unsigned 40 (t.fdiv ptpFrac)

/-- A domain as an object. -/
def domObj (d : Nat) : Nat := Reg.Tim.OFS_IN.addr [d]

/-! ### Offsets and the servo (R404, R405) -/

/-- The servo takes an accepted offset, in 2^−8 ns (R405). Its terms are kept in units of 2^−48; `RATE` is rounded down to 2^−40. -/
def State.servo (s : State) (d : Nat) (o : Int) : State :=
  let s := s.settleDom d
  let f := signed 64 (s.rd Reg.Hid.SERVO_F [d]) - (s.rd Reg.Tim.KI [d] : Nat) * o
  let r := f - (s.rd Reg.Tim.KP [d] : Nat) * o
  let lim : Int := (s.rd Reg.Tim.SLEW_PPM [] * 1099512 * 256 : Nat)
  if lim < r ∨ r < -lim then
    let f := if f < 0 then -(min (-f) lim) else min f lim
    let r := if r < 0 then -lim else lim
    (((s.wr Reg.Hid.SERVO_F [d] (unsigned 64 f)).wr Reg.Tim.RATE [d] (unsigned 32 (r.fdiv 256))).wr Reg.Tim.SLEW_LIMITED [d] 1).addTo Reg.Tim.LIMITED_CNT [d] 1
  else
    ((s.wr Reg.Hid.SERVO_F [d] (unsigned 64 f)).wr Reg.Tim.RATE [d] (unsigned 32 (r.fdiv 256))).wr Reg.Tim.SLEW_LIMITED [d] 0

/-- An offset has been accepted: the domain has a master (R407). -/
def State.accepted (s : State) (d : Nat) : State :=
  ((s.addTo Reg.Tim.OFS_CNT [d] 1).wr Reg.Tim.MASTER [d] 1).wr Reg.Hid.MASTER_AT [d] s.ext

/-- The first valid domain drives the output; this changes no epoch (R406). -/
def State.firstOutput (s : State) (d : Nat) : State :=
  if s.flag Reg.Tim.OUT_VALID [] then s else ((s.wr Reg.Tim.OUT_DOM [] d).wr Reg.Tim.OUT_VALID [] 1).setCarry 0

/-- A committed offset of `sec` seconds and `ofs` units of 2^−8 ns (R404). -/
def State.commitOffset (s : State) (d : Nat) (sec ofs : Int) : State :=
  let o := sec * second256 + ofs
  let s := s.wr Reg.Tim.LAST_OFS [d] (unsigned 40 ofs)
  if !s.flag Reg.Tim.VALID [d] then
    let s := s.settleDom d
    let s := s.putDom d { s.dom d with val := (s.dom d).val - o * ptpFrac }
    (((s.wr Reg.Tim.VALID [d] 1).addTo Reg.Tim.STEPS [d] 1).accepted d).firstOutput d
  else if o.natAbs ≤ s.rd Reg.Tim.STEP_THR [d] * 256 then
    let s := if s.flag Reg.Tim.PEND [d] then
        ((s.wr Reg.Tim.PEND [d] 0).wr Reg.Hid.STEP_EP [d] 0).raise 0xC8 (domObj d) [0] else s
    (s.servo d o).accepted d
  else
    let s := ((s.wr Reg.Tim.PEND_OFS [d] (unsigned 40 ofs)).wr Reg.Tim.PEND_SEC [d] (unsigned 40 sec)).wr Reg.Tim.PEND [d] 1
    if s.flag Reg.Hid.STEP_EP [d] then s else (s.wr Reg.Hid.STEP_EP [d] 1).raise 0xC8 (domObj d) [1, unsigned 40 o]

/-- `OFS_IN` written (R404): commits with the whole seconds of `OFS_SEC`, which clears. -/
def State.ofsIn (s : State) (d v : Nat) : State :=
  let sec := signed 40 (s.rd Reg.Tim.OFS_SEC [d])
  (s.wr Reg.Tim.OFS_SEC [d] 0).commitOffset d sec (signed 40 v)

/-! ### Steps and switches (R406–R408) -/

/-- `STEP_APPLY` with a step pending (R406). -/
def State.stepApply (s : State) (d : Nat) : State :=
  let o := signed 40 (s.rd Reg.Tim.PEND_SEC [d]) * second256 + signed 40 (s.rd Reg.Tim.PEND_OFS [d])
  let s := s.settleDom d
  let s := s.putDom d { s.dom d with val := (s.dom d).val - o * ptpFrac }
  let s := (((s.wr Reg.Tim.PEND [d] 0).wr Reg.Hid.STEP_EP [d] 0).addTo Reg.Tim.STEPS [d] 1).raise 0xC9 (domObj d) []
  if s.flag Reg.Tim.OUT_VALID [] && s.outDom == d then (s.setCarry 0).addTo Reg.Tim.EPOCH [] 1 else s

/-- `STEP_DROP` with a step pending (R406). -/
def State.stepDrop (s : State) (d : Nat) : State := (s.wr Reg.Tim.PEND [d] 0).wr Reg.Hid.STEP_EP [d] 0

/-- A switch of the output to domain `d` (R408): `cause` 0 commanded, 1 automatic. The output does not step. -/
def State.switchDom (s : State) (d cause : Nat) : State :=
  let c := s.outAt s.ext - s.domAt d s.ext
  let s := (s.wr Reg.Tim.OUT_DOM [] d).setCarry c
  s.raise 0xCB (Reg.Tim.OUT_DOM.addr []) [cause, ptpWord c]

/-- `HOLD_ENTRY_EXPIRY` (R407, R408): a domain has accepted no offset for `HOLD_ENTRY` ms. -/
def execHoldEntryExpiry (d : Nat) (s : State) : Host.Outcome State Fault Refusal :=
  if !(decide (d < 2) && s.flag Reg.Tim.MASTER [d]) then .next s
  else
    let s := (s.advanceTo (s.rd Reg.Hid.MASTER_AT [d] + msTicks (s.rd Reg.Tim.HOLD_ENTRY []))).wr Reg.Tim.MASTER [d] 0
    if s.outDom ≠ d ∨ !s.flag Reg.Tim.OUT_VALID [] ∨ !s.flag Reg.Tim.AUTO_SW [] then .next s
    else if s.flag Reg.Tim.MASTER [1 - d] then .next (s.switchDom (1 - d) 1)
    else .next (s.raise 0xCA (Reg.Tim.OUT_DOM.addr []) [])

/-! ### Event messages (R401) -/

/-- How a PTP message is carried: in Ethernet, or in UDP over IPv4 or IPv6 with its header at an offset. -/
inductive PtpCarry where
  | eth
  | udp4 (udp : Nat)
  | udp6 (udp : Nat)
deriving DecidableEq, Repr

/-- An event message in a frame: where it begins and how it is carried, `messageType`, `sequenceId`, `domainNumber`, `twoStepFlag`, its length. -/
structure PtpMsg where
  start : Nat
  carry : PtpCarry
  mtype : Nat
  seqId : Nat
  domain : Nat
  twoStep : Bool
  len : Nat
deriving DecidableEq, Repr

/-- `n` bytes of a frame from byte `o` on, as a number in network order. -/
def netNum (b : List Nat) (o n : Nat) : Nat := ((b.drop o).take n).foldl (fun a x => 256 * a + x % 256) 0

/-- Where a frame's type field lies after up to two VLAN tags (R401). -/
def typeAt (b : List Nat) : Nat := if tagged b then (if tagged (popTag b) then 20 else 16) else 12

/-- Where the PTP message of a frame begins, and how it is carried: type 0x88F7, or UDP to port 319 over IPv4 or IPv6 in an unfragmented packet (R401). -/
def ptpPlace (b : List Nat) : Option (Nat × PtpCarry) :=
  let o := typeAt b
  let p := o + 2
  let ihl := netNum b p 1 % 16 * 4
  if netNum b o 2 = 0x88F7 then some (p, .eth)
  else if netNum b o 2 = 0x0800 ∧ netNum b p 1 / 16 = 4 ∧ 20 ≤ ihl ∧ netNum b (p + 9) 1 = 17 ∧ netNum b (p + 6) 2 % 2 ^ 14 = 0 ∧ netNum b (p + ihl + 2) 2 = 319 then
    some (p + ihl + 8, .udp4 (p + ihl))
  else if netNum b o 2 = 0x86DD ∧ netNum b p 1 / 16 = 6 ∧ netNum b (p + 6) 1 = 17 ∧ netNum b (p + 42) 2 = 319 then some (p + 48, .udp6 (p + 40))
  else none

/-- The PTP event message that a frame carries (R401): Sync, Delay_Req, Pdelay_Req and Pdelay_Resp are types 0 to 3. The header's layout is that of IEEE 1588-2019 (PRESUMED,
log 147). -/
def ptpMsg (b : List Nat) : Option PtpMsg :=
  match ptpPlace b with
  | some (o, c) =>
    let m : PtpMsg :=
    { start := o, carry := c, mtype := netNum b o 1 % 16, seqId := netNum b (o + 30) 2, domain := netNum b (o + 4) 1, twoStep := (netNum b (o + 6) 1).testBit 1,
      len := netNum b (o + 2) 2 }
    if o + 34 ≤ b.length ∧ m.mtype ≤ 3 then some m else none
  | none => none

/-- Writes `n` bytes of a number into a frame at byte `o`, in network order. -/
def putNum (b : List Nat) (o n v : Nat) : List Nat := b.take o ++ beBytes n v ++ b.drop (o + n)

/-- Whether a message carries the two-byte trailer that a one-step write over IPv6 needs (R402): its datagram is longer than the message by at least that. -/
def PtpMsg.trailer (m : PtpMsg) (b : List Nat) : Bool :=
  match m.carry with
  | .udp6 u => decide (8 + m.len + 2 ≤ netNum b (u + 4) 2) && decide (m.start + m.len + 2 ≤ b.length)
  | _ => true

/-- A message of even length as 16-bit words, added in one's complement arithmetic, in which 0xFFFF is 0. -/
def onesSum (b : List Nat) (o n : Nat) : Nat := ((List.range (n / 2)).map (fun i => netNum b (o + 2 * i) 2)).sum % 65535

/-- A Sync with the output time written into it (R402): `originTimestamp`, and the part below the nanosecond in `correctionField`, whose unit is 2^−16 ns. UDP over IPv4 goes out
without a checksum; over IPv6 the trailer takes up the difference, so that the checksum stays right. The port forms the FCS of what it sends. -/
def oneStepFrame (b : List Nat) (m : PtpMsg) (sec ns256 : Nat) : List Nat :=
  let c := putNum (putNum (putNum b (m.start + 8) 8 (ns256 % 256 * 256)) (m.start + 34) 6 sec) (m.start + 40) 4 (ns256 / 256)
  match m.carry with
  | .eth => c
  | .udp4 u => putNum c (u + 6) 2 0
  | .udp6 _ =>
    let t := m.start + m.len
    putNum c t 2 ((netNum b t 2 + onesSum b m.start 44 + 65535 - onesSum c m.start 44) % 65535)

/-! ### Timestamps (R402, R409–R411) -/

/-- The records of a queue, oldest first: port q, r 1 for receive. -/
def State.tsq (s : State) (q r : Nat) : List (List Nat) := (s.ptp.ts.get? (2 * q + r)).getD []

/-- Stores a queue and shows its oldest record (R411). -/
def State.putTsq (s : State) (q r : Nat) (l : List (List Nat)) : State :=
  let s := { s with ptp := { s.ptp with ts := if l.isEmpty then s.ptp.ts.del (2 * q + r) else s.ptp.ts.put (2 * q + r) l } }
  let front := l.headD []
  upTo (fun i s => s.wr Reg.Tim.TS_REC [q, r, i] (front.getD i 0)) 7 (s.wr Reg.Tim.TS_FILL [q, r] l.length)

/-- The record of a message whose timestamp point lies at extended stage time `e` (R409). -/
def State.tsRecord (s : State) (port : Nat) (rx : Bool) (m : PtpMsg) (e : Nat) : List Nat :=
  let (asec, ans) := ptpParts (s.domAt 0 e)
  let (bsec, bns) := ptpParts (s.domAt 1 e)
  [e % 2 ^ 40, ans, asec % 2 ^ 40, bns, bsec % 2 ^ 40,
    packBits [(16, m.seqId), (4, m.mtype), (8, m.domain), (8, s.rd Reg.Hid.TS_SEQ [port, bit rx])],
    packBits [(16, s.rd Reg.Tim.EPOCH []), (1, s.rd Reg.Tim.VALID [0]), (1, s.rd Reg.Tim.VALID [1]), (1, s.outDom)]]

/-- A record meets its queue (R410). -/
def State.pushTs (s : State) (q r : Nat) (rec : List Nat) : State :=
  if 64 ≤ (s.tsq q r).length then
    let s := s.addTo Reg.Tim.TS_LOST [q, r] 1
    if s.flag Reg.Tim.TS_OVF [q, r] then s else (s.wr Reg.Tim.TS_OVF [q, r] 1).raise 0xCC (Reg.Tim.TS_REC.addr [q, r, 0]) []
  else (s.putTsq q r (s.tsq q r ++ [rec])).addTo Reg.Hid.TS_SEQ [q, r] 1

/-- `PTP_TIMESTAMP` (R401, R402): a frame's timestamp point passes the ball of a port. One that carries no event message leaves nothing behind. -/
def execPtpTimestamp (f : PtpFrame) (s : State) : Host.Outcome State Fault Refusal :=
  match (if f.port ≤ 32 then ptpMsg f.bytes else none) with
  | none => .next s
  | some m =>
    let adj := signed 16 (s.rd (if f.rx then Reg.Tim.TS_ADJ_RX else Reg.Tim.TS_ADJ_TX) [f.port])
    let e := (Int.ofNat s.ext + adj).toNat
    let one := !f.rx && decide (f.port < 32) && s.flag Reg.Tim.ONE_STEP [f.port] && m.mtype == 0 && !m.twoStep
    if one && m.trailer f.bytes then
      let (sec, ns) := ptpParts (s.outAt e)
      .next ((s.emit (.oneStep f.port (oneStepFrame f.bytes m sec ns))).countUplink f.port 6)
    else
      let s := if one then s.addTo Reg.Tim.ONESTEP_SKIP [f.port] 1 else s
      if !s.flag Reg.Tim.TS_EN [f.port] then .next s
      else .next ((s.pushTs f.port (bit f.rx) (s.tsRecord f.port f.rx m e)).countUplink f.port 6)

/-- Whether a write of `TS_POP` names the oldest record (R411). -/
def State.tsPopOk (s : State) (q r v : Nat) : Bool :=
  match s.tsq q r with
  | rec :: _ => rec.getD 5 0 / 2 ^ 28 % 256 == v
  | [] => false

/-- `TS_POP` naming the oldest record (R411). -/
def State.tsPop (s : State) (q r : Nat) : State := s.putTsq q r (s.tsq q r).tail

/-! ### Snapshots (R412) -/

/-- A store to `SNAP` by a context. -/
def State.snap (s : State) (cx : Cx) : State :=
  let k := ctxNo cx
  let t3 := fun (t : Int) => let p := ptpParts t; [p.2, p.1 % 2 ^ 40, p.1 / 2 ^ 40]
  let ws := [s.now] ++ t3 (s.outAt s.ext) ++ t3 (s.domAt 0 s.ext) ++ t3 (s.domAt 1 s.ext) ++ [s.rd Reg.Tim.EPOCH [], s.outDom]
  (ws.zipIdx).foldl (fun s x => s.wr Reg.Hid.SNAP [k, x.2] x.1) s

/-! ### Time of day (R413, R414) -/

/-- Superframe N of a port without the modulus of its counter: the next one at or after the present frame. -/
def State.superframe (s : State) (n : Nat) : Nat :=
  let cur := s.ext / 777600
  cur + (n + 2 ^ 51 - cur % 2 ^ 51) % 2 ^ 51

/-- The extended stage time at which a superframe's first bit leaves the ball of a head-role port: F_N less the applied shift. -/
def State.sfBall (s : State) (z n : Nat) : Nat := (Int.ofNat (n * 777600) - (signed 32 (s.rd Reg.Twn.SHIFT [z])).fdiv 8).toNat

/-- Whether a write of `TOD_SF_LO` arms a latch (R413, R414). -/
def State.todOk (s : State) (z lo : Nat) : Bool :=
  if s.isEpon z then false
  else if s.head z then
    let t := s.sfBall z (s.superframe (s.rd Reg.Tim.TOD_SF_HI [z] * 2 ^ 40 + lo))
    decide (s.ext < t) && decide (t - s.ext ≤ 2 ^ 39)
  else s.tail z && s.rd Reg.Pon.TAIL_SYNC [z] == 2

/-- Shows an output time in the words of a port. -/
def State.showTod (s : State) (z e : Nat) (t : Int) : State :=
  let (sec, ns) := ptpParts t
  (((((s.wr Reg.Tim.TOD_NS [z] ns).wr Reg.Tim.TOD_SEC [z] sec).wr Reg.Tim.TOD_SEC_HI [z] (sec / 2 ^ 40)).wr Reg.Tim.TOD_EPOCH [z] (s.rd Reg.Tim.EPOCH [])).wr
    Reg.Tim.TOD_VALID [z] 1).wr Reg.Tim.TOD_STAGE [z] e

/-- `TOD_SF_LO` arms the latch of a port (R413, R414): a head-role port predicts the time as well. -/
def State.armTod (s : State) (z lo : Nat) : State :=
  let n := s.superframe (s.rd Reg.Tim.TOD_SF_HI [z] * 2 ^ 40 + lo)
  if s.head z then
    let e := s.sfBall z n
    let t := s.outAt e
    let s := (s.showTod z e t).wr Reg.Tim.TOD_PRED [z] 1
    { s with ptp := { s.ptp with tod := s.ptp.tod.put z { frame := n, pred := some t } } }
  else
    { (s.wr Reg.Tim.TOD_VALID [z] 0).wr Reg.Tim.TOD_PRED [z] 0 with ptp := { s.ptp with tod := s.ptp.tod.put z { frame := n, pred := none } } }

/-- `TOD_LATCHED` (R413, R414): superframe N passes the ball of port z. -/
def execTodLatched (z : Nat) (s : State) : Host.Outcome State Fault Refusal :=
  match s.ptp.tod.get? z with
  | none => .next s
  | some x =>
    let s := { s with ptp := { s.ptp with tod := s.ptp.tod.del z } }
    let s := if x.pred.isSome then s.advanceTo (s.sfBall z x.frame) else s
    let t := s.outAt s.ext
    let s := (s.showTod z s.ext t).wr Reg.Tim.TOD_PRED [z] 0
    let s := match x.pred with
      | some p => s.wr Reg.Tim.TOD_DIFF [z] (unsigned 40 ((t - p).fdiv ptpFrac))
      | none => s
    .next (s.raise 0xCD (Reg.Tim.TOD_SF_HI.addr [z]) [])

/-! ### PPS (R415, R416) -/

/-- The first moment in a span of `2^n` ticks from `lo` at which the output time has reached `t`. -/
def State.whenOut (s : State) (t : Int) : Nat → Nat → Nat
  | 0, lo => lo
  | n + 1, lo => if t ≤ s.outAt (lo + 2 ^ n - 1) then s.whenOut t n lo else s.whenOut t n (lo + 2 ^ n)

/-- `PPS_OUT_EDGE` (R415): the output time meets its next whole second. -/
def execPpsOutEdge (s : State) : Host.Outcome State Fault Refusal :=
  if !(s.flag Reg.Tim.PPS_EN [] && s.flag Reg.Tim.OUT_VALID []) then .next s
  else
    let start := max s.ext (s.rd Reg.Hid.PPS_CROSS [0])
    let sec : Int := ptpFrac * second256
    let cross := s.whenOut (((s.outAt start).fdiv sec + 1) * sec) 34 start
    let edge := (Int.ofNat cross + signed 16 (s.rd Reg.Tim.PPS_OFS [])).toNat
    let last := s.rd Reg.Hid.PPS_AT [0]
    let s := (s.advanceTo edge).wr Reg.Hid.PPS_CROSS [0] cross
    if last ≠ 0 ∧ edge < last - 1 + msTicks 500 then .next (s.addTo Reg.Tim.PPSO_SUPPR [] 1)
    else
      let s := s.wr Reg.Hid.PPS_AT [0] (edge + 1)
      .next ((s.emit (.pin .ppsOut 0 1 edge)).emit (.pin .ppsOut 0 0 (edge + usTicks (s.rd Reg.Tim.PPS_WIDTH []))))

/-- The offset that an edge of `PPS_IN` gives a domain: its nanoseconds, taken from −500,000,000 to 499,999,999 (R416). -/
def ppsOffset (t : Int) : Int :=
  let f := (t.fdiv ptpFrac).fmod second256
  if f < second256 / 2 then f else f - second256

/-- `PPS_IN` (R416): a rising edge now. -/
def execPpsIn (s : State) : Host.Outcome State Fault Refusal :=
  let e := (Int.ofNat s.ext + signed 16 (s.rd Reg.Tim.PPS_OFS_IN [])).toNat
  let last := s.rd Reg.Hid.PPSI_AT [0]
  if last ≠ 0 ∧ e < last - 1 + msTicks 900 then .next (s.addTo Reg.Tim.PPSI_GLITCH [] 1)
  else
    let s := ((s.wr Reg.Tim.PPSI_STAGE [] e).addTo Reg.Tim.PPSI_CNT [] 1).wr Reg.Hid.PPSI_AT [0] (e + 1)
    .next ([0, 1].foldl (fun s d => if s.flag Reg.Tim.SRC [d] then s.commitOffset d 0 (ppsOffset (s.domAt d e)) else s) s)

/-! ### The wrap of stage time (R394) -/

/-- `STAGE_WRAP` (R394): stage time goes from 0xFF_FFFF_FFFF to 0, and `STAGE_WRAPS` counts it. -/
def execStageWrap (s : State) : Host.Outcome State Fault Refusal :=
  if s.timeOn then .next (s.advanceTo ((s.ext / 2 ^ 40 + 1) * 2 ^ 40)) else .next s

end Sys2Proof.Machine
end

