-- ==== Sys2Proof/Machine/Queue.lean ====
section
/-! DEFINITION. The queue hierarchy (R335–R341): which child a shaper node serves, sending from it, the uplink ports' egress queues, and what a
node's guarantees must satisfy. -/

namespace Sys2Proof.Machine

/-! ### The hierarchy (R335) -/

/-- The node above node n of level l. -/
def State.parent (s : State) (l n : Nat) : Nat := if l = 2 then n / 1024 else s.rd Reg.Que.PARENT [l, n]

/-- The nodes on the path from the root to queue q, the root first. -/
def State.path (s : State) (q : Nat) : List (Nat × Nat) :=
  let g := s.parent 4 q
  let t := s.parent 3 g
  [(1, t / 1024), (2, t), (3, g), (4, q)]

/-- The children of node n of level l below which a queue holds a frame. -/
def State.busyKids (s : State) (l n : Nat) : List Nat :=
  sortNats (s.fwd.queues.filterMap (fun c => if (l, n) ∈ s.path c.1 then ((s.path c.1).find? (fun x => x.1 == l + 1)).map Prod.snd else none))

/-- The bytes held below a node (`QDEPTH`, R344). -/
def State.qDepth (s : State) (l n : Nat) : Nat :=
  (s.fwd.queues.map (fun c => if (l, n) ∈ s.path c.1 then queueBytes c.2 else 0)).sum

/-! ### Shapers (R336) -/

/-- The shapers of a node, full before their first use. -/
def State.shaper (s : State) (l n : Nat) : Shaper :=
  (s.fwd.shapers.get? (l * 262144 + n)).getD { minD := 0, minAt := 0, maxD := 0, maxAt := 0, served := 0, deficit := 0, last := 0 }

/-- Stores the shapers of a node. -/
def State.putShaper (s : State) (l n : Nat) (h : Shaper) : State := { s with fwd := { s.fwd with shapers := s.fwd.shapers.put (l * 262144 + n) h } }

/-- What the guaranteed bucket of a node lacks, now. -/
def State.minDeficit (s : State) (l n : Nat) : Nat := deficitNow (s.shaper l n).minD (s.shaper l n).minAt s.ext (s.rd Reg.Que.MIN [l, n])
/-- What the peak bucket of a node lacks, now. -/
def State.maxDeficit (s : State) (l n : Nat) : Nat := deficitNow (s.shaper l n).maxD (s.shaper l n).maxAt s.ext (s.rd Reg.Que.MAX [l, n])
/-- Whether a node holds `MIN` credit: its bucket is not empty (log 17). -/
def State.hasMin (s : State) (l n : Nat) : Bool := decide (s.minDeficit l n < s.rd Reg.Que.MIN_DEPTH [l, n] * byteUnit)
/-- Whether a node holds `MAX` credit. -/
def State.hasMax (s : State) (l n : Nat) : Bool := decide (s.maxDeficit l n < s.rd Reg.Que.MAX_DEPTH [l, n] * byteUnit)

/-- A frame of `n` bytes takes from both buckets of a node, each only while it is not empty (log 17). -/
def State.charge (s : State) (l k n : Nat) : State :=
  s.putShaper l k { s.shaper l k with
    minD := if s.hasMin l k then s.minDeficit l k + n * byteUnit else s.minDeficit l k
    minAt := s.ext
    maxD := if s.hasMax l k then s.maxDeficit l k + n * byteUnit else s.maxDeficit l k
    maxAt := s.ext }

/-- How a child was chosen: under `MIN` credit, or by the round robin, with the deficits it leaves to the children it passed. -/
structure Choice where
  kid : Nat
  byMin : Bool
  adds : List (Nat × Nat)

/-- The child served in proportion to `MIN` (R336 item 1): the least served for its `MIN` (log 17). -/
def State.byMin (s : State) (l : Nat) (kids : List (Nat × Nat)) : Option Nat :=
  kids.foldl (fun best k => match best with
    | some b => if (s.shaper l k.1).served * s.rd Reg.Que.MIN [l, b] < (s.shaper l b).served * s.rd Reg.Que.MIN [l, k.1] then some k.1 else best
    | none => some k.1) none

/-- The rounds a child waits until its deficit covers its frame. -/
def State.rounds (s : State) (l k len : Nat) : Nat :=
  let q := s.rd Reg.Que.WEIGHT [l, k] * 256
  max 1 ((len - (s.shaper l k).deficit + q - 1) / q)

/-- Deficit round robin among children of one priority, after the child served last (R336 item 2). -/
def State.byRound (s : State) (l last : Nat) (kids : List (Nat × Nat)) : Option Choice :=
  match kids.find? (fun k => k.1 + 1 == last && decide (k.2 ≤ (s.shaper l k.1).deficit)) with
  | some k => some { kid := k.1, byMin := false, adds := [] }
  | none =>
    let seq := kids.filter (fun k => decide (last ≤ k.1)) ++ kids.filter (fun k => decide (k.1 < last))
    match seq.foldl (fun best k => match best with
      | some b => if s.rounds l k.1 k.2 < s.rounds l b.1 b.2 then some k else best
      | none => some k) (none : Option (Nat × Nat)) with
    | none => none
    | some w =>
      let r := s.rounds l w.1 w.2
      let upto := (seq.takeWhile (fun k => k.1 != w.1)).map Prod.fst ++ [w.1]
      some { kid := w.1, byMin := false, adds := seq.map (fun k => (k.1, (if k.1 ∈ upto then r else r - 1) * (s.rd Reg.Que.WEIGHT [l, k.1] * 256))) }

/-- The child a node of level l − 1 serves, among children of level l with their next frames' lengths (R336). -/
def State.chooseKid (s : State) (l last : Nat) (kids : List (Nat × Nat)) : Option Choice :=
  let can := kids.filter (fun k => s.hasMax l k.1)
  match s.byMin l (can.filter (fun k => s.hasMin l k.1)) with
  | some k => some { kid := k, byMin := true, adds := [] }
  | none =>
    let top := can.foldl (fun p k => min p (s.rd Reg.Que.PRIO [l, k.1])) 3
    s.byRound l last (can.filter (fun k => s.rd Reg.Que.PRIO [l, k.1] == top))

/-- The queue a node of level l sends from next, and the frame's length; `fuel` levels lie below it. -/
def State.pick (s : State) : Nat → Nat → Nat → Option (Nat × Nat)
  | 0, _, q => match s.queue q with | f :: _ => some (q, frameLen f.bytes) | [] => none
  | fuel + 1, l, n =>
    let subs := (s.busyKids l n).filterMap (fun k => (s.pick fuel (l + 1) k).map (fun x => (k, x)))
    match s.chooseKid (l + 1) (s.shaper l n).last (subs.map (fun x => (x.1, x.2.2))) with
    | some c => (subs.find? (fun x => x.1 == c.kid)).map Prod.snd
    | none => none

/-- The round robin of node n of level l moves on as its choice was made. -/
def State.settle (s0 : State) (len : Nat) (s : State) (l n : Nat) : State :=
  let subs := (s0.busyKids l n).filterMap (fun k => (s0.pick (3 - l) (l + 1) k).map (fun x => (k, x.2)))
  match s0.chooseKid (l + 1) (s0.shaper l n).last subs with
  | none => s
  | some c =>
    let h := s.shaper (l + 1) c.kid
    if c.byMin then s.putShaper (l + 1) c.kid { h with served := h.served + len }
    else
      let s := c.adds.foldl (fun s a => let g := s.shaper (l + 1) a.1; s.putShaper (l + 1) a.1 { g with deficit := g.deficit + a.2 }) s
      let g := s.shaper (l + 1) c.kid
      let s := s.putShaper (l + 1) c.kid { g with deficit := g.deficit - len }
      s.putShaper l n { s.shaper l n with last := c.kid + 1 }

/-- The overhead the buckets count for a frame (R336). -/
def State.overhead (s : State) (p : Nat) : Nat := if s.isEpon p then 20 else 8

/-- The front frame of queue q leaves it: the round robins from level `top` down move on, and every node of its path is charged. -/
def State.takeFrame (s : State) (top q : Nat) : Option (QFrame × State) :=
  match s.queue q with
  | [] => none
  | f :: rest =>
    let len := frameLen f.bytes
    let cost := len + s.overhead f.tree
    let down := (s.path q).filter (fun x => decide (top ≤ x.1) && decide (x.1 < 4))
    let s' := down.foldl (fun t x => s.settle len t x.1 x.2) s
    let s' := (s.path q).foldl (fun t x => t.charge x.1 x.2 cost) s'
    let s' := s'.putQueue q rest
    -- an emptied queue keeps no deficit
    some (f, if rest.isEmpty then s'.putShaper 4 q { s'.shaper 4 q with deficit := 0 } else s')

/-- `QUEUE_SEND` (R336): the tree's root node picks a child, and so down to a queue, whose front frame is sent downstream on a lit port; a flow whose
`ENC` bit is set asks the cipher engine first, and the frame goes out when its request completes (R130, R376). -/
def execQueueSend (z : Nat) (s : State) : Out' :=
  if !(decide (z < 64) && s.head z && s.flag Reg.Pon.LIT [z] && s.hasMax 1 z) then .next s
  else
    match s.pick 3 1 z with
    | none => .next s
    | some (q, _) =>
      match s.takeFrame 1 q with
      | none => .next s
      | some (f, s) =>
        let (ok, s) := s.readFrame f
        if !ok then .next s
        else if (s.rd Reg.Key.ENC [z, f.flow / 32]).testBit (f.flow % 32) then
          .next (s.hwRequest (if s.flag Reg.Fwd.MCAST [z, f.flow] then .bcast z else .down z (s.rd Reg.Fwd.TERM [z, f.flow])) (some f) none)
        else
          let s := (s.countPort z 0).countPort z 1 (frameLen f.bytes)
          .next ((s.emit (.down z f.flow f.bytes)).leave f)

/-- Frames that fill a tail allocation's granted size, each with its encapsulation (R336, R340): the frame that does not fit waits. The allocation's node and the port's
send while they hold `MAX` credit (R336 item 3). -/
def State.fillBurst (s : State) (p a : Nat) : Nat → Nat → List (List Nat) → List (List Nat) × State
  | 0, _, acc => (acc, s)
  | fuel + 1, room, acc =>
    match (if s.hasMax 1 p && s.hasMax 2 (1024 * p + a) then s.pick 2 2 (1024 * p + a) else none) with
    | none => (acc, s)
    | some (q, n) =>
      let len := n + s.overhead p
      if room < len then (acc, s)
      else
        match s.takeFrame 2 q with
        | none => (acc, s)
        | some (f, s) =>
          let (ok, s) := s.readFrame f
          if ok then (s.leave f).fillBurst p a fuel (room - len) (acc ++ [f.bytes]) else s.fillBurst p a fuel room acc

/-- The lanes of a mode (R419). -/
def modeLanes (m : Nat) : Nat := if m = 7 then 2 else if m = 8 then 4 else if m = 9 then 8 else 1

/-- Whether an uplink sends frames (R422, R423, R432): it is enabled and up, no remote fault arrives, and no generator replaces the traffic of a lane of it. -/
def State.uplinkSends (s : State) (u : Nat) : Bool :=
  decide (u < 32) && s.flag Reg.Lan.LINK_UP [u] && s.flag Reg.Lan.UL_EN [u] && !s.flag Reg.Lan.REMOTE_FAULT [u] &&
    (List.range (modeLanes (s.rd Reg.Lan.UL_MODE [u]))).all (fun i => s.rd Reg.Lan.PRBS_GEN [u + i] == 0)

/-- `UPLINK_FRAME_SEND` (R341): an uplink serves its egress queues in strict order from 7 down to 0. -/
def execUplinkFrameSend (u : Nat) (s : State) : Out' :=
  if !s.uplinkSends u then .next s
  else
    match [7, 6, 5, 4, 3, 2, 1, 0].find? (fun c => !(s.upQueue (8 * u + c)).isEmpty) with
    | none => .next s
    | some c =>
      match s.upQueue (8 * u + c) with
      | [] => .next s
      | f :: rest =>
        let k := 8 * u + c
        let s : State := { s.wr Reg.Que.UQ_DEPTH [u, c] (queueBytes rest) with fwd := { s.fwd with upq := if rest.isEmpty then s.fwd.upq.del k else s.fwd.upq.put k rest } }
        let (ok, s) := s.readFrame f
        if !ok then .next s
        else if s.flag Reg.Key.MACSEC_EN [u] then .next (s.hwRequest (.macTx u) (some f) none)
        else
          let s := (s.countUplink u 2).countUplink u 3 (frameLen f.bytes)
          .next ((s.emit (.uplink u f.bytes)).leave f)

/-! ### Admissibility (R217, R335, R337) -/

/-- U_z of an upstream mode and rate in units of 8 kb/s (R217). -/
def upPayload (mode up : Nat) : Nat :=
  if mode = 1 then (if up = 2 then 5253125 else if up = 1 then 2626500 else 1313250)
  else if mode = 3 then (if up = 0 then 1055500 else 2638875)
  else if mode = 4 then 1093125 else 1083625

/-- R_dn of a mode in units of 8 kb/s (R217). -/
def downPayload (mode : Nat) : Nat := if mode = 1 then 5253125 else if mode = 3 then 2638875 else if mode = 4 then 1093125 else 1083625

/-- What a level-1 node's `MIN` is bounded by; a port with no mode gives no figure. -/
def State.rootLimit (s : State) (p : Nat) : Option Nat :=
  if s.mode p = 0 then none
  else if s.tail p then some (upPayload (s.mode p) (s.rd Reg.Pon.UP_RATE [p]))
  else some (if s.flag Reg.Pon.BOND [p] then 2 * downPayload (s.mode p) else downPayload (s.mode p))

/-- The enabled nodes of a level. -/
def State.enabledNodes (s : State) (l : Nat) : List Nat :=
  let k0 := Reg.Que.N_EN.key [l, 0]
  s.regs.filterMap (fun c =>
    if k0 ≤ c.1 ∧ c.1 < k0 + 512 * levelCount l ∧ (c.1 - k0) % 512 = 0 ∧ s.flag Reg.Que.N_EN [l, (c.1 - k0) / 512] then some ((c.1 - k0) / 512) else none)

/-- The sum of `MIN` over the enabled children of a node. -/
def State.kidsMin (s : State) (l n : Nat) : Nat :=
  if 4 ≤ l then 0
  else (((s.enabledNodes (l + 1)).filter (fun k => s.parent (l + 1) k == n)).map (fun k => s.rd Reg.Que.MIN [l + 1, k])).sum

/-- Whether a node's guarantees are admissible (R337); a node that is not enabled has none. -/
def State.admissible (s : State) (l n : Nat) : Bool :=
  !s.flag Reg.Que.N_EN [l, n] ||
    (decide (s.rd Reg.Que.MIN [l, n] ≤ s.rd Reg.Que.MAX [l, n]) && decide (s.kidsMin l n ≤ s.rd Reg.Que.MIN [l, n] ∨ l = 4) &&
      decide (10240 ≤ s.rd Reg.Que.MIN_DEPTH [l, n]) && decide (10240 ≤ s.rd Reg.Que.MAX_DEPTH [l, n]) &&
      (l != 1 || match s.rootLimit n with | some r => decide (s.rd Reg.Que.MIN [l, n] ≤ r) | none => true))

/-- Whether a node and the node above it are admissible: what a write of one node can break (R337). -/
def State.nodeAdmissible (s : State) (l n : Nat) : Bool :=
  s.admissible l n && (l == 1 || s.admissible (l - 1) (s.parent l n))

/-- Whether a node holds a frame (R335). -/
def State.nodeHolds (s : State) (l n : Nat) : Bool := s.fwd.queues.any (fun c => decide ((l, n) ∈ s.path c.1) && !c.2.isEmpty)

/-- Whether a queue lies where a flow of tree z may name it (R335): below its terminal's node, below the multicast nodes of its tree, or on a
tail-role port below its tail allocation. -/
def State.queueFits (s : State) (z f q : Nat) : Bool :=
  let t := s.parent 3 (s.parent 4 q)
  if s.flag Reg.Fwd.MCAST [z, f] then decide (1024 * z + 1020 ≤ t) && decide (t ≤ 1024 * z + 1023)
  else t == 1024 * z + (if s.tail z then s.rd Reg.Fwd.TAIL_ALLOC [z, f] else s.rd Reg.Fwd.TERM [z, f])

end Sys2Proof.Machine
end

