-- ==== Sys2Proof/Machine/Upstream.lean ====
section
/-! DEFINITION. The decoded end of an upstream burst (R142, R143, R190, R211, R452). -/

namespace Sys2Proof.Machine

/-- What a burst that is discarded whole decodes to. -/
def noneDecoded : Decoded := { codewords := 0, corrected := 0, uncorrectable := 0, idle := [], reports := [], frames := [] }

/-- Codeword and bit-error counts of a burst: the terminal's, which no object shows, the port's, and those that the defect is judged by (R142, R151, R452). -/
def State.countCodewords (s : State) (z t : Nat) (d : Decoded) : State :=
  let s := ((s.addTo Reg.Hid.TERM_CW [z, t] d.codewords).addTo Reg.Hid.TERM_COR [z, t] d.corrected).addTo Reg.Hid.TERM_UNC [z, t] d.uncorrectable
  let s := ((s.countPort z 7 d.codewords).countPort z 8 d.corrected).countPort z 9 d.uncorrectable
  (s.wr Reg.Hid.CW_INT [z] (s.rd Reg.Hid.CW_INT [z] + d.codewords)).wr Reg.Hid.UNC_INT [z] (s.rd Reg.Hid.UNC_INT [z] + d.uncorrectable)

/-- The units that a burst grants to an allocation. -/
def Burst.granted (b : Burst) (a : Nat) : Nat := ((b.allocs.filter (fun x => x.1 == a)).map Prod.snd).sum

/-- The share of a granted payload that carried idle frames, both in the grant's units, in units of 1/255, rounded down (R190; DESIGN CHOICE for the rounding, log 123). -/
def idleShare (idle granted : Nat) : Nat := if granted = 0 then 0 else min 255 (idle * 255 / granted)

/-- `BURST_DECODED` (R142): decoding of the oldest received burst ends. One whose header check failed is discarded whole (R143); the other's counts, reports
and frames go onward, and its record to the prompt book. -/
def execBurstDecoded (z : Nat) (d : Decoded) (s : State) : Out' :=
  if 64 ≤ z then .next s
  else
    match (s.tree z).bursts with
    | [] => .next s
    | b :: rest =>
      let s := s.modTree z (fun tr => { tr with bursts := rest })
      if !b.ok then .next ((s.countPort z 6).pbBurst z b.term b.delim b.d b.score b.long noneDecoded 2)
      else
        let s := (s.countPort z 4).countCodewords z b.term d
        let s := d.idle.foldl (fun s x => if x.1 < 4096 then s.modDig z x.1 (fun g => { g with idle := idleShare x.2 (b.granted x.1) }) else s) s
        let s := d.reports.foldl (fun s r => s.report z r) s
        let s := s.pbBurst z b.term b.delim b.d b.score b.long d 0
        .next (d.frames.foldl (fun s p => s.arrive { p with ingress := z, term := b.term }) s)

/-! ### Occupancy (R460) -/

/-- A free number of `bits` bits (log 3). -/
def State.freeNat (s : State) (bits : Nat) : Nat := (Config.freeWord s.freeCtr).toNat % 2 ^ bits

/-- The occupancy signal a threshold counter watches (R460). What waits in a sieve input queue depends on how fast the sieve serves it (R224, R225): the bytes are a
free value (DESIGN CHOICE, log 148). -/
def State.signal (s : State) (kind i : Nat) : Nat :=
  match kind with
  | 1 => s.qDepth 4 i
  | 2 => s.qDepth 3 i
  | 3 => s.qDepth 2 i
  | 4 => s.qDepth 1 i
  | 5 => queueBytes (s.upQueue i)
  | 6 => s.poolCount i - s.rd Reg.Buf.FREE [i]
  | 7 => s.freeNat 40
  | 8 => (s.sieve.recirc.map (fun p => p.bytes.length)).sum
  | 9 => 4096 - s.rd Reg.Key.Q_FREE []
  | 10 => s.fwd.learns.length
  | 11 => s.cpu.tickets.length
  | 12 => s.evs.queue.length
  | _ => 0

/-- Whether the signal of threshold counter i exceeds `TH_N` now (R460). -/
def State.above (s : State) (i : Nat) : Bool := decide (s.rd Reg.Cnt.TH_N [i] < s.signal (s.rd Reg.Cnt.TH_KIND [i]) (s.rd Reg.Cnt.TH_INDEX [i]))

end Sys2Proof.Machine
end

