-- ==== Sys2Proof/Machine/Tail.lean ====
section
/-! DEFINITION. Changes of a port's mode (R121–R124), the tail role (R145–R150), port defects (R151, R152) and the I²C masters (R153). -/

namespace Sys2Proof.Machine

/-! ### Changing a port (R12, R14, R121–R124, R200, R210) -/

/-- Whether an object address names an object of port p in block 0x01 or of tree p in block 0x03 (R121). -/
def portOwns (p addr : Nat) : Bool :=
  (addr / 2 ^ 34 == 0x01 && decide (addr % 2 ^ 34 < 0x400000) && addr % 2 ^ 34 / 2 ^ 16 == p) || (addr / 2 ^ 34 == 0x03 && addr % 2 ^ 34 / 2 ^ 16 == p)

/-- `CHANGE_OK` (R121): the port is dark and no ticket is outstanding against its objects. -/
def State.changeOk (s : State) (p : Nat) : Bool :=
  !s.flag Reg.Pon.LIT [p] && s.cpu.tickets.all (fun t => !t.2.running || !(t.2.objs.any (portOwns p) || t.2.port == some p))

/-- The ports in the tail role. -/
def State.tailCount (s : State) : Nat := (List.range 64).countP s.tail

/-- Whether a port word may become these values (R12, R14, R117, R121, R123, R124): the conditions of R123 are asked where `BOND` becomes 1. One write that changes `MODE` and
sets `BOND` is judged for the head role by what the port is, and for its mode by what it is to be (DESIGN CHOICE, log 143). A bonded pair's change is one of both its ports. -/
def State.portOk (s : State) (p mode up role bond : Nat) : Bool :=
  let odd := p % 2 == 1
  s.changeOk p && (!s.flag Reg.Pon.BOND [p] || s.changeOk (p + 1)) && !s.flag Reg.Pon.BOND_PARTNER [p] && decide (mode ≤ 4) && rateDefined mode up (bond == 1) &&
    (role == 0 || !(eponMode mode) && (s.tail p || mode == 0 || decide (s.tailCount < 8))) &&
    (if bond = 1 then
      !odd && (s.flag Reg.Pon.BOND [p] || (mode == 3 && role == 0 && s.head p && s.head (p + 1) && s.changeOk (p + 1)))
    else !(s.flag Reg.Pon.BOND [p]) || s.rd Reg.Pon.UP_RATE [p] != 2)

/-- Per-terminal state words of a tree that the object map does not show. -/
def termHid : List Field :=
  [Reg.Hid.FENCE_RUN, Reg.Hid.FENCE_CLAMPS, Reg.Hid.TERM_SINCE, Reg.Hid.DRIFT_SENDS, Reg.Hid.DRIFT_SENT_AT, Reg.Hid.DRIFT_HOLD, Reg.Hid.EQD_BITS, Reg.Hid.RNG_PREV,
   Reg.Hid.LVL_LOW, Reg.Hid.LVL_HIGH, Reg.Hid.LVL_AT, Reg.Hid.SKEW_HELD, Reg.Hid.SKEW_GOOD, Reg.Hid.SKEW, Reg.Hid.GOOD_AT, Reg.Hid.MISS_RUN,
   Reg.Hid.FENCED_SET, Reg.Hid.GOOD_HIST, Reg.Hid.TERM_CW, Reg.Hid.TERM_COR, Reg.Hid.TERM_UNC]

/-- Per-tree state words that a restart clears. -/
def treeHid : List Field :=
  [Reg.Hid.W_GRANT, Reg.Hid.W_FOUND, Reg.Hid.W_OWN, Reg.Hid.W_ENERGY, Reg.Hid.NT_RUN, Reg.Hid.UNDER_RUN, Reg.Hid.VERIFY_N, Reg.Hid.F_ON, Reg.Hid.F_RUN,
   Reg.Hid.SUM_NEXT, Reg.Hid.DPRE_DUE, Reg.Hid.LATE_INT, Reg.Hid.DIG_AT, Reg.Hid.CW_INT, Reg.Hid.UNC_INT,
   Reg.Hid.UNC_RUN, Reg.Hid.TAIL_LOST_AT, Reg.Hid.TAIL_SILENT, Reg.Hid.TAIL_PRE, Reg.Hid.TX_SINCE, Reg.Hid.DEF_AT]

/-- A tree's prompter image is unloaded (R210). -/
def State.unloadPrompter (s : State) (z : Nat) : State :=
  let core := s.server z
  let s := (((s.wr Reg.Cue.LOADED [z] 0).wr Reg.Cue.DECLARED [z] 0).wr Reg.Cue.HALTED [z] 0).wr Reg.Hid.PR_STREAK [z] 0
  let s := s.orphanTickets ⟨core, 0⟩
  { s with cpu := { s.cpu with images := s.cpu.images.del z, nextImages := s.cpu.nextImages.del z, ctxs := if core < 72 then s.cpu.ctxs.del (core * 16) else s.cpu.ctxs } }

/-- An accepted change of `MODE`, `UP_RATE`, `ROLE` or `BOND`, once its fields are stored (R122, R161, R188, R200, R210): `wasHead` and `oldMode` tell what the port was. -/
def State.restartPort (s : State) (p : Nat) (wasHead : Bool) (oldMode : Nat) : State :=
  let mode := s.mode p
  let s := (s.listed Reg.Pon.VALID [p]).foldl (fun s t => s.clearPreset p t) s
  let s := s.clearRange (Reg.Rng.ADMIN.addr [p, 0]) (Reg.Rng.ADMIN.addr [p, 1020])
  let s := termHid.foldl (fun s f => s.clearRange (f.addr [p, 0]) (f.addr [p + 1, 0])) s
  let s := s.clearFields treeHid [p]
  let s := (s.putTree p emptyTree).wr Reg.Twn.DELTA_VALID [p] 0
  let s := (((s.wr Reg.Rng.ROGUE_STATE [p] 0).wr Reg.Rng.ROGUE_TERM [p] 0).wr Reg.Rng.ROGUE_LEFT [p] 0).wr Reg.Pon.LIGHT [p] 0
  let s := (((s.wr Reg.Pon.TAIL_SYNC [p] 0).wr Reg.Pon.TAIL_ONU_ID [p] 0).wr Reg.Pon.TAIL_ID_VALID [p] 0).wr Reg.Pon.TAIL_EQD [p] 0
  let s := if mode = oldMode then s else s.wr Reg.Rng.RAND_US [p] (if eponMode mode then 32 else 48)
  let s := if eponMode oldMode = eponMode mode then s
    else
      let s := s.clearRange (Reg.Cue.ALLOC_ID.addr [p, 0]) (Reg.Cue.ALLOC_ID.addr [p, 4096])
      let s := if eponMode mode then s else s.wr Reg.Cue.GATE_CYCLE [p] 1
      { s with env := { s.env with epon := if eponMode mode then s.env.epon ||| 2 ^ p else s.env.epon &&& (2 ^ 64 - 1 - 2 ^ p) } }
  let partner := s.flag Reg.Pon.BOND_PARTNER [p]
  let s := s.wr Reg.Cue.IDLE_TREE [p] (bit (s.tail p || partner))
  let s := if !s.head p || partner || !wasHead then s.unloadPrompter p else s.wr Reg.Hid.PR_COLD [p] 1
  let s := if s.head p then s.wr Reg.Cue.FRAME [p] 0 else s
  if mode = 0 then s.wr Reg.Pon.TRAINING [p] 0
  else (s.wr Reg.Pon.TRAINING [p] 1).wr Reg.Hid.TRAIN_UNTIL [p] (s.ext + msTicks 2)

/-- The twin is told a tree's `MODE` and `UP_RATE` (R245: the mirrored tree configuration that its eligibility is judged by). -/
def State.tellConfig (s : State) (p : Nat) : State :=
  if s.rd Reg.Bar.PAIRING [] = 2 then s.emit (.twin 4 [0x01, p, s.mode p, s.rd Reg.Pon.UP_RATE [p]]) else s

/-- The port word takes its accepted values (R122–R124). -/
def State.changePort (s : State) (p mode up role bond : Nat) : State :=
  let wasHead := s.head p
  let old := s.mode p
  let oldBond := s.rd Reg.Pon.BOND [p]
  let s := (((s.wr Reg.Pon.MODE [p] mode).wr Reg.Pon.UP_RATE [p] up).wr Reg.Pon.ROLE [p] role).wr Reg.Pon.BOND [p] bond
  if oldBond = 0 ∧ bond = 0 then (s.restartPort p wasHead old).tellConfig p
  else
    let head2 := s.head (p + 1) && oldBond == 0
    let old2 := s.mode (p + 1)
    let s := (((s.wr Reg.Pon.MODE [p + 1] mode).wr Reg.Pon.BOND_PARTNER [p + 1] bond).restartPort p wasHead old)
    ((s.restartPort (p + 1) head2 old2).tellConfig p).tellConfig (p + 1)

/-- `TRAINING_DONE` (R122, R531): retraining ends, and the downstream engine of a head-role port starts at the next grid point. -/
def execTrainingDone (p : Nat) (s : State) : Out' :=
  if !(decide (p < 64) && s.flag Reg.Pon.TRAINING [p]) then .next s
  else .next (((s.wr Reg.Pon.TRAINING [p] 0).wr Reg.Hid.TRAIN_UNTIL [p] s.ext).wr Reg.Hid.F_ON [p] (bit (s.head p)))

/-! ### The tail role (R145–R149) -/

/-- A tail port in `SYNC`. -/
def State.tailSynced (s : State) (p : Nat) : Bool := decide (p < 64) && s.tail p && s.rd Reg.Pon.TAIL_SYNC [p] == 2

/-- Downstream bits of a frame (R117, R145). -/
def State.frameBits (s : State) (p : Nat) : Nat := if s.mode p = 1 then 6220800 else 1244160

/-- The port forgets its ONU-ID and equalisation delay (R148). -/
def State.tailForget (s : State) (p : Nat) : State :=
  (((s.wr Reg.Pon.TAIL_ONU_ID [p] 0).wr Reg.Pon.TAIL_ID_VALID [p] 0).wr Reg.Pon.TAIL_EQD [p] 0).modTree p (fun tr => { tr with tailQ := [] })

/-- `PONp_TXEN` goes low at once where a burst is being sent, ahead of the fall that the burst's end would bring (R148). -/
def State.cutBurst (s : State) (p : Nat) : State :=
  let off := s.rd Reg.Hid.TX_SINCE [p]
  if s.ext + 1 < off then (s.edge .txen p 0 s.ext).wr Reg.Hid.TX_SINCE [p] (s.ext + 1) else s

/-- The port has its downstream again, or has lost it: transmission stops at once, and `TAIL_TO2` counts (R148). -/
def State.tailSignal (s : State) (p : Nat) : State :=
  let d := s.rd Reg.Pon.DEFECT [p]
  if d.testBit 2 ∨ d.testBit 3 then
    let s := (s.modTree p (fun tr => { tr with tailQ := [] })).cutBurst p
    if s.rd Reg.Hid.TAIL_LOST_AT [p] = 0 then s.wr Reg.Hid.TAIL_LOST_AT [p] (s.ext + 1) else s
  else if s.rd Reg.Pon.TAIL_SYNC [p] = 2 then s.wr Reg.Hid.TAIL_LOST_AT [p] 0
  else s

/-- A tail-role port leaves `SYNC`: frame-bound cues pending on it are discarded (R398), and an armed time-of-day latch is dropped (R414). -/
def State.tailLeft (s : State) (p : Nat) : State :=
  let mine := s.ptp.cues.filter (fun c => c.port == some p)
  let s := { s with ptp := { s.ptp with cues := s.ptp.cues.filter (fun c => c.port != some p) } }
  let s := mine.foldl (fun s c => s.finishTicket c.entry c.gen (cword 2 0)) s
  match s.ptp.tod.get? p with
  | some _ => { s.wr Reg.Tim.TOD_VALID [p] 0 with ptp := { s.ptp with tod := s.ptp.tod.del p } }
  | none => s

/-- `TAIL_SYNC_PATTERN` (R145): hunting, up to four candidates wait for their next pattern, and the second at one frame spacing gives `SYNC`; in `SYNC` four
consecutive misses set `LOF`. Hunting, `syncs` holds the candidates' last positions; in `SYNC`, the last expected position and the misses. -/
def execTailSyncPattern (p : Nat) (o : SyncObs) (s : State) : Out' :=
  if !(decide (p < 64) && s.tail p) then .next s
  else
    let n := s.frameBits p
    let hit := decide (o.errors ≤ 2)
    if s.rd Reg.Pon.TAIL_SYNC [p] = 2 then
      let last := (s.tree p).syncs.getD 0 0
      let miss := (s.tree p).syncs.getD 1 0
      if o.pos ≠ last + n then .next s
      else if hit then .next (s.modTree p (fun tr => { tr with syncs := [o.pos, 0] }))
      else if 3 ≤ miss then
        .next ((((s.modTree p (fun tr => { tr with syncs := [] })).wr Reg.Pon.TAIL_SYNC [p] 0).defect p 3 true).tailSignal p |>.tailLeft p)
      else .next (s.modTree p (fun tr => { tr with syncs := [o.pos, miss + 1] }))
    else
      -- a candidate whose next position has gone by without a pattern is dropped
      let live := (s.tree p).syncs.filter (fun c => decide (o.pos ≤ c + n))
      if !hit then
        let left := live.filter (fun c => c + n != o.pos)
        .next ((s.modTree p (fun tr => { tr with syncs := left })).wr Reg.Pon.TAIL_SYNC [p] (bit (!left.isEmpty)))
      else if live.any (fun c => c + n == o.pos) then
        .next ((((s.modTree p (fun tr => { tr with syncs := [o.pos, 0] })).wr Reg.Pon.TAIL_SYNC [p] 2).defect p 3 false).tailSignal p)
      else
        let cs := if live.length < 4 then live ++ [o.pos] else live
        .next ((s.modTree p (fun tr => { tr with syncs := cs })).wr Reg.Pon.TAIL_SYNC [p] 1)

/-- Whether a tail port may transmit (R147, R148): lit, in `SYNC` with its signal, and not disabled. -/
def State.tailMaySend (s : State) (p : Nat) : Bool :=
  s.tailSynced p && s.flag Reg.Pon.LIT [p] && !s.flag Reg.Hid.TAIL_SILENT [p] &&
    !(s.rd Reg.Pon.DEFECT [p]).testBit 2 && !(s.rd Reg.Pon.DEFECT [p]).testBit 3

/-- The random response delay of the ITU modes in upstream bits: 48 µs at most (R161); its value is free (log 3). -/
def State.randomDelay (s : State) (p : Nat) : Nat × State := s.choose ((s.rate p).tickBits (usTicks 48) + 1)

/-- `TAIL_MAP_ENTRY` (R146): a map entry for tail allocation `a` (0–15), one of those that software assigned to the port (log 124), or for a serial-number grant
(`a` = 16), of the downstream frame that began at `frame` in extended stage time. The burst's first bit is placed to one bit, in 1/8 tick. -/
def execTailMapEntry (p a start size frame : Nat) (s : State) : Out' :=
  if !s.tailSynced p || decide (16 < a) || (a == 16) == s.flag Reg.Pon.TAIL_ID_VALID [p] then .next s
  else
    let r := s.rate p
    let (delay, s) := if a = 16 then s.randomDelay p else (0, s)
    let t := 8 * (frame + 217728) + 8 * r.bNum * (s.rd Reg.Pon.TAIL_EQD [p] + 32 * start + delay) / r.bDen
    .next (s.modTree p (fun tr => { tr with tailQ := tr.tailQ ++ [(a, t, size)] }))

/-- The preamble a tail port sends. -/
def State.tailPre (s : State) (p : Nat) : Nat := if s.rd Reg.Hid.TAIL_PRE [p] = 0 then (s.rate p).long else s.rd Reg.Hid.TAIL_PRE [p]

/-- The dying-gasp indication (R149): a supply dip, or a device reset pending. -/
def State.gasp (s : State) : Bool := s.flag Reg.Pwr.DIP_ACTIVE [] || s.flag Reg.Hid.RST_NOTICE [0]

/-- `TAIL_BURST_SEND` (R146, R147, R149, R340): the oldest map entry's burst leaves at its derived time, filled from the allocation's queues; `ploam`: software's upstream
PLOAM queue, which no object shows, is not empty (log 124). A port that may not transmit lets the grant pass. -/
def execTailBurstSend (p : Nat) (ploam : Bool) (s : State) : Out' :=
  if !s.tailSynced p then .next s
  else
    match (s.tree p).tailQ with
    | [] => .next s
    | (a, t, size) :: rest =>
      let s := s.modTree p (fun tr => { tr with tailQ := rest })
      let s := s.advanceTo (t / 8)
      if !s.tailMaySend p then .next s
      else
        let r := s.rate p
        let on := t / 8 - r.bitTicks (s.tailPre p + 64) - s.rd Reg.Pon.TX_ON_LEAD [p]
        let off := t / 8 + r.ticks size + s.rd Reg.Pon.TX_OFF_HOLD [p]
        let s := ((s.edge .txen p 1 on).edge .txen p 0 off).wr Reg.Hid.TX_SINCE [p] (off + 1)
        if a = 16 then
          let s := s.emit (.ctrl p { kind := .serialNumber, term := 1023, args := [s.rd Reg.Pon.TAIL_SN_VENDOR [p], s.rd Reg.Pon.TAIL_SN_NUMBER [p]] } (t / 8))
          .next (s.emit (.tailBurst p a t s.gasp ploam []))
        else
          let (fs, s) := s.fillBurst p a (queueBytes (s.fwd.queues.flatMap Prod.snd) + 1) (4 * size) []
          .next (s.emit (.tailBurst p a t s.gasp ploam fs))

/-- `TAIL_TX_GUARD` (R147): the burst enable has outlasted the longest burst and both margins; the port is dark until software lights it. -/
def execTailTxGuard (p : Nat) (s : State) : Out' :=
  if !(decide (p < 64) && s.tail p && s.flag Reg.Pon.LIT [p]) then .next s
  else .next ((((s.edge .txen p 0 s.ext).wr Reg.Pon.LIT [p] 0).wr Reg.Pon.LIGHT [p] 0).raise 0x92 (portObj p) [])

/-- `TAIL_TO2_EXPIRY` (R148): `SYNC` has not returned within `TAIL_TO2`. -/
def execTailTo2Expiry (p : Nat) (s : State) : Out' :=
  let l := s.rd Reg.Hid.TAIL_LOST_AT [p]
  if !(decide (p < 64) && s.tail p) || l == 0 then .next s
  else .next (((s.advanceTo (l - 1 + msTicks (s.rd Reg.Pon.TAIL_TO2 [p]))).wr Reg.Hid.TAIL_LOST_AT [p] 0).tailForget p)

/-- Whether a message for an ONU-ID is for this port; 1,023 is broadcast. -/
def State.tailFor (s : State) (p id : Nat) : Bool :=
  s.tailSynced p && (id == 1023 || (s.flag Reg.Pon.TAIL_ID_VALID [p] && s.rd Reg.Pon.TAIL_ONU_ID [p] == id))

/-- Whether a message names this port's serial number. -/
def State.tailSn (s : State) (p vendor number : Nat) : Bool :=
  s.tailSynced p && s.rd Reg.Pon.TAIL_SN_VENDOR [p] == vendor && s.rd Reg.Pon.TAIL_SN_NUMBER [p] == number

/-- Acknowledge goes upstream (R144), unless the port is dark, silent or without its downstream (R147, R148). -/
def State.tailAck (s : State) (p : Nat) (k : CtrlKind) : State :=
  if !s.tailMaySend p then s
  else s.emit (.ctrl p { kind := .acknowledge, term := s.rd Reg.Pon.TAIL_ONU_ID [p], args := [match k with | .rangingTime => 1 | .assignOnuId => 2 | .keyControl => 3 | .changePower => 4 | .deactivate => 5 | .snDisable => 6 | .snEnable => 7 | _ => 0] } s.ext)

/-- `BURST_PROFILE` (R144, R146): the preamble the upper head asks for. -/
def execBurstProfile (p preamble : Nat) (s : State) : Out' :=
  if !s.tailSynced p then .next s else .next ((s.wr Reg.Hid.TAIL_PRE [p] preamble).tailAck p .burstProfile)

/-- `ASSIGN_ONU_ID` (R146). -/
def execAssignOnuId (p id vendor number : Nat) (s : State) : Out' :=
  if !s.tailSn p vendor number || decide (1023 ≤ id) then .next s
  else .next (((s.wr Reg.Pon.TAIL_ONU_ID [p] id).wr Reg.Pon.TAIL_ID_VALID [p] 1).tailAck p .assignOnuId)

/-- `RANGING_TIME` (R146): the equalisation delay in upstream bits. -/
def execRangingTime (p id eqd : Nat) (s : State) : Out' :=
  if !s.tailFor p id then .next s else .next ((s.wr Reg.Pon.TAIL_EQD [p] eqd).tailAck p .rangingTime)

/-- `DEACTIVATE_ONU_ID` (R144, R148): acknowledged, and the port forgets its identity at once. -/
def execDeactivateOnuId (p id : Nat) (s : State) : Out' := if !s.tailFor p id then .next s else .next ((s.tailAck p .deactivate).tailForget p)

/-- `DISABLE_SERIAL_NUMBER` (R144, R148): acknowledged; the port is silent until the matching enable, which it acknowledges once it may send again. -/
def execDisableSerialNumber (p vendor number : Nat) (enable : Bool) (s : State) : Out' :=
  if !s.tailSn p vendor number then .next s
  else if enable then .next ((s.wr Reg.Hid.TAIL_SILENT [p] 0).tailAck p .snEnable)
  else .next (((s.tailAck p .snDisable).wr Reg.Hid.TAIL_SILENT [p] 1).cutBurst p)

/-- `KEY_CONTROL` (R144): the tail port answers with Key_Report and Acknowledge. -/
def execKeyControl (p id index : Nat) (s : State) : Out' :=
  if !s.tailFor p id then .next s
  else if !s.tailMaySend p then .next s
  else .next ((s.emit (.ctrl p { kind := .keyReport, term := s.rd Reg.Pon.TAIL_ONU_ID [p], args := [index] } s.ext)).tailAck p .keyControl)

/-- `CHANGE_POWER_LEVEL` (R144): consumed and acknowledged. -/
def execChangePowerLevel (p id : Nat) (s : State) : Out' := if !s.tailFor p id then .next s else .next (s.tailAck p .changePower)

/-! ### Defects (R151, R152) -/

/-- The time since which an interval of a defect runs becomes the present one, once it has reached the interval's end. -/
def State.interval (s : State) (p i len : Nat) : State :=
  let s := s.advanceTo (s.rd Reg.Hid.DEF_AT [p, i] + len)
  s.wr Reg.Hid.DEF_AT [p, i] s.ext

/-- `PONP_LOS` (R129, R151): the level of the ball; a change of it begins a new interval of a tail port's `LOS`. -/
def execPonpLos (p : Nat) (level : Bool) (s : State) : Out' :=
  if 64 ≤ p ∨ s.flag Reg.Pon.LOS_IN [p] = level then .next s else .next ((s.wr Reg.Pon.LOS_IN [p] (bit level)).wr Reg.Hid.DEF_AT [p, 0] s.ext)

/-- The `LOS` of a tail port (R151): `PONp_LOS` high, or no downstream transitions (`still`), for 10 µs sets it; `PONp_LOS` low with transitions for 1 ms clears it. -/
def State.losInterval (s : State) (p : Nat) (still : Bool) : State :=
  let bad := s.flag Reg.Pon.LOS_IN [p] || still || !s.ponClock
  if bad = (s.rd Reg.Pon.DEFECT [p]).testBit 2 then s
  else (((s.interval p 0 (if bad then usTicks 10 else msTicks 1)).defect p 2 bad).tailSignal p)

/-- Ten intervals in a row for `UP_DEG`, above the limit to set it, at or below to clear it. -/
def State.upDeg (s : State) (p : Nat) : State :=
  let above := decide (s.rd Reg.Pon.UNC_LIM [p] * s.rd Reg.Hid.CW_INT [p] < s.rd Reg.Hid.UNC_INT [p] * 1000000)
  let on := (s.rd Reg.Pon.DEFECT [p]).testBit 1
  let s := (s.wr Reg.Hid.CW_INT [p] 0).wr Reg.Hid.UNC_INT [p] 0
  if above = on then s.wr Reg.Hid.UNC_RUN [p] 0
  else
    let n := s.rd Reg.Hid.UNC_RUN [p] + 1
    if 10 ≤ n then (s.wr Reg.Hid.UNC_RUN [p] 0).defect p 1 (!on) else s.wr Reg.Hid.UNC_RUN [p] n

/-- A ratio of corrected bits against 10^−`lim`: above it sets a clear defect, below a tenth of it clears a set one. -/
def State.ratioDefect (s : State) (p i lim bits corrected : Nat) : State :=
  if bits = 0 then s
  else if (s.rd Reg.Pon.DEFECT [p]).testBit i then (if corrected * 10 ^ (lim + 1) < bits then s.defect p i false else s)
  else if bits < corrected * 10 ^ lim then s.defect p i true
  else s

/-- `PORT_DEFECT_INTERVAL` (R151): an interval of the length the table gives has ended, and its defect sets or clears. -/
def execPortDefectInterval (p : Nat) (o : DefectObs) (s : State) : Out' :=
  if 64 ≤ p then .next s
  else
    match o with
    | .los still => if s.tail p then .next (s.losInterval p still) else .next s
    | .upDeg => if s.head p then .next ((s.interval p 1 (secTicks 1)).upDeg p) else .next s
    | .dnSd n c =>
      if s.tail p then .next ((s.interval p 2 (secTicks (if (s.rd Reg.Pon.DEFECT [p]).testBit 4 then 10 else 1))).ratioDefect p 4 (s.rd Reg.Pon.SD_LIM [p]) n c) else .next s
    | .dnSf n c =>
      if s.tail p then .next ((s.interval p 3 (msTicks (if (s.rd Reg.Pon.DEFECT [p]).testBit 5 then 1000 else 100))).ratioDefect p 5 (s.rd Reg.Pon.SF_LIM [p]) n c) else .next s

/-! ### I²C (R153) -/

/-- `I2C_GO` is written: the transaction starts. -/
def State.i2cStart (s : State) (m : Nat) : State :=
  let n := s.rd Reg.Pon.I2C_LEN [m]
  let bytes := (List.range n).map (fun i => s.rd Reg.Pon.I2C_DATA [m, i / 4] / 256 ^ (i % 4) % 256)
  let read := s.flag Reg.Pon.I2C_READ [m]
  (s.wr Reg.Pon.I2C_BUSY [m] 1).emit (.i2c m (s.rd Reg.Pon.I2C_ADDR [m]) (s.rd Reg.Pon.I2C_REG [m]) n (s.rd Reg.Pon.I2C_RATE [m]) read (if read then [] else bytes))

/-- Byte `i` of a master's data. -/
def State.i2cByte (s : State) (m i v : Nat) : State :=
  let w := s.rd Reg.Pon.I2C_DATA [m, i / 4]
  let k := 256 ^ (i % 4)
  s.wr Reg.Pon.I2C_DATA [m, i / 4] (w - w / k % 256 * k + v % 256 * k)

/-- `I2C_DONE` (R153). -/
def execI2cDone (m : Nat) (e : I2cEnd) (s : State) : Out' :=
  if !(decide (m < 8) && s.flag Reg.Pon.I2C_BUSY [m]) then .next s
  else
    let s := s.wr Reg.Pon.I2C_BUSY [m] 0
    match e with
    | .done bs =>
      if s.flag Reg.Pon.I2C_READ [m] then .next (((bs.take (s.rd Reg.Pon.I2C_LEN [m])).zipIdx).foldl (fun s x => s.i2cByte m x.2 x.1) s) else .next s
    | .nack => .next (s.wr Reg.Pon.I2C_NACK [m] 1)
    | .stuck => .next (s.wr Reg.Pon.I2C_STUCK [m] 1)

end Sys2Proof.Machine
end

