-- ==== Sys2Proof/Machine/Wings.lean ====
section
/-! DEFINITION. The wings (R206–R209), rehearsal slices as they start and end (R362, R478–R485), and the swap that takes a serving prompter
out of service for a test (R481). -/

namespace Sys2Proof.Machine

/-! ### The wings (R206–R209) -/

/-- The pairs of the wings that neither serve a tree nor are retired, lowest core first (R206): cores 64–71, and prompters that joined them (R208). -/
def State.freeWings (s : State) : List Nat :=
  (List.range 64).filter (fun n => s.rd Reg.Hid.JOINED [n] == 1) ++
    ((List.range 8).filter (fun m => !(s.rd Reg.Cue.WINGS_BUSY []).testBit m && !(s.rd Reg.Cue.WINGS_RETIRED []).testBit m)).map (64 + ·)

/-- Sets or clears bit `m` of a field. -/
def State.setBit (s : State) (f : Field) (ix : List Nat) (m : Nat) (v : Bool) : State :=
  let x := s.rd f ix
  if x.testBit m = v then s else s.wr f ix (if v then x + 2 ^ m else x - 2 ^ m)

/-- A pair of the wings is taken, or is free again. -/
def State.useWing (s : State) (core : Nat) (busy : Bool) : State :=
  if 64 ≤ core then s.setBit Reg.Cue.WINGS_BUSY [] (core - 64) busy else s.wr Reg.Hid.JOINED [core] (if busy then 2 else 1)

/-- Sets or clears the retired bit of a pair (R208). -/
def State.setRetired (s : State) (core : Nat) (v : Bool) : State :=
  if 64 ≤ core then s.setBit Reg.Cue.WINGS_RETIRED [] (core - 64) v
  else if core < 32 then s.setBit Reg.Cue.RETIRED_LO [] core v
  else s.setBit Reg.Cue.RETIRED_HI [] (core - 32) v

/-- Whether a pair is retired. -/
def State.isRetired (s : State) (core : Nat) : Bool :=
  if 64 ≤ core then (s.rd Reg.Cue.WINGS_RETIRED []).testBit (core - 64)
  else if core < 32 then (s.rd Reg.Cue.RETIRED_LO []).testBit core
  else (s.rd Reg.Cue.RETIRED_HI []).testBit (core - 32)

/-- Marks a pair retired (R208). -/
def State.retire (s : State) (core : Nat) : State :=
  let s := s.setRetired core true
  if 64 ≤ core then s.setBit Reg.Cue.WINGS_BUSY [] (core - 64) false else s.wr Reg.Hid.JOINED [core] 0

/-- A tree takes a pair of the wings, to be entered after `n` further boundaries (R207, R209). -/
def State.giveWing (s : State) (z core n : Nat) : State :=
  ((s.useWing core true).wr Reg.Hid.SPARE_CORE [z] (core + 1)).wr Reg.Hid.SPARE_STEP [z] n

/-- A tree takes the lowest-numbered free pair of the wings. -/
def State.takeWings (s : State) (z n : Nat) : Option State :=
  match s.freeWings with
  | m :: _ => some (s.giveWing z m n)
  | [] => none

/-! ### Slices (R478, R479, R484, R485) -/

/-- The block and instance that a target is shown as in `E_BLOCK` and `E_INST`; a buffer shows its pool. -/
def targetPlace : SliceTarget → Nat × Nat
  | .prompter c => (0x02, c)
  | .bank b => (0x04, b)
  | .lane l => (0x08, l)
  | .buffer p _ => (0x07, p)
  | .receiver z => (0x01, z)
  | .dark z => (0x01, z)

/-- A coverage cycle begins (R485). -/
def State.startCycle (s : State) : State :=
  let s := s.clearRange (Reg.Hid.E_DONE.addr [0]) (Reg.Hid.E_DONE.addr [1024])
  (s.wr Reg.Reh.CYCLE_START [] s.now).wr Reg.Reh.CYCLE_LEFT [] (s.rd Reg.Hid.E_COUNT [0] - (s.listed Reg.Hid.E_GONE []).length)

/-- An entry has run to `OK` or to a failure (R485); the last one completes the cycle. -/
def State.entryDone (s : State) (e : Nat) : State :=
  if s.flag Reg.Hid.E_DONE [e] || s.rd Reg.Reh.CYCLE_LEFT [] == 0 then s
  else
    let n := s.rd Reg.Reh.CYCLE_LEFT [] - 1
    let s := (s.wr Reg.Hid.E_DONE [e] 1).wr Reg.Reh.CYCLE_LEFT [] n
    if n = 0 then ((s.addTo Reg.Reh.CYCLES_DONE [] 1).wr Reg.Reh.CYCLE_LATE [] 0).startCycle else s

/-- A slice is over with an outcome (R479): it leaves the list, and its entry shows the outcome. -/
def State.sliceOver (s : State) (sl : Slice) (code : Nat) : State :=
  let s := { s with reh := { s.reh with slices := s.reh.slices.filter (fun x => x.entry != sl.entry) } }
  let s := (s.wr Reg.Reh.E_CODE [sl.entry] code).wr Reg.Reh.E_LAST [sl.entry] s.now
  if code = 3 then s.addTo Reg.Reh.SLICES_INCOMPLETE [] 1
  else (s.addTo (if code = 0 then Reg.Reh.SLICES_OK else Reg.Reh.SLICES_FAIL) [] 1).entryDone sl.entry

/-! ### Testing a serving prompter (R481, R483) -/

/-- Whether a slice runs on a prompter pair. -/
def State.underTest (s : State) (core : Nat) : Bool := s.reh.slices.any (fun x => x.target == .prompter core)

/-- The tree whose serving pair is out of service for a test with this pair, if any. -/
def State.testedTree (s : State) (core : Nat) : Option Nat :=
  (List.range 64).find? (fun z => s.rd Reg.Hid.TEST_STEP [z] != 0 && s.rd Reg.Hid.TEST_PAIR [z] == core + 1)

/-- The context of a pair is dropped; its tickets stay behind (R48). -/
def State.dropCore (s : State) (core : Nat) : State :=
  let s := s.orphanTickets ⟨core, 0⟩
  { s with cpu := { s.cpu with ctxs := s.cpu.ctxs.del (core * 16) } }

/-- The wings pair of a test is freed unless another tree has been promised it (R483). -/
def State.freeTestWing (s : State) (core : Nat) : State :=
  if (List.range 64).any (fun z => s.rd Reg.Hid.SPARE_CORE [z] == core + 1) then s else s.useWing core false

/-- The test of a tree's pair is over as far as service goes. -/
def State.clearTest (s : State) (z : Nat) : State :=
  (((s.wr Reg.Hid.TEST_STEP [z] 0).wr Reg.Hid.TEST_PAIR [z] 0).wr Reg.Hid.TEST_WING [z] 0).wr Reg.Hid.TEST_ENTRY [z] 0

/-- A test that waited for its boundary does not begin (R480): its slice is skipped. -/
def State.skipTest (s : State) (z : Nat) : State := (s.clearTest z).addTo Reg.Reh.SKIPPED [] 1

/-- The slice on the tested pair of tree z, if one runs, yields (R483). -/
def State.yieldTest (s : State) (z : Nat) : State :=
  match s.reh.slices.find? (fun x => x.target == .prompter (s.rd Reg.Hid.TEST_PAIR [z] - 1)) with
  | some sl => s.sliceOver sl 3
  | none => s

/-- Port z is lit: a dark rehearsal of it yields, and its outcome is `INCOMPLETE` (R483, R486). -/
def State.yieldDark (s : State) (z : Nat) : State :=
  let s := match s.reh.slices.find? (fun x => x.target == .dark z) with
    | some sl => s.sliceOver sl 3
    | none => s
  if s.flag Reg.Reh.DARK_BUSY [z] then (s.wr Reg.Reh.DARK_BUSY [z] 0).wr Reg.Reh.DARK_CODE [z] 3 else s

/-- A mismatch needs a spare and only a wings pair in a prompter test is left (R483): its slice yields, the tested pair returns at the next
boundary of its own tree, and the failed tree gets the wings pair. -/
def State.seizeWing (s : State) (z n : Nat) : Option State :=
  match (List.range 64).find? (fun y => s.rd Reg.Hid.TEST_STEP [y] != 0 && s.rd Reg.Hid.TEST_STEP [y] != 3) with
  | none => none
  | some y =>
    let w := s.rd Reg.Hid.TEST_WING [y] - 1
    let began := s.rd Reg.Hid.TEST_STEP [y] == 2
    let s := s.yieldTest y
    let s := if began then s.wr Reg.Hid.TEST_STEP [y] 3 else s.skipTest y
    some (s.giveWing z w n)

end Sys2Proof.Machine
end

