-- ==== Sys2Proof/Machine/Frame.lean ====
section
/-! DEFINITION. What the downstream frame boundary of a head-role port does (R25, R54, R131, R183, R184, R190, R204–R211, R251, R258) and the lockstep
pairs with their spares (R53–R56, R207–R209). -/

namespace Sys2Proof.Machine

/-! ### The grid (R531) -/

/-- The boundary that ends the present frame of a port, or its first one after training. -/
def State.nextBoundary (s : State) (z : Nat) : Nat :=
  nextGrid (if s.flag Reg.Hid.F_RUN [z] then s.rd Reg.Hid.F_EXT [z] else s.rd Reg.Hid.TRAIN_UNTIL [z]) (s.cycleTicks z)

/-! ### A lockstep mismatch (R207, R209) -/

/-- `LOCKSTEP_MISMATCH` (R207, R209): the pair serving tree z is retired. -/
def execLockstepMismatch (z : Nat) (s : State) : Out' :=
  let core := s.server z
  if !decide (z < 64) || decide (72 ≤ core) || s.flag Reg.Cue.IDLE_TREE [z] || decide (s.rd Reg.Hid.SPARE_STEP [z] ≠ 0) then .next s
  else
    let cycle := match s.ctx? ⟨core, 0⟩ with | some c => c.cycles | none => 0
    let s := s.dropCore core
    let s := (s.freezeTrace core 3).raise 0x86 (treeObj z) [core, cycle]
    let s := (s.addTo Reg.Cue.LOCKSTEP_RETIRES [z] 1).retire core
    -- during a test of the tree's own pair (R481), that pair comes back in the place of a failed wings pair; one not yet swapped out gives its wings pair up
    let step := s.rd Reg.Hid.TEST_STEP [z]
    let pair := s.rd Reg.Hid.TEST_PAIR [z]
    let wing := s.rd Reg.Hid.TEST_WING [z] - 1
    let s := if step = 0 then s else if step = 1 then (s.skipTest z).freeTestWing wing else (s.yieldTest z).clearTest z
    if 2 ≤ step then .next ((s.wr Reg.Hid.SPARE_CORE [z] pair).wr Reg.Hid.SPARE_STEP [z] 2)
    else
    match (s.takeWings z 2).orElse (fun _ => s.seizeWing z 2) with
    | some s => .next s
    | none => .next ((((s.raise 0x88 (treeObj z) []).wr Reg.Cue.CORE [z] 0x7F).wr Reg.Cue.SPARE [z] 0).setPen z 1 true)

/-- Word 0 and word 5 of a context's exception frame at its start (R49). -/
def State.startFrame (s : State) (cx : Cx) (vector : Nat) : State := (s.setDataWord cx 0 (BitVec.ofNat 40 vector)).setDataWord cx 5 0

/-- The core serving a tree gets the tree's image: data image and exception frame (R49, R55). -/
def State.placeImage (s : State) (z : Nat) (img : Image) : State :=
  ((s.loadData ⟨s.server z, 0⟩ img.data).startFrame ⟨s.server z, 0⟩ img.vector0).wr Reg.Hid.PR_COLD [z] 1

/-- The words of a tree's state window or checkpoint. -/
def windowOf (st : Store 40) (z : Nat) : Store 40 := st.filter (fun c => c.1 / 2 ^ 16 == z)

/-- One store's window of a tree replaced by another's. -/
def copyWindow (dst src : Store 40) (z : Nat) : Store 40 :=
  (windowOf src z).foldl (fun st c => st.set c.1 c.2) (dst.clear (z * 2 ^ 16) ((z + 1) * 2 ^ 16))

/-- What a boundary does for a spare on its way to a tree (R207 steps 2 and 3, R209); a pair that serves the tree again withdraws the penalty (R246). -/
def State.spareBoundary (s : State) (z : Nat) : State :=
  let n := s.rd Reg.Hid.SPARE_STEP [z]
  if n = 2 then (s.wr Reg.Hid.SPARE_STEP [z] 1).wr Reg.Cue.LOADING [z] 1
  else if n = 1 then
    let m := s.rd Reg.Hid.SPARE_CORE [z] - 1
    let s := (((((s.wr Reg.Hid.SPARE_STEP [z] 0).wr Reg.Hid.SPARE_CORE [z] 0).wr Reg.Cue.LOADING [z] 0).wr Reg.Cue.CORE [z] m).wr Reg.Cue.SPARE [z] (bit (m != z))).setPen z 1 false
    let s := { s with cpu := { s.cpu with win := copyWindow s.cpu.win s.cpu.ckpt z } }
    match s.cpu.images.get? z with
    | some img => s.placeImage z img
    | none => s
  else if s.server z = 0x7F then
    match s.takeWings z 1 with
    | some s => s.wr Reg.Cue.LOADING [z] 1
    | none => s
  else s

/-- Another pair takes the tree over at the boundary, entered cold with the window as it stands (R481). -/
def State.swapPair (s : State) (z core : Nat) (spare : Bool) : State :=
  let s := (s.dropCore (s.server z)).wr Reg.Cue.CORE [z] core
  let s := s.wr Reg.Cue.SPARE [z] (bit spare)
  match s.cpu.images.get? z with
  | some img => s.placeImage z img
  | none => s

/-- What a boundary does for the test of a serving pair (R480, R481): the wings pair is entered and the slice starts, or the tested pair returns once no slice runs on
it. A test for which rehearsal has no room left, or which `REH_EN` no longer allows, does not begin. -/
def State.testBoundary (s : State) (z : Nat) : State :=
  let n := s.rd Reg.Hid.TEST_STEP [z]
  let pair := s.rd Reg.Hid.TEST_PAIR [z] - 1
  let wing := s.rd Reg.Hid.TEST_WING [z] - 1
  if n = 1 then
    if !s.flag Reg.Reh.REH_EN [] || decide (8 ≤ s.reh.slices.length) then (s.skipTest z).freeTestWing wing
    else
      let s := (s.swapPair z wing true).wr Reg.Hid.TEST_STEP [z] 2
      { s with reh := { s.reh with slices := s.reh.slices ++
        [Slice.mk (s.rd Reg.Hid.TEST_ENTRY [z] - 1) (.prompter pair) (s.ext + usTicks (s.rd Reg.Reh.SLICE_US []))] } }
  else if n = 3 || (n = 2 && !s.underTest pair) then ((s.swapPair z pair (pair != z)).clearTest z).freeTestWing wing
  else s

/-! ### The end of a frame (R25, R51, R151, R254, R259) -/

/-- A run that has not yielded is abandoned (R25); a frame without a fault ends a run of faults (R51). -/
def State.endRun (s : State) (z : Nat) : State :=
  let core := s.server z
  let s := match s.ctx? ⟨core, 0⟩ with
    | some c =>
      if core < 72 ∧ c.block ≠ Block.idle then
        (((s.addTo Reg.Cue.RUNS_ABANDONED [z] 1).raise 0x80 (treeObj z) []).wr Reg.Hid.PR_FLAG2 [z] 1).putCtx ⟨core, 0⟩ { c with block := .idle }
      else s
    | none => s
  let s := if s.flag Reg.Hid.PR_FAULTED [z] then s else s.wr Reg.Hid.PR_STREAK [z] 0
  s.wr Reg.Hid.PR_FAULTED [z] 0

/-- No delimiter in a frame with grants: the defect of R151 and the penalty of a lighting unit (R246), held off while it verifies a take-over (R259). -/
def State.judgeTerminals (s : State) (z : Nat) : State :=
  let s := if s.flag Reg.Hid.W_FOUND [z] then (s.wr Reg.Hid.NT_RUN [z] 0).defect z 0 false
    else if s.flag Reg.Hid.W_GRANT [z] then s.bump Reg.Hid.NT_RUN [z] else s
  if s.rd Reg.Hid.NT_RUN [z] ≠ 0 ∧ s.rd Reg.Twn.N_MISS [] ≤ s.rd Reg.Hid.NT_RUN [z] then
    let s := s.defect z 0 true
    if s.flag Reg.Pon.LIT [z] && !s.flag Reg.Twn.VERIFYING [z] then s.setPen z 2 true else s
  else s

/-- The silent frames of a dark tree while the twin claim is lost (R254). -/
def State.judgeSilence (s : State) (z : Nat) : State :=
  if !(s.understudy z && s.flag Reg.Twn.TWIN_LOST []) then s
  else if s.flag Reg.Hid.W_FOUND [z] || s.flag Reg.Hid.W_ENERGY [z] then s.wr Reg.Twn.SILENT_CNT [z] 0
  else if s.rd Reg.Hid.LOST_AT [0] - 1 + s.rd Reg.Cue.MAP_LEAD [z] * s.cycleTicks z ≤ s.rd Reg.Hid.F_EXT [z] then s.bump Reg.Twn.SILENT_CNT [z]
  else s

/-- What the frame that ends leaves to be judged. -/
def State.endFrame (s : State) (z : Nat) : State :=
  let s := (s.endRun z).judgeTerminals z
  let s := if s.flag Reg.Twn.VERIFYING [z] && s.flag Reg.Hid.W_OWN [z] then s.bump Reg.Hid.VERIFY_N [z] else s
  let s := (s.judgeSilence z).judgeEvidence z
  s.clearFields [Reg.Hid.W_GRANT, Reg.Hid.W_FOUND, Reg.Hid.W_OWN, Reg.Hid.W_ENERGY] [z]

/-! ### The footlight stage (R131, R132, R251, R258) -/

/-- The moment at which a lit port's boundary leaves its ball: `b` less the applied shift (R258). -/
def State.ballTime (s : State) (z b : Nat) : Nat := (Int.ofNat b - (signed 32 (s.rd Reg.Twn.SHIFT [z])).fdiv 8).toNat

/-- The footlight output of a port is set at boundary `b`; both channels of a bonded pair leave their balls in the same tick (R125). A dark
rehearsal of a port that is lit gives way (R483). -/
def State.setLit (s : State) (z b : Nat) (v : Bool) : State :=
  let s := if v then (if s.flag Reg.Pon.BOND [z] then (s.yieldDark z).yieldDark (z + 1) else s.yieldDark z) else s
  let s := (s.wr Reg.Pon.LIT [z] (bit v)).edge .txen z (bit v) (s.ballTime z b)
  let s := if v then s.wr Reg.Hid.LIT_SINCE [z] b else s
  if s.flag Reg.Pon.BOND [z] then (s.wr Reg.Pon.LIT [z + 1] (bit v)).edge .txen (z + 1) (bit v) (s.ballTime z b) else s

/-- The decision of boundary `b`, and whether the tree is newly lit or newly dark. `plain` is what `takeOver` asks of a take-over (R259). -/
def State.footlights (s : State) (z b : Nat) (plain : Bool) : State :=
  let lit := s.flag Reg.Pon.LIT [z]
  if s.flag Reg.Hid.MFG [0] then (if lit then s.setLit z b false else s)
  else if s.pairing = 2 then
    let (want, s) := s.footlight z b
    if want = lit then s
    else if want then ((s.takeOver z plain).setLit z b true).resumeCounts z
    else (s.setLit z b false).handOver z
  else
    let want := s.flag Reg.Pon.LIGHT [z] && !s.flag Reg.Pon.TRAINING [z]
    if want = lit then s else s.setLit z b want

/-! ### The sheet goes out (R79, R204, R205, R211) -/

/-- P of R204 for a start in frame k's sheet, before any shift. -/
def State.sheetP (s : State) (z k start : Nat) : Nat :=
  s.frameStart z k + (1 + s.rd Reg.Cue.MAP_LEAD [z]) * s.cycleTicks z + s.tResp z + (s.rate z).ticks start - (s.rate z).dt

/-- The grant of one burst in a GATE (R205): the MPCP time of P − D_t − H·T_q − r_t, its size + H, the force-report flag, its channel; H is that of the profile it is
sent with. -/
def State.gateGrant (s : State) (z k : Nat) (e : Entry) : List Nat :=
  let r := s.rate z
  let h := r.h e.long
  [mpcpTime (s.sheetP z k e.start - r.dt - r.ticks h - s.rd Reg.Rng.EQD_RTT [z, e.term]), e.size + h, bit e.report, e.chan]

/-- The grants of a merged sheet to one LLID, in order of start (R205). -/
def State.grantsTo (s : State) (z : Nat) (es : List Entry) (llid : Nat) : List Entry :=
  sortBy (fun a b => decide (a.start ≤ b.start)) (es.filter (fun e => e.kind == .grant && s.rd Reg.Cue.ALLOC_ID [z, e.alloc] == llid))

/-- Grants to one LLID, four to a message (R205). -/
def gates (llid : Nat) : List (List Nat) → Nat → List Ctrl
  | [], _ => []
  | _, 0 => []
  | l, n + 1 => { kind := .gate, term := llid, args := (l.take 4).flatten } :: gates llid (l.drop 4) n

/-- The MPCP messages of a merged sheet (R205). The discovery GATE opens its window so that the nearest terminal's response begins at the window's start (R160), and
advertises the window's length and the long profile's sync pattern length (R133). -/
def State.gateMessages (s : State) (z k : Nat) (es : List Entry) : List Ctrl :=
  let llids := (es.filter (fun e => e.kind == .grant)).map (fun e => s.rd Reg.Cue.ALLOC_ID [z, e.alloc])
  let normal := llids.eraseDups.map (fun l => gates l ((s.grantsTo z es l).map (s.gateGrant z k)) 1024)
  let disc := (es.filter (fun e => e.kind == .disc && !e.carried)).map (fun e =>
    ({ kind := .discoveryGate, term := 1023, args := [mpcpTime (s.sheetP z k e.start + (s.rate z).dt - rLo (s.rd Reg.Rng.L_MIN [z])), e.size + e.left, (s.rate z).long] } : Ctrl))
  disc ++ normal.flatten

/-- A ranging grant has gone out: its terminal is being ranged (R157). -/
def State.rangeSent (s : State) (z t : Nat) : State :=
  let st := s.term z t
  if st = stSN_KNOWN ∨ st = stLOST then
    let n := s.rd Reg.Rng.RANGE_TRY [z, t]
    ((s.wr Reg.Hid.RNG_PREV [z, t] st).enter z t stRANGING).setTerm Reg.Rng.RANGE_TRY z t ((n + 1) % 16)
  else s

/-- The P of each entry of a merged sheet: one per burst, that of its first grant (R204); a window's is its start. -/
def State.entryPs (s : State) (z k : Nat) : Nat → List Entry → List (Entry × Nat)
  | _, [] => []
  | prev, e :: es =>
    let p := match e.kind with | .grant => (if e.joined then prev else s.sheetP z k e.start) | _ => s.sheetP z k e.start + (s.rate z).dt
    (e, p) :: s.entryPs z k p es

/-- One transmitted entry: its grant record with its burst's P, the units granted, the ranging it starts. -/
def State.sendEntry (s : State) (z k : Nat) (e : Entry) (p : Nat) : State :=
  let s := s.pbGrant z k e p
  match e.kind with
  | .grant => s.modDig z e.alloc (fun d => { d with granted := d.granted + e.size })
  | .rng => if e.carried then s else s.rangeSent z e.term
  | _ => s

/-- The control messages that go out in the first lit frame, with every 8,000th frame from it on, or after a change of what D_pre is made of (R133, R144, R159), then those that wait (R144, R157); a power
command makes its terminal's preset invalid (R138), and a drift correction's wait for its Acknowledge begins (R168). -/
def State.sendControl (s : State) (z b : Nat) (first : Bool) : State :=
  let s := if s.isEpon z then s
    else
      let bits := (s.rate z).tickBits (s.dPre z)
      let s := if (b - s.rd Reg.Hid.LIT_SINCE [z]) / s.cycleTicks z % 8000 == 0 then s.emit (.ctrl z { kind := .burstProfile, term := 1023, args := [(s.rate z).long, (s.rate z).short] } b) else s
      if first || s.flag Reg.Hid.DPRE_DUE [z] then
        (s.wr Reg.Hid.DPRE_DUE [z] 0).emit (.ctrl z { kind := .rangingTime, term := 1023, args := [bits, 0] } b)
      else s
  let s := (s.tree z).ctrl.foldl (fun s m =>
    let s := if m.kind = .changePower then s.clearPreset z m.term else if m.kind = .rangingTime ∧ m.args.getD 1 0 = 1 then s.correctionSent z m.term b else s
    if m.term < 1020 ∧ !s.isEpon z then s.checked z m.term (.sent m b) else s.emit (.ctrl z m b)) s
  s.modTree z (fun tr => { tr with ctrl := [] })

/-- The frames whose windows have all passed, from the first one not yet summarised, with the delimiters found (R246, R256). -/
def State.summaries (s : State) (z k : Nat) : List (Nat × Nat) :=
  let tr := s.tree z
  let lo := max (s.rd Reg.Hid.SUM_NEXT [z]) (k - 8)
  let done := ((List.range (k - lo)).map (· + lo)).takeWhile (fun j => tr.wins.all (fun w => w.frame != j))
  done.map (fun j => (j, match tr.seen.find? (fun x => x.1 == j) with | some x => x.2 | none => 0))

/-- The sheet message to the twin, as words: frame, shift, summaries, entries (R255, R256); frames by their numbers on the shared grid (log 102). -/
def State.tellTwin (s : State) (z k : Nat) (es : List Entry) : State :=
  let sums := s.summaries z k
  let words := es.map (fun e => [e.kind.code, e.alloc, e.term, e.start, e.size, e.ovh, bit e.long, bit e.report, bit e.ploam, bit e.joined, bit e.carried, e.chan, e.left])
  let s := s.wr Reg.Hid.SUM_NEXT [z] (max (s.rd Reg.Hid.SUM_NEXT [z]) (k - 8) + sums.length)
  s.emit (.twin 3 ([z, s.gridOf z k, s.rd Reg.Twn.SHIFT [z], sums.length] ++ (sums.map (fun x => [s.gridOf z x.1, x.2])).flatten ++ words.flatten))

/-- The superframe counter of the frame that begins at `b` (R531). -/
def superframeAt (b : Nat) : Nat := b / 777600 % 2 ^ 51

/-- The sheet of frame k goes out with the frame that begins at `b`, in ITU modes with its superframe counter (R79, R130, R185, R204, R205, R211, R258 step 3). -/
def State.transmit (s : State) (z k b : Nat) (es : List Entry) (alone wasLit : Bool) : State :=
  let s := if wasLit then s else s.arm z k true es
  let s := if s.isEpon z then (s.gateMessages z k es).foldl (fun s m => s.emit (.ctrl z m b)) s else s.emit (.map z k (superframeAt b) es)
  let s := (s.entryPs z k 0 es).foldl (fun s x => s.sendEntry z k x.1 x.2) s
  let s := (s.wr Reg.Cue.ENTRIES [z] es.length).completeSheet z k (sheetWord es alone)
  if s.pairing = 2 then (s.tellTwin z k es).mirrorCounts z else s

/-- The fixed sheet of the frame that ends: a lit tree transmits it; a shadow keeps it for the twin's; in a dark frame of another mode nobody hears it. -/
def State.releaseSheet (s : State) (z b : Nat) (wasLit : Bool) : State :=
  let k := s.rd Reg.Cue.FRAME [z]
  match (s.tree z).fixed with
  | none => s
  | some (es, alone) =>
    if s.flag Reg.Pon.LIT [z] then s.transmit z k b es alone (wasLit || s.pairing != 2)
    else
      let s := s.modTree z (fun tr => { tr with wins := tr.wins.filter (fun w => !(w.own && w.frame == k)) })
      if s.understudy z then s.modTree z (fun tr => { tr with shadow := tr.shadow ++ [(k, es, alone)] })
      else s.completeSheet z k (sheetWord es alone)

/-! ### The new frame (R25, R54, R183, R184, R190, R210) -/

/-- The digest word of an allocation in use (R190). -/
def digestWord (d : Dig) : Nat :=
  packBits [(24, d.backlog), (8, d.idle), (4, if d.fresh then 0 else d.age), (1, bit d.fresh), (1, bit d.missed), (1, bit d.invalid), (1, 1)]

/-- The allocations of a tree that are in use. -/
def State.usedAllocs (s : State) (z : Nat) : List Nat := (s.listed Reg.Cue.EN [z]).filter (s.allocUsed z)

/-- The snapshot of the report digest (R190). -/
def State.snapshot (s : State) (z : Nat) : State :=
  let s := s.clearRange (Reg.Cue.DIGEST.addr [z, 0]) (Reg.Cue.DIGEST.addr [z, 4096])
  let s := s.clearRange (Reg.Cue.FRESH.addr [z, 0]) (Reg.Cue.FRESH.addr [z, 128])
  let s := s.clearRange (Reg.Cue.BUSY.addr [z, 0]) (Reg.Cue.BUSY.addr [z, 128])
  let s := (s.usedAllocs z).foldl (fun s a =>
    let d := ((s.tree z).dig.get? a).getD emptyDig
    let s := s.wr Reg.Cue.DIGEST [z, a] (digestWord d)
    let s := if d.fresh then s.wr Reg.Cue.FRESH [z, a / 32] (s.rd Reg.Cue.FRESH [z, a / 32] ||| 2 ^ (a % 32)) else s
    if d.backlog ≠ 0 then s.wr Reg.Cue.BUSY [z, a / 32] (s.rd Reg.Cue.BUSY [z, a / 32] ||| 2 ^ (a % 32)) else s) s
  s.modTree z (fun tr => { tr with dig := tr.dig.map (fun c => (c.1, { c.2 with fresh := false, age := min 15 (c.2.age + 1) })) })

/-- The digest records of a boundary that is due for them (R211): every 8,000th frame, in EPON modes the first cycle boundary after each second. -/
def State.digestRecords (s : State) (z b : Nat) : State :=
  let due := if s.isEpon z then decide (b / secTicks 1 ≠ s.rd Reg.Hid.DIG_AT [z] / secTicks 1) else s.rd Reg.Cue.FRAME [z] % 8000 == 0
  if !due then s
  else
    let late := min 65535 (s.rd Reg.Hid.LATE_INT [z])
    let s := (s.usedAllocs z).foldl (fun s a => s.pbDigest z a (((s.tree z).dig.get? a).getD emptyDig) late) s
    let s := (s.wr Reg.Hid.LATE_INT [z] 0).wr Reg.Hid.DIG_AT [z] b
    s.modTree z (fun tr => { tr with dig := tr.dig.map (fun c => (c.1, { c.2 with reports := 0, granted := 0, received := 0, nmissed := 0 })) })

/-- An image that waits for the boundary takes over (R99, R210): state-window words past its initial contents keep what they hold. -/
def State.installImage (s : State) (z : Nat) : State :=
  match s.cpu.nextImages.get? z with
  | none => s
  | some img =>
    let s := { s with cpu := { s.cpu with
      images := s.cpu.images.put z img
      nextImages := s.cpu.nextImages.del z
      win := s.cpu.win.fill (z * 2 ^ 16) img.state } }
    let s := (((s.wr Reg.Cue.LOADED [z] 1).wr Reg.Cue.DECLARED [z] img.cycles).wr Reg.Cue.HALTED [z] 0).wr Reg.Hid.PR_STREAK [z] 0
    if s.server z < 72 then s.placeImage z img else s

/-- The flags of `w5` (R25). -/
def State.entryFlags (s : State) (z : Nat) : Nat :=
  s.rd Reg.Hid.PR_COLD [z] + 2 * bit (s.understudy z) + 4 * s.rd Reg.Hid.PR_FLAG2 [z]

/-- A context about to execute the first instruction of its image: kind, tenant, registers, image, data words, run limit. -/
def newCtx (kind : CtxKind) (tenant : Nat) (regs : Store 40) (img : Image) (dwords limit : Nat) : Ctx :=
  { kind := kind, tenant := tenant, regs := regs, pc := img.entry, icount := img.icount, dwords := dwords, cycles := 0, limit := limit, block := .none,
    order := false, refused := [], ended := none, kill := none, job := none, res0 := 0, res1 := 0, segs := [], code := img.insts }

/-- The prompter of the tree is entered for the new frame, if it has a run: 9,600 ticks after the boundary (R25, R51, R184, R207, R209, R210). -/
def State.enterRun (s : State) (z : Nat) : State :=
  let core := s.server z
  match s.cpu.images.get? z with
  | none => s
  | some img =>
    if s.flag Reg.Cue.HALTED [z] || s.flag Reg.Cue.LOADING [z] || decide (s.rd Reg.Hid.SPARE_STEP [z] ≠ 0) || decide (72 ≤ core) then s
    else
      let regs := Store.fill (w := 40) [] 1 ([s.rd Reg.Cue.FRAME [z], s.rd Reg.Cue.F_START [z], s.rd Reg.Cue.DEADLINE [z], z + 64 * s.env.unit,
        s.entryFlags z].map (BitVec.ofNat 40))
      let c : Ctx := newCtx (.prompter z) 0 regs img 32768 0
      let s := s.advanceTo (s.rd Reg.Hid.F_EXT [z] + 9600)
      (((s.putCtx ⟨core, 0⟩ c).wr Reg.Hid.PR_COLD [z] 0).wr Reg.Hid.PR_FLAG2 [z] 0).trace core 3 0 img.entry 0

/-- The new frame begins at `b` (R183, R184, R190); its prompter is not entered yet. -/
def State.beginFrame (s : State) (z b : Nat) : State :=
  let k := if s.flag Reg.Hid.F_RUN [z] then (s.rd Reg.Cue.FRAME [z] + 1) % 2 ^ 40 else 0
  let n := s.cycleN z
  let lead := s.rd Reg.Cue.SEAL_LEAD [z]
  let d := b + 8 * sealCycles n lead
  let s := ((s.wr Reg.Hid.F_RUN [z] 1).wr Reg.Hid.F_EXT [z] b).wr Reg.Hid.D_EXT [z] d
  let s := (((s.wr Reg.Cue.FRAME [z] k).wr Reg.Cue.F_START [z] b).wr Reg.Cue.DEADLINE [z] d).wr Reg.Cue.BUDGET [z] (budgetOf n lead)
  let s := s.modTree z (fun tr => { tr with
    sheet := []
    sealed := false
    late := false
    fixed := none
    ticketPrev := tr.ticketNow
    ticketNow := some (k, none)
    standing := tr.standing.filter (fun t => t.gone.isNone)
    carried := tr.carried.filter (fun c => decide (k ≤ c.frame)) })
  let s := (s.digestRecords z b).snapshot z
  let s := (s.spareBoundary z).testBoundary z
  let s := if s.rd Reg.Hid.SPARE_STEP [z] ≠ 0 ∨ s.server z = 0x7F then s else { s with cpu := { s.cpu with ckpt := copyWindow s.cpu.ckpt s.cpu.win z } }
  s.installImage z

end Sys2Proof.Machine
end

