-- ==== Sys2Proof/Machine/Images.lean ====
section
/-! DEFINITION. The checks of a signed image (R58–R61, R511, R533). -/

namespace Sys2Proof.Machine

/-- The length an image's counts fix (R533). -/
def imageLen (i : Image) : Nat := 320 + 5 * (i.icount + i.dcount + i.scount)

/-- The first 96 header bytes, which the signature covers (R60). -/
def imageSigned (i : Image) : List Nat :=
  leBytes 4 i.magic ++ leBytes 2 i.format ++ [i.kind, i.keysel, i.tenant, i.flags, i.stepping, 0] ++ leBytes 4 i.version ++ leBytes 4 i.icount ++
    leBytes 4 i.dcount ++ leBytes 4 i.scount ++ leBytes 4 i.entry ++ leBytes 4 i.vector0 ++ leBytes 4 i.cycles ++ leBytes 2 i.tickets ++
    List.replicate 6 0 ++ beBytes 48 i.digest

/-- `n` words from word `o` of a body on; a buffer that ends before them reads as zeros there. -/
def bodyWords (b : List Word) (o n : Nat) : List Word :=
  let ws := (b.drop o).take n
  ws ++ List.replicate (n - ws.length) 0

/-- The image with its body cut as its counts say (R60, R533): the instructions, then the data image, then the state-window contents. -/
def countedImage (i : Image) : Image :=
  let b := i.insts ++ i.data ++ i.state
  { i with
    insts := bodyWords b 0 i.icount
    data := bodyWords b i.icount i.dcount
    state := bodyWords b (i.icount + i.dcount) i.scount }

/-- The counted body, five bytes to a word, least significant first (R60, R533). -/
def imageBody (i : Image) : List Nat :=
  ((bodyWords (i.insts ++ i.data ++ i.state) 0 (i.icount + i.dcount + i.scount)).map (fun w => leBytes 5 w.toNat)).flatten

/-- An operator key's 96 bytes as a number (R32). -/
def State.opKey (s : State) (k : Nat) : Nat := (List.range 24).foldl (fun a j => a * 2 ^ 32 + s.rd Reg.Aut.OPKEY [k, j]) 0

/-- The life-cycle state (R472). -/
def State.lifecycle (s : State) : Nat := s.rd Reg.Reh.LC_STATE []

/-- The first check of R61: the header's form, and the length where one came with the image; a flash slot's body ends within its 16 MiB (R509, R533). -/
def imageFormOk (i : Image) (kind : Nat) (len : Option Nat) : Bool :=
  i.magic == 0x4E545245 && i.format == 1 && i.reserved == 0 && decide (i.flags ≤ 1) && i.kind == kind && decide (i.stepping ≤ 0xB0) &&
    (decide (i.keysel ≤ 8) || i.keysel == 0xFF) && (kind == 3 || i.tenant == 0) && (i.keysel == 0 || i.pubkey == 0) &&
    (match len with | some n => n == imageLen i | none => decide (imageLen i ≤ 2 ^ 24))

/-- The second check of R61: the counts and the entry fit the target's memories (R34–R36). -/
def imageFits (i : Image) : Bool :=
  decide (i.entry < i.icount) && decide (i.dcount ≤ 32768) &&
    (if i.kind = 2 then decide (i.icount ≤ 32768) && decide (i.scount ≤ 65536)
    else i.scount == 0 && decide (i.icount ≤ (if i.kind = 3 then 98304 else 32768)))

/-- The keys (R61): `KEYSEL` 0xFF only in BLANK, 0 only for kind 1, an operator key only where valid and, for a script, in the tenant's `KEYMASK`. -/
def State.keyselCode (s : State) (i : Image) : Nat × Nat :=
  if i.keysel = 0xFF then (if s.lifecycle = 0 then (0, 0) else (0x7F, 4))
  else if i.keysel = 0 then
    if i.kind ≠ 1 then (0x7F, 2) else if Config.sha384 (beBytes 96 i.pubkey) = Config.rootHash then (0, 0) else (0x22, 0)
  else if !s.flag Reg.Aut.OPKEY_VALID [i.keysel] then (0x7F, 2)
  else if i.kind = 3 ∧ !(s.rd Reg.Aut.KEYMASK [i.tenant]).testBit (i.keysel - 1) then (0x7F, 2)
  else (0, 0)

/-- The digest and the signature (R61). -/
def State.imageAuth (s : State) (i : Image) : Bool :=
  decide (Config.sha384 (imageBody i) = i.digest) &&
    (i.keysel == 0xFF || Config.ecdsaOk (if i.keysel = 0 then i.pubkey else s.opKey i.keysel) i.sig (imageSigned i))

/-- The lowest version a kind may have (R61, R511). -/
def State.minVersion (s : State) (i : Image) : Nat :=
  if i.kind = 1 then (if i.keysel = 0xFF then 0 else s.rd Reg.Pwr.FUSED_MIN []) else s.rd Reg.Aut.MIN_VERSION [i.kind]

/-- The checks of R61 in their order: completion code and subcause. `bound` is the tenant a script's function is bound to; `budget` the target prompter's budget (R58). -/
def State.checkImage (s : State) (i : Image) (kind : Nat) (len : Option Nat) (bound budget : Nat) : Nat × Nat :=
  if !imageFormOk i kind len then (0x7E, 1)
  else if !imageFits i then (0x7E, 3)
  else if s.keyselCode i ≠ (0, 0) then s.keyselCode i
  else if !s.imageAuth i then (0x22, 0)
  else if i.version < s.minVersion i then (0x7F, 6)
  else if kind = 3 ∧ i.tenant ≠ bound then (0x7F, 2)
  else if kind = 3 ∧ !s.flag Reg.Aut.EN [i.tenant] then (0x7F, 7)
  else if kind = 2 ∧ budget < i.cycles then (0x7F, 6)
  else if kind = 3 ∧ i.tenant ≠ 0 ∧ i.cycles = 0 then (0x7F, 6)
  else (0, 0)

end Sys2Proof.Machine
end

