-- ==== Sys2Proof/Machine/Lanes.lean ====
section
/-! DEFINITION. Uplink and twin lanes (R419–R434): port modes and links, the twin group, its messages, equalisers, PRBS, lane defects and power. -/

namespace Sys2Proof.Machine

/-! ### The block layer of the twin lanes (R424, R425, R429) -/

/-- The CRC-8 of a segment start (R424): polynomial 0x07, initial value 0, each byte's most significant bit first. -/
def crc8 (l : List Nat) : Nat :=
  ((l.map (bitList 8)).flatten).foldl (fun c b => (c * 2 % 256) ^^^ (if (c / 128 + b) % 2 = 1 then 7 else 0)) 0

/-- The CRC-32 of a message's data blocks (R240, R424), each byte's most significant bit first. -/
def dataCrc (l : List Nat) : Nat := crc32 ((l.map (bitList 8)).flatten)

/-- The blocks of a twin lane (R424). -/
inductive TwBlock where
  | idle
  | start (cls : Nat) (resume : Bool) (seq left : Nat)
  | fin (crc seq : Nat)
  | marker (lane : Nat) (m : Marker)
  | data (bytes : List Nat)
deriving DecidableEq, Repr

/-- The bytes 1 to 6 of a segment start. A field of several bytes lies least significant byte first (DESIGN CHOICE, log 135). -/
def segHead (cls : Nat) (resume : Bool) (seq left : Nat) : List Nat := (cls % 8 + 8 * bit resume) :: (leBytes 2 seq ++ leBytes 3 left)

/-- The payload bytes of a block (R424). -/
def TwBlock.bytes : TwBlock → List Nat
  | .idle => [0x1E, 0, 0, 0, 0, 0, 0, 0]
  | .start c r q n => 0x33 :: (segHead c r q n ++ [crc8 (segHead c r q n)])
  | .fin crc q => 0x55 :: (leBytes 4 crc ++ leBytes 2 q ++ [0])
  | .marker l m => [0xD2, l % 32 + 32 * bit m.reform + 64 * bit m.ack] ++ leBytes 3 m.txSet ++ leBytes 3 m.rxUsable
  | .data b => b

/-- A block as a lane carries it behind the descrambler. -/
def TwBlock.blk (b : TwBlock) : Blk := { header := (match b with | .data _ => 1 | _ => 2), bytes := b.bytes }

/-- Reads the blocks of one message (R424, R429): `o` holds the class, the sequence and the data blocks that remain of a message under way, `acc` its data so far.
A block type of no known kind, an invalid header, or a `CRC`, sequence or count that fails makes it no message. -/
def readMessage : List Blk → Option (Nat × Nat × Nat) → List Nat → Option (Nat × Nat)
  | [], _, _ => none
  | b :: t, o, acc =>
    if b.header = 1 then
      match o with
      | some (c, q, n + 1) => readMessage t (some (c, q, n)) (acc ++ b.bytes)
      | _ => none
    else if b.header ≠ 2 then none
    else
      let ty := b.bytes.headD 0
      if ty = 0x1E ∨ ty = 0xD2 then readMessage t o acc
      else if ty = 0x33 then
        let h := (b.bytes.drop 1).take 6
        let c := h.headD 0 % 8
        let q := leNat ((h.drop 1).take 2)
        let n := leNat (h.drop 3)
        if crc8 h ≠ b.bytes.getD 7 0 ∨ c = 0 ∨ c = 7 then none
        else
          match o with
          | none => if h.headD 0 / 8 % 2 = 1 then none else readMessage t (some (c, q, n)) acc
          | some x => if h.headD 0 / 8 % 2 = 1 ∧ x = (c, q, n) then readMessage t o acc else none
      else if ty = 0x55 then
        match o with
        | some (c, q, 0) =>
          if t.isEmpty && leNat ((b.bytes.drop 1).take 4) == dataCrc acc && leNat ((b.bytes.drop 5).take 2) == q then some (c, q) else none
        | _ => none
      else none

/-- Whether blocks carry one whole message (R429). -/
def messageOk (wire : List Blk) : Bool := (readMessage wire none []).isSome

/-! ### Uplink ports (R419–R423) -/

/-- The lanes of the port whose first lane is u. -/
def State.portLanes (s : State) (u : Nat) : List Nat := (List.range (modeLanes (s.rd Reg.Lan.UL_MODE [u]))).map (· + u)

/-- The first lane of the port that lane l belongs to. -/
def State.firstLane (s : State) (l : Nat) : Nat :=
  if s.flag Reg.Lan.MEMBER [l] then (((List.range l).reverse).find? (fun f => !s.flag Reg.Lan.MEMBER [f] && decide (l ∈ s.portLanes f))).getD l else l

/-- Whether `UL_MODE` of lane u may become m, given the port's state (R420). -/
def State.ulModeOk (s : State) (u m : Nat) : Bool :=
  decide (m ≤ 9) && !s.flag Reg.Lan.MEMBER [u] && !s.flag Reg.Lan.UL_EN [u] && u % modeLanes m == 0 &&
    ((List.range (modeLanes m)).map (· + u)).all (fun l => l == u || decide (l ∈ s.portLanes u) ||
      (!s.flag Reg.Lan.MEMBER [l] && s.rd Reg.Lan.UL_MODE [l] == 0))

/-- `FEC_SEL` as it reads: 2 in modes 4–9 (R419). -/
def State.fecSel (s : State) (u : Nat) : Nat := if 4 ≤ s.rd Reg.Lan.UL_MODE [u] then 2 else s.rd Reg.Lan.FEC_SEL [u]

/-- Whether a value of `FEC_SEL` goes with a mode (R419). -/
def fecOk (m v : Nat) : Bool := if 4 ≤ m then v == 2 else if m = 1 then decide (v ≤ 1) else decide (v ≤ 2)

/-- `LOCAL_FAULT` of a port; while it stands the port transmits remote fault (R423). -/
def State.setLocal (s : State) (u : Nat) (v : Bool) : State :=
  if s.flag Reg.Lan.LOCAL_FAULT [u] = v then s else (s.wr Reg.Lan.LOCAL_FAULT [u] (bit v)).emit (.remoteFault u v)

/-- `LINK_UP` of a port changes, or its fault fields do (R422, R423). -/
def State.setLink (s : State) (u : Nat) (up remote : Bool) : State :=
  let was := s.flag Reg.Lan.LINK_UP [u]
  let s := ((s.wr Reg.Lan.LINK_UP [u] (bit up)).setLocal u (!up)).wr Reg.Lan.REMOTE_FAULT [u] (bit remote)
  if was = up then s else s.raise 0xD0 (Reg.Lan.LINK_UP.addr [u]) [bit up]

/-- Sets `SD` or `SF` of a lane; each change raises its event. On an uplink `SF` brings the link down (R423, R433). -/
def State.laneDefect (s : State) (l : Nat) (f : Field) (code : Nat) (v : Bool) : State :=
  if s.flag f [l] = v then s
  else
    let s := (s.wr f [l] (bit v)).raise code (Reg.Lan.SD.addr [l]) [bit v]
    if l < 32 ∧ code = 0xD4 ∧ v then s.setLink (s.firstLane l) false (s.flag Reg.Lan.REMOTE_FAULT [s.firstLane l]) else s

/-- A lane gives up the locks it has: a loss of lock, which sets `SF` (R426, R433). -/
def State.dropLock (s : State) (l : Nat) : State :=
  let lost := s.flag Reg.Lan.BLOCK_LOCK [l] || s.flag Reg.Lan.ALIGN_LOCK [l]
  let s := if s.flag Reg.Lan.BLOCK_LOCK [l] then s.addTo Reg.Lan.LOCK_LOSSES [l] 1 else s
  let s := (s.wr Reg.Lan.BLOCK_LOCK [l] 0).wr Reg.Lan.ALIGN_LOCK [l] 0
  if lost then s.laneDefect l Reg.Lan.SF 0xD4 true else s

/-- A lane starts training: its locks are gone. -/
def State.trainLane (s : State) (l : Nat) : State := ((s.dropLock l).wr Reg.Lan.TRAINING [l] 1).wr Reg.Lan.TX_TRAINED [l] 0

/-- Lanes whose mode signals in PAM4 offer no PRBS9: a generator or checker that runs it stops (R432; DESIGN CHOICE, log 154). -/
def State.stopPrbs9 (s : State) (l : Nat) : State :=
  let s := if s.rd Reg.Lan.PRBS_GEN [l] = 1 then s.wr Reg.Lan.PRBS_GEN [l] 0 else s
  if s.rd Reg.Lan.PRBS_CHK [l] = 1 then (s.wr Reg.Lan.PRBS_CHK [l] 0).wr Reg.Lan.PRBS_LOCK [l] 0 else s

/-- An accepted change of `UL_MODE` (R420): every lane that has a mode now retrains, those that it gives up are off, and the lanes after the first are members. -/
def State.setUlMode (s : State) (u m : Nat) : State :=
  let old := s.portLanes u
  let new := (List.range (modeLanes m)).map (· + u)
  let s := s.setLink u false false
  let s := old.foldl (fun s l => ((s.trainLane l).wr Reg.Lan.TRAINING [l] 0).wr Reg.Lan.MEMBER [l] 0) s
  let s := s.wr Reg.Lan.UL_MODE [u] m
  if m = 0 then s.setLocal u false
  else new.foldl (fun s l =>
    let s := (s.wr Reg.Lan.MEMBER [l] (bit (l != u))).trainLane l
    if 4 ≤ m then s.stopPrbs9 l else s) s

/-- A side of a lane takes a power state (R434): a receiver that leaves active loses its lock, and on an uplink the link with it (R423); a side that returns from off
retrains. -/
def State.setPower (s : State) (l tx rx : Nat) : State :=
  let otx := s.rd Reg.Lan.PWR_TX [l]
  let orx := s.rd Reg.Lan.PWR_RX [l]
  let s := (s.wr Reg.Lan.PWR_TX [l] tx).wr Reg.Lan.PWR_RX [l] rx
  let s := if rx ≠ 0 then s.dropLock l else s
  if (otx = 2 ∧ tx ≠ 2) ∨ (orx = 2 ∧ rx ≠ 2) then s.trainLane l else s

/-- `UL_EN` written (R422, R434): 1 sets every lane of the port active. -/
def State.setUlEn (s : State) (u v : Nat) : State :=
  let s := s.wr Reg.Lan.UL_EN [u] v
  if v = 1 then (s.portLanes u).foldl (fun s l => s.setPower l 0 0) s else s

/-- A port's lanes are trained and in lock, and its link comes up. -/
def State.linkUp (s : State) (u : Nat) (trained remote : Bool) : State :=
  let s := (s.portLanes u).foldl (fun s l =>
    (((s.wr Reg.Lan.TRAINING [l] 0).wr Reg.Lan.BLOCK_LOCK [l] 1).wr Reg.Lan.ALIGN_LOCK [l] 1).wr Reg.Lan.TX_TRAINED [l] (bit trained)) s
  s.setLink u true remote

/-- Whether a port's link can come up: a first lane with a mode, the uplink clock locked (R503), every lane active and clear of `SF`. -/
def State.linkable (s : State) (u : Nat) : Bool :=
  decide (u < 32) && !s.flag Reg.Lan.MEMBER [u] && s.rd Reg.Lan.UL_MODE [u] != 0 && !(s.rd Reg.Pwr.PLL_STAT []).testBit 1 &&
    (s.portLanes u).all (fun l => s.rd Reg.Lan.PWR_TX [l] == 0 && s.rd Reg.Lan.PWR_RX [l] == 0 && !s.flag Reg.Lan.SF [l])

/-- What a port that negotiates advertises: its configured mode alone, with the FEC that is selected (R421). -/
def State.advertise (s : State) (u : Nat) : State :=
  if s.flag Reg.Lan.AN_EN [u] && s.rd Reg.Lan.UL_MODE [u] != 0 && !s.flag Reg.Lan.MEMBER [u] then s.emit (.advertise u (s.rd Reg.Lan.UL_MODE [u]) (s.fecSel u)) else s

/-- `AUTO_NEGOTIATION_DONE` (R421): negotiation resolves to a mode and a FEC. What the port advertised brings its link up, anything else leaves it down. -/
def execAutoNegotiationDone (u : Nat) (resolved : LinkMode) (s : State) : Host.Outcome State Fault Refusal :=
  if !(s.linkable u && s.flag Reg.Lan.AN_EN [u]) then .next s
  else if resolved = ⟨s.rd Reg.Lan.UL_MODE [u], s.fecSel u⟩ then .next (s.linkUp u true false)
  else
    let s := (s.portLanes u).foldl (fun s l => s.wr Reg.Lan.TRAINING [l] 0) s
    .next ((((s.wr Reg.Lan.LINK_UP [u] 0).setLocal u true).wr Reg.Lan.AN_FAIL [u] 1).raise 0xD0 (Reg.Lan.LINK_UP.addr [u]) [0, 1])

/-- `UL_LINK` (R422, R423): the link of a port that is forced, or has negotiated, comes up or goes down; `remote`: remote fault arrives. -/
def execUlLink (u : Nat) (up remote : Bool) (s : State) : Host.Outcome State Fault Refusal :=
  if !(decide (u < 32) && !s.flag Reg.Lan.MEMBER [u] && s.rd Reg.Lan.UL_MODE [u] != 0) then .next s
  else if !up then .next (s.setLink u false remote)
  else if s.linkable u && (!s.flag Reg.Lan.AN_EN [u] || s.flag Reg.Lan.TX_TRAINED [u]) then .next (s.linkUp u (s.flag Reg.Lan.TX_TRAINED [u]) remote)
  else .next s

/-! ### The twin group (R425–R428) -/

/-- The number of lanes of a set. -/
def lanesIn (m : Nat) : Nat := (List.range 24).countP m.testBit

/-- Whether this unit's receiver counts a twin lane as usable (R426, R434). -/
def State.usable (s : State) (l : Nat) : Bool :=
  let x := 64 + l
  s.flag Reg.Lan.BLOCK_LOCK [x] && s.flag Reg.Lan.ALIGN_LOCK [x] && !s.flag Reg.Lan.SKEWED [x] && !s.flag Reg.Lan.SF [x] && s.flag Reg.Lan.TW_LANE_EN [x] &&
    !(s.flag Reg.Lan.TW_DROP_SD [] && s.flag Reg.Lan.SD [x]) && s.rd Reg.Lan.PWR_RX [x] != 2

/-- A lane sends a block: its payload goes through the lane's scrambler, bytes in order and the most significant bit first, and is shown with its sync header (R424;
DESIGN CHOICE for the order of the bits, log 135). -/
def State.sendOn (s : State) (l : Nat) (b : TwBlock) : (Nat × Nat × Nat) × State :=
  let (o, r) := scramble (s.rd Reg.Hid.TW_SCR [l]) ((b.bytes.map (bitList 8)).flatten)
  ((l, b.blk.header, ofBits o), s.wr Reg.Hid.TW_SCR [l] r)

/-- One block on each of some lanes, in their order (R425). -/
def State.sendBlocks (s : State) (bs : List (Nat × TwBlock)) : List (Nat × Nat × Nat) × State :=
  bs.foldl (fun x b => let (w, s) := x.2.sendOn b.1 b.2; (x.1 ++ [w], s)) ([], s)

/-- A row leaves. -/
def State.sendRow (s : State) (bs : List (Nat × TwBlock)) : State :=
  match s.sendBlocks bs with
  | (l, s) => s.emit (.twRow l)

/-- The lanes of a set, ascending. -/
def rowLanes (row : Nat) : List Nat := (List.range 24).filter row.testBit

/-- A marker row goes out on the lanes of a set: every one carries this unit's marker, with its own number (R424, R425). -/
def State.sendMarker (s : State) (row : Nat) (reform ack : Bool) : State :=
  let m : Marker := { reform := reform, ack := ack, txSet := s.rd Reg.Lan.TX_SET [], rxUsable := s.rd Reg.Hid.TW_ADV [0] }
  s.sendRow ((rowLanes row).map (fun l => (l, TwBlock.marker l m)))

/-- The lanes of the next marker row: those of `TX_SET`; before a set is formed, those that transmit and whose generator is off (R432). -/
def State.markerRow (s : State) : Nat :=
  if s.rd Reg.Lan.TX_SET [] ≠ 0 then s.rd Reg.Lan.TX_SET []
  else (((List.range 24).filter (fun l => s.rd Reg.Lan.PWR_TX [64 + l] == 0 && s.rd Reg.Lan.PRBS_GEN [64 + l] == 0)).map (fun l => 2 ^ l)).sum

/-! ### Messages in rows (R243, R424, R425, R429) -/

/-- The data blocks of a message's content: a number in each, least significant byte first; the spec gives the content of messages no layout (DESIGN CHOICE, log 135). -/
def dataBlocks (l : List Nat) : List (List Nat) := l.map (leBytes 8)

/-- A message that an output of the device puts on the twin lanes. -/
def outMsg : Out → Option (Nat × List Nat)
  | .twin c p => some (c, p)
  | .cross d t y r b => some (6, [d, t, bit y, bit r] ++ b)
  | _ => none

/-- A message that waits to be sent. -/
def txMsg (seq : Nat) (m : Nat × List Nat) : TxMsg :=
  { cls := m.1, seq := seq, left := dataBlocks m.2, crc := dataCrc (dataBlocks m.2).flatten, opened := false, begun := false }

/-- The transmitter takes up the messages that the device has handed it since it last looked. -/
def State.takeMsgs (s : State) : State :=
  let new := (s.out.drop s.lanes.taken).filterMap outMsg
  { s with lanes := { s.lanes with
      taken := s.out.length
      seq := (s.lanes.seq + new.length) % 2 ^ 16
      msgs := s.lanes.msgs ++ (new.zipIdx).map (fun x => txMsg ((s.lanes.seq + x.2) % 2 ^ 16) x.1) } }

/-- At a row boundary the messages stand by class, and within one by age; one of a lower class that was being sent is interrupted (R243, R429). -/
def rowOrder (l : List TxMsg) : List TxMsg :=
  match sortBy (fun a b => decide (a.cls ≤ b.cls)) l with
  | [] => []
  | m :: ms => m :: ms.map (fun x => { x with opened := false })

/-- The next `k` blocks of the first message, then of the next; idle blocks where nothing is left (R429). -/
def nextBlocks : Nat → List TxMsg → List TwBlock × List TxMsg
  | 0, ms => ([], ms)
  | k + 1, [] =>
    let (bs, ms) := nextBlocks k []
    (.idle :: bs, ms)
  | k + 1, m :: rest =>
    if !m.opened then
      let (bs, ms) := nextBlocks k ({ m with opened := true, begun := true } :: rest)
      (.start m.cls m.begun m.seq m.left.length :: bs, ms)
    else
      match m.left with
      | [] =>
        let (bs, ms) := nextBlocks k rest
        (.fin m.crc m.seq :: bs, ms)
      | d :: l =>
        let (bs, ms) := nextBlocks k ({ m with left := l } :: rest)
        (.data d :: bs, ms)

/-- The segment in progress is abandoned (R428 step 2): its message is lost here, and a class 4 or 5 one is sent again (R429). -/
def State.abandon (s : State) : State := { s with lanes := { s.lanes with msgs := s.lanes.msgs.filter (fun m => !m.opened) } }

/-- The number of the row that begins at or before an extended stage time: a block of 66 bits at 53.125 Gb/s lasts 4,105,728 / 531,250 ticks. -/
def rowAt (t : Nat) : Nat := t * 531250 / 4105728

/-- Rows leave as time passes (R425, R429): a marker row in every 16,384th, else the blocks of the messages in their order, or idle blocks. Time that a command skips sends
one row at its end (DESIGN CHOICE, log 155). -/
def State.laneTick (s : State) : State :=
  let n := rowAt s.ext
  if s.pairing = 0 ∨ n = s.lanes.row then s
  else
    let old := s.lanes.row
    let s := ({ s with lanes := { s.lanes with row := n } } : State).takeMsgs
    if n / 16384 ≠ old / 16384 then s.sendMarker s.markerRow false false
    else if !s.flag Reg.Lan.TX_UP [] then s
    else
      let lanes := rowLanes (s.rd Reg.Lan.TX_SET [])
      let (bs, ms) := nextBlocks lanes.length (rowOrder s.lanes.msgs)
      State.sendRow { s with lanes := { s.lanes with msgs := ms } } (lanes.zip bs)

/-- One tick of stage time passes on an idle device whose stage time runs (R22, log 7), and the twin lanes send the rows that begin in it. -/
def State.idle (s : State) : State := if s.timeOn then State.laneTick { s with ext := s.ext + 1 } else s

/-- A message is lost for good, and what waits for it faults with subcause 0x04 (R40, R266, R429): a posted store as its refusal, a blocked access at its return, a
ticket at once. -/
def State.lostMessage (s : State) (m : TwinOut) : State :=
  let s := if m.cls = 4 then s.addTo Reg.Twn.MIRROR_FAULTS [] 1 else s
  match m.done with
  | .nothing | .send _ => s
  | .store => s.refuseStore m.cx (0x7E, 4) m.addr m.instr
  | .access | .made =>
    match s.ctx? m.cx with
    | some c => (match c.block with | .access x => s.putCtx m.cx { c with block := .access { x with lost := true } } | _ => s)
    | none => s
  | .key n e g =>
    -- the twin has none of it: what the ticket waited for there does not come
    (s.putSlot n { s.slot n with tix := (s.slot n).tix.filter (fun t => !(t.entry == e && t.gen == g && decide (t.twin = 0))) }).finishTicket e g (cplWord 0x7E 4)
  | .ticket e g _ | .answer e g _ _ | .curtain e g => s.finishTicket e g (cplWord 0x7E 4)

/-- The twin can report no key operation any more: the tickets that wait for it fault (R40, R391). -/
def State.dropKeyTix (s : State) : State :=
  s.cipher.slots.foldl (fun s c => c.2.tix.foldl (fun s t => s.finishTicket t.entry t.gen (cplWord 0x7E 4)) (s.putSlot c.1 { s.slot c.1 with tix := [] })) s

/-- `LANES_UP` follows both directions; the shared state must be copied again when the lanes return (R235, R267, R427). When the lanes go down, every remote
access whose answer is still out faults (R40); mirrored writes are sent again (R429). -/
def State.groupState (s : State) : State :=
  let up := s.flag Reg.Lan.TX_UP [] && s.flag Reg.Lan.RX_UP []
  let s := s.wr Reg.Twn.LANES_UP [] (bit up)
  if up then s
  else
    let gone := s.unacked.filter (fun m => m.cls == 5)
    -- what the twin told of its flows is stale until it tells it again (R313)
    let s := (s.clearRange (Reg.Hid.TWIN_FT.addr [0, 0]) (Reg.Hid.TWIN_FT.addr [63, 16384])).clearRange (Reg.Hid.TWIN_DP.addr [0, 0]) (Reg.Hid.TWIN_DP.addr [63, 16384])
    State.dropKeyTix <| gone.foldl State.lostMessage { s.wr Reg.Hid.FORMED [0] 0 with unacked := s.unacked.filter (fun m => m.cls != 5) }

/-- The usability of the twin lanes is judged again (R427): a lane that ceases to be usable leaves `RX_USABLE` at once; one that becomes usable waits `TW_RESTORE`, but
for the first formation. -/
def State.judgeLanes (s : State) : State :=
  if s.pairing = 0 then s
  else
    let s := upTo (fun l s =>
      if s.usable l then (if s.rd Reg.Hid.TW_SINCE [l] = 0 then s.wr Reg.Hid.TW_SINCE [l] (s.ext + 1) else s)
      else
        let a := s.rd Reg.Hid.TW_ADV [0]
        (s.wr Reg.Hid.TW_SINCE [l] 0).wr Reg.Hid.TW_ADV [0] (if a.testBit l then a - 2 ^ l else a)) 24 s
    let now := ((List.range 24).filter s.usable).map (fun l => 2 ^ l)
    if !s.flag Reg.Hid.TW_FORMED [0] && decide (s.rd Reg.Lan.TW_MIN_LANES [] ≤ now.length) then
      ((s.wr Reg.Hid.TW_FORMED [0] 1).wr Reg.Hid.TW_ADV [0] now.sum).sendMarker s.markerRow false false
    else s

/-- The receive direction's set and whether it holds enough lanes (R427); a direction in re-form stays down until its acknowledging row (R428). -/
def State.setRx (s : State) (m : Nat) : State :=
  State.groupState ((s.wr Reg.Lan.RX_SET [] m).wr Reg.Lan.RX_UP [] (bit (decide (s.rd Reg.Lan.TW_MIN_LANES [] ≤ lanesIn m) && !s.flag Reg.Hid.RX_REFORM [0])))

/-- The transmit direction's set. -/
def State.setTx (s : State) (m : Nat) : State :=
  State.groupState ((s.wr Reg.Lan.TX_SET [] m).wr Reg.Lan.TX_UP [] (bit (decide (s.rd Reg.Lan.TW_MIN_LANES [] ≤ lanesIn m))))

/-- `TW_LANE_EN`, `TW_DROP_SD` or `TW_MIN_LANES` is written: usability and both directions are judged again (R426, R427). -/
def State.lanesWritten (s : State) : State :=
  if s.pairing = 0 then s
  else
    let s := s.judgeLanes
    let s := s.setTx (s.rd Reg.Lan.TX_SET [])
    s.setRx (s.rd Reg.Lan.RX_SET [])

/-- `TW_RESTORE_EXPIRY` (R427): a lane has stayed usable for `TW_RESTORE`. -/
def execTwRestoreExpiry (l : Nat) (s : State) : Host.Outcome State Fault Refusal :=
  let a := s.rd Reg.Hid.TW_ADV [0]
  if !(decide (l < 24) && s.pairing != 0 && s.usable l && s.rd Reg.Hid.TW_SINCE [l] != 0 && s.flag Reg.Hid.TW_FORMED [0] && !a.testBit l) then .next s
  else .next (((s.advanceTo (s.rd Reg.Hid.TW_SINCE [l] - 1 + msTicks (s.rd Reg.Lan.TW_RESTORE []))).wr Reg.Hid.TW_ADV [0] (a + 2 ^ l)).sendMarker s.markerRow false false)

/-- A power state of lane l was written: a twin lane's usability is judged again, since a receiver that is off leaves `RX_USABLE` (R434). -/
def State.powerSet (s : State) (l : Nat) : State := if l < 64 then s else s.judgeLanes

/-- Whether two markers carry the same bytes 2 to 7 (R425). -/
def sameMarker (a b : Marker) : Bool := a.txSet == b.txSet && a.rxUsable == b.rxUsable

/-- The bytes 2 to 7 that most lanes of a row carry; among equals the first (R425). A flag of byte 1 is the row's where more than half of its lanes carry it
(DESIGN CHOICE, log 138). -/
def majority (ms : List Marker) : Option Marker :=
  (ms.foldl (fun best m => match best with
    | some b => if ms.countP (sameMarker b) < ms.countP (sameMarker m) then some m else some b
    | none => some m) none).map (fun m => { m with
      reform := decide (ms.length < 2 * ms.countP Marker.reform)
      ack := decide (ms.length < 2 * ms.countP Marker.ack) })

/-- `ALIGNMENT_MARKER` (R425, R427, R428): a marker row arrives. -/
def execAlignmentMarker (ms : List Marker) (s : State) : Host.Outcome State Fault Refusal :=
  if s.pairing = 0 then .next s
  else
    match majority ms with
    | none => .next s
    | some m =>
      let s := s.addTo Reg.Lan.MARKER_ERR [] (ms.countP (fun x => !sameMarker m x))
      let far := m.rxUsable % 2 ^ 24
      let s := if m.ack then s.wr Reg.Hid.RX_REFORM [0] 0 else s
      let s := (s.wr Reg.Lan.FAR_USABLE [] far).setRx (m.txSet % 2 ^ 24)
      let s := if m.ack then s.raise 0xD2 (Reg.Lan.RX_SET.addr []) [1, s.rd Reg.Lan.RX_SET []] else s
      let new := ((List.range 24).filter (fun l => far.testBit l && s.rd Reg.Lan.PWR_TX [64 + l] == 0)).map (fun l => 2 ^ l)
      if m.reform then .next (((s.abandon.setTx new.sum).sendMarker s.markerRow false true).raise 0xD2 (Reg.Lan.TX_SET.addr []) [0, new.sum])
      else if s.rd Reg.Lan.TX_SET [] = new.sum then .next s
      else .next ((s.setTx new.sum).sendMarker s.markerRow false false)

/-- The re-form of the direction from the twin, as its receiver starts it (R428). -/
def State.reform (s : State) : State :=
  State.sendMarker (State.groupState (((s.addTo Reg.Lan.REFORMS [] 1).wr Reg.Lan.RX_UP [] 0).wr Reg.Hid.RX_REFORM [0] 1)) s.markerRow true false

/-! ### Lane defects (R426, R433) -/

/-- A lane's locks change: a loss is counted and sets `SF`; a lane of the present set forces a re-form, another one before the first is acknowledged too (R426, R428, R433). -/
def State.laneLock (s : State) (l : Nat) (block align : Bool) : State :=
  let lost := (s.flag Reg.Lan.BLOCK_LOCK [l] && !block) || (s.flag Reg.Lan.ALIGN_LOCK [l] && !(block && align))
  let s := if s.flag Reg.Lan.BLOCK_LOCK [l] && !block then s.addTo Reg.Lan.LOCK_LOSSES [l] 1 else s
  let s := (s.wr Reg.Lan.BLOCK_LOCK [l] (bit block)).wr Reg.Lan.ALIGN_LOCK [l] (bit (block && align))
  let s := (((s.wr Reg.Hid.HDR_RUN [l] 0).wr Reg.Hid.HDR_BAD [l] 0).wr Reg.Hid.MK_RUN [l] 0).wr Reg.Hid.MK_MISS [l] 0
  let s := if block && align then s.wr Reg.Lan.TRAINING [l] 0 else s
  let s := if lost then s.laneDefect l Reg.Lan.SF 0xD4 true else s
  if l < 64 then s
  else
    let s := s.judgeLanes
    if (s.rd Reg.Lan.RX_SET []).testBit (l - 64) && lost then s.reform else s

/-- A lane number of the block: an uplink lane, or 64 + a twin lane in a graft mode. -/
def State.laneLives (s : State) (l : Nat) : Bool := decide (l < 32) || (decide (64 ≤ l) && decide (l < 88) && s.pairing != 0)

/-- `TWIN_REFORM` (R428): twin lane l of the set toward this unit loses block lock, or marker lock alone. -/
def execTwinReform (l : Nat) (block : Bool) (s : State) : Host.Outcome State Fault Refusal :=
  if decide (l < 24) && s.pairing != 0 && (s.rd Reg.Lan.RX_SET []).testBit l && s.flag Reg.Lan.BLOCK_LOCK [64 + l] && s.flag Reg.Lan.ALIGN_LOCK [64 + l] then
    .next (s.laneLock (64 + l) (!block) false)
  else .next s

/-- The bits set among the low `n` of a number. -/
def onesIn (n v : Nat) : Nat := (List.range n).countP v.testBit

/-- Whether a lane's bit error ratio comes from corrected bits (R433): an uplink lane with FEC. -/
def State.fecLane (s : State) (l : Nat) : Bool := decide (l < 32) && s.fecSel (s.firstLane l) != 0

/-- Bit errors that a lane's ratio is estimated from, in both intervals (R433). -/
def State.laneErrs (s : State) (l n : Nat) : State :=
  [0, 1].foldl (fun s i => s.wr Reg.Hid.LANE_ERR [l, i] (s.rd Reg.Hid.LANE_ERR [l, i] + n)) s

/-- A lane receives a sync header (R426, R433): a twin lane gains block lock with 64 valid ones in a row and loses it with 16 invalid of 64. -/
def State.syncHeader (l : Nat) (s : State) (valid : Bool) : State :=
  let s := if valid then s else s.addTo Reg.Lan.BAD_SH [l] 1
  let s := if valid || s.fecLane l then s else s.laneErrs l 1
  if l < 64 then s
  else if s.flag Reg.Lan.BLOCK_LOCK [l] then
    let h := (2 * s.rd Reg.Hid.HDR_BAD [l] + bit (!valid)) % 2 ^ 64
    if 16 ≤ onesIn 64 h then s.laneLock l false false else s.wr Reg.Hid.HDR_BAD [l] h
  else
    let n := if valid then s.rd Reg.Hid.HDR_RUN [l] + 1 else 0
    if 64 ≤ n then s.laneLock l true false else s.wr Reg.Hid.HDR_RUN [l] n

/-- A marker is due on a twin lane with block lock (R426): two with the lane's own number in a row gain marker lock, two missing in a row lose it. -/
def State.markerDue (l : Nat) (s : State) (own : Bool) : State :=
  if !s.flag Reg.Lan.BLOCK_LOCK [l] then s
  else if s.flag Reg.Lan.ALIGN_LOCK [l] then
    (if own then s.wr Reg.Hid.MK_MISS [l] 0
    else if s.rd Reg.Hid.MK_MISS [l] = 0 then s.wr Reg.Hid.MK_MISS [l] 1
    else s.laneLock l true false)
  else if !own then s.wr Reg.Hid.MK_RUN [l] 0
  else if s.rd Reg.Hid.MK_RUN [l] = 0 then s.wr Reg.Hid.MK_RUN [l] 1
  else s.laneLock l true true

/-- Whether a lane's mode signals in PAM4 (R419). -/
def State.pam4 (s : State) (l : Nat) : Bool := decide (l < 32) && decide (4 ≤ s.rd Reg.Lan.UL_MODE [s.firstLane l])

/-- Which of the last 256 bits were in error, as one number. -/
def State.prbsBad (s : State) (l : Nat) : Nat := ((List.range 4).map (fun i => s.rd Reg.Hid.PRBS_BAD [l, i] * 2 ^ (64 * i))).sum

/-- Stores it. -/
def State.setPrbsBad (s : State) (l h : Nat) : State := [0, 1, 2, 3].foldl (fun s i => s.wr Reg.Hid.PRBS_BAD [l, i] (h / 2 ^ (64 * i) % 2 ^ 64)) s

/-- One bit that the checker of a lane with lock counts (R432): lock is lost with more than 64 of 256 in error. -/
def State.prbsBit (l : Nat) (s : State) (bad : Bool) : State :=
  if !s.flag Reg.Lan.PRBS_LOCK [l] then s
  else
    let h := (2 * s.prbsBad l + bit bad) % 2 ^ 256
    let s := ((s.addTo Reg.Lan.PRBS_BITS [l] 1).addTo Reg.Lan.PRBS_ERR [l] (bit bad)).setPrbsBad l h
    if 64 < onesIn 256 h then s.wr Reg.Lan.PRBS_LOCK [l] 0 else s

/-- One bit, or one symbol of a PAM4 lane, at a running checker, with its bits in error (R432): lock is gained with 256 predicted in a row. -/
def State.prbsUnit (l : Nat) (s : State) (errs : Nat) : State :=
  let k := if s.pam4 l then 2 else 1
  if s.flag Reg.Lan.PRBS_LOCK [l] then (List.range k).foldl (fun s i => s.prbsBit l (decide (i < errs))) s
  else
    let n := if errs = 0 then s.rd Reg.Hid.PRBS_RUN [l] + 1 else 0
    if 256 ≤ n then ((s.wr Reg.Hid.PRBS_RUN [l] 0).setPrbsBad l 0).wr Reg.Lan.PRBS_LOCK [l] 1 else s.wr Reg.Hid.PRBS_RUN [l] n

/-- `LANE_DEFECT_EVAL` (R426, R432, R433): what lane l's receiver finds. The interval whose end `SD` and `SF` are judged at is the one that R433 gives the defect as it
stands: to set, 1 s and 10 ms, to clear, 10 s and 1 s; its errors are those counted since the last one ended. The codeword and alignment locks of an uplink lane are those of its IEEE 802.3 mode, and
arrive as they stand. -/
def execLaneDefectEval (l : Nat) (o : LaneObs) (s : State) : Host.Outcome State Fault Refusal :=
  if !s.laneLives l then .next s
  else
    match o with
    | .lock b a => if l < 64 then .next (s.laneLock l b a) else .next s
    | .headers vs => .next (vs.foldl (State.syncHeader l) s)
    | .markers vs => if l < 64 then .next s else .next (vs.foldl (State.markerDue l) s)
    | .skew n =>
      if l < 64 then .next s
      else
        let was := s.flag Reg.Lan.SKEWED [l]
        let s := (s.wr Reg.Lan.SKEW [l] n).wr Reg.Lan.SKEWED [l] (bit (decide (1275 < n)))
        let s := s.wr Reg.Lan.MAX_SKEW [] (((List.range 24).map (fun i => s.rd Reg.Lan.SKEW [64 + i])).foldl max 0)
        .next (State.judgeLanes (if decide (1275 < n) && !was then s.raise 0xD1 (Reg.Lan.SKEW.addr [l]) [n] else s))
    | .sd n =>
      let e := s.rd Reg.Hid.LANE_ERR [l, 0]
      let s := s.wr Reg.Hid.LANE_ERR [l, 0] 0
      let x := s.rd Reg.Lan.SD_EXP [l]
      if !s.flag Reg.Lan.SD [l] && decide (n < e * 10 ^ x) then .next (s.laneDefect l Reg.Lan.SD 0xD3 true).judgeLanes
      else if s.flag Reg.Lan.SD [l] && decide (e * 10 ^ (x + 1) < n) then .next (s.laneDefect l Reg.Lan.SD 0xD3 false).judgeLanes
      else .next s
    | .sf n =>
      let e := s.rd Reg.Hid.LANE_ERR [l, 1]
      let s := s.wr Reg.Hid.LANE_ERR [l, 1] 0
      let x := s.rd Reg.Lan.SF_EXP [l]
      let lock := s.flag Reg.Lan.BLOCK_LOCK [l] && s.flag Reg.Lan.ALIGN_LOCK [l]
      if !s.flag Reg.Lan.SF [l] && (!lock || decide (n < e * 10 ^ x)) then .next (s.laneDefect l Reg.Lan.SF 0xD4 true).judgeLanes
      else if s.flag Reg.Lan.SF [l] && lock && decide (e * 10 ^ (x + 1) < n) then .next (s.laneDefect l Reg.Lan.SF 0xD4 false).judgeLanes
      else .next s
    | .counts c u => .next (State.addTo (State.addTo (if s.fecLane l then s.laneErrs l c else s) Reg.Lan.CORR_BITS [l] c) Reg.Lan.UNCORR_CW [l] u)
    | .prbs es => if s.rd Reg.Lan.PRBS_CHK [l] = 0 then .next s else .next (es.foldl (State.prbsUnit l) s)

/-! ### Equalisers, PRBS, power (R430–R432, R434) -/

/-- One variable of a lane's loop is held or free (R431): its run of clamps, and `FENCED` once per run. -/
def State.eqFence (s : State) (l var dir : Nat) : State :=
  if dir = 0 then (s.wr Reg.Hid.EQ_RUN [l, var] 0).wr Reg.Hid.EQ_FENCED [l, var] 0
  else
    let s := s.bump Reg.Hid.EQ_RUN [l, var]
    if s.rd Reg.Lan.FENCE_CNT [l] ≤ s.rd Reg.Hid.EQ_RUN [l, var] ∧ !s.flag Reg.Hid.EQ_FENCED [l, var] then
      (s.wr Reg.Hid.EQ_FENCED [l, var] 1).raise 0x60 (Reg.Lan.EQ_MODE.addr [l]) [2, var, dir - 1, 0]
    else s

/-- The DFE taps of a lane (R430). -/
def lanesTaps (l : Nat) : Nat := if l < 32 then 12 else 8

/-- The three taps of a lane's transmit FIR, as one number. -/
def State.fir (s : State) (l : Nat) : Nat := s.rd Reg.Lan.TX_PRE [l] + s.rd Reg.Lan.TX_MAIN [l] * 2 ^ 6 + s.rd Reg.Lan.TX_POST [l] * 2 ^ 13

/-- Software writes a tap (R430): while training has moved the FIR, the write is what the FIR returns to. -/
def State.tapWritten (s : State) (l : Nat) : State :=
  if (s.rd Reg.Hid.TX_SAVED [l]).testBit 19 then s.wr Reg.Hid.TX_SAVED [l] (s.fir l + 2 ^ 19) else s

/-- A training request of the far end (R430, R431): on an uplink that negotiates the FIR takes it, each tap held within ±`TX_LIM`. -/
def State.trainFir (s : State) (l : Nat) (q : Int × Int × Int) : State :=
  if !(decide (l < 32) && s.flag Reg.Lan.AN_EN [s.firstLane l]) then s
  else
    let lim : Int := (s.rd Reg.Lan.TX_LIM [l] : Nat)
    let s := if (s.rd Reg.Hid.TX_SAVED [l]).testBit 19 then s else s.wr Reg.Hid.TX_SAVED [l] (s.fir l + 2 ^ 19)
    ((s.wr Reg.Lan.TX_PRE [l] (unsigned 6 (clamp (-lim) lim q.1).1)).wr Reg.Lan.TX_MAIN [l] (unsigned 7 (clamp (-lim) lim q.2.1).1)).wr Reg.Lan.TX_POST [l]
      (unsigned 6 (clamp (-lim) lim q.2.2).1)

/-- `AN_EN` of a port is cleared (R421, R430): its lanes are trained no longer, and their FIRs take the written values again. -/
def State.untrain (s : State) (u : Nat) : State :=
  (s.portLanes u).foldl (fun s l =>
    let v := s.rd Reg.Hid.TX_SAVED [l]
    let s := s.wr Reg.Lan.TX_TRAINED [l] 0
    if v.testBit 19 then
      (((s.wr Reg.Lan.TX_PRE [l] (v % 2 ^ 6)).wr Reg.Lan.TX_MAIN [l] (v / 2 ^ 6 % 2 ^ 7)).wr Reg.Lan.TX_POST [l] (v / 2 ^ 13 % 2 ^ 6)).wr Reg.Hid.TX_SAVED [l] 0
    else s) s

/-- The adaptation loop of lane l wants these values; the fences hold them (R430, R431). -/
def State.adapt (s : State) (l : Nat) (ctle : Int) (taps : List Int) : State :=
  if !(s.flag Reg.Lan.EQ_MODE [l] && s.rd Reg.Lan.PWR_RX [l] == 0) then s
  else
    let (c, cd) := clamp (s.rd Reg.Lan.CTLE_MIN [l]) (s.rd Reg.Lan.CTLE_MAX [l]) ctle
    let s := (s.wr Reg.Lan.CTLE [l] c.toNat).eqFence l 0 cd
    ((taps.take (lanesTaps l)).zipIdx).foldl (fun s x =>
      let lim : Int := (s.rd Reg.Lan.TAP_LIM [l, x.2] : Nat)
      let (v, d) := clamp (-lim) lim x.1
      (s.wr Reg.Lan.TAP [l, x.2] (unsigned 8 v)).eqFence l (1 + x.2) d) s

/-- `EQ_UPDATE` (R430, R431): an update of lane l: what its adaptation loop wants, and a training request of the far end where one arrives. -/
def execEqUpdate (l : Nat) (ctle : Int) (taps : TapWish) (s : State) : Host.Outcome State Fault Refusal :=
  if !s.laneLives l then .next s
  else
    let s := s.adapt l ctle taps.rx
    .next (match taps.tx with | some q => s.trainFir l q | none => s)

/-- Whether a lane is in service, so that neither PRBS nor a lower power state may be set (R432, R434). -/
def State.laneBusy (s : State) (l : Nat) : Bool :=
  if l < 32 then s.flag Reg.Lan.UL_EN [s.firstLane l]
  else (s.rd Reg.Lan.TX_SET []).testBit (l - 64) || (s.rd Reg.Lan.RX_SET []).testBit (l - 64)

/-- Whether a generator or checker value may be written (R432): PAM4 lanes offer no PRBS9, and a lane in service starts none. -/
def State.prbsOk (s : State) (l old new : Nat) : Bool :=
  (new != 1 || decide (32 ≤ l) || decide (s.rd Reg.Lan.UL_MODE [s.firstLane l] < 4)) && (old == new || new == 0 || !s.laneBusy l)

/-- Whether a power state may be written (R434): 3 is undefined, and a side of a lane in service is not lowered. -/
def State.powerOk (s : State) (l old new : Nat) : Bool := decide (new ≤ 2) && (decide (new ≤ old) || !s.laneBusy l)

/-! ### Messages (R243, R429) -/

/-- The twin acknowledges a message: what was made here is complete (R265, R266); what the twin makes still waits for its answer (R40). -/
def State.ackTwin (s : State) (q : Nat) : State :=
  match s.unacked.find? (fun m => m.seq == q) with
  | none => s
  | some m =>
    let gone := { s with unacked := s.unacked.filter (fun x => x.seq != q) }
    match m.done with
    | .nothing | .store | .made | .key .. => gone
    | .ticket e g w => gone.finishTicket e g w
    | .send p => gone.emit (.twin 5 p)
    | .access | .answer .. | .curtain .. => { s with unacked := s.unacked.map (fun x => if x.seq == q then { x with acked := true } else x) }

end Sys2Proof.Machine
end

