-- ==== Sys2Proof/Machine/Observe.lean ====
section
/-! DEFINITION. Observability: threshold counters, event delivery and windows, counter flushes, the patrol scrub (R438, R439, R455–R470, R530). -/

namespace Sys2Proof.Machine

/-! ### Threshold counters (R460, R461) -/

/-- `THRESHOLD_SAMPLE` (R460, R461): one `SLOW` cycle of threshold counter i. An episode is counted against the cycle before, which the stored `TH_ABOVE` keeps. -/
def execThresholdSample (i : Nat) (s : State) : Out' :=
  if 4096 ≤ i || !s.flag Reg.Cnt.TH_EN [i] then .next s
  else
    let above := s.above i
    let was := s.flag Reg.Cnt.TH_ABOVE [i]
    let s : State := { s.wr Reg.Cnt.TH_ABOVE [i] (bit above) with freeCtr := s.freeCtr + bit (s.rd Reg.Cnt.TH_KIND [i] == 7) }
    if !above then .next s
    else
      let s := s.count (106496 + i)
      if was then .next s
      else
        let s := s.count (110592 + i)
        .next (if s.flag Reg.Cnt.TH_EVENT [i] then s.raiseRated rateMs 0xE0 i (tagOf s 0 (Reg.Cnt.TH_KIND.addr [i])) (Reg.Cnt.TH_KIND.addr [i]) [] else s)

/-! ### Events (R107, R463, R467, R469, R530) -/

/-- The 64 bytes of a record, and the zero byte that fills the history's last word (R463, R469). -/
def Ev.bytes (e : Ev) : List Nat :=
  leBytes 5 e.stamp ++ leBytes 2 e.wrap ++ [e.code, e.sev, e.tenant] ++ leBytes 5 e.object ++ [0] ++ leBytes 4 e.seq ++ leBytes 4 e.count ++
    ((List.range 5).map (fun i => leBytes 5 (e.details.getD i 0))).flatten ++ List.replicate 16 0

/-- A record as a host ring holds it: the phase in byte 63 (R107, R463). -/
def Ev.ringBytes (e : Ev) (phase : Nat) : List Nat := e.bytes.take 63 ++ [phase % 2]

/-- A record reaches the event ring of a function (R107): an enabled ring without a free slot loses it. -/
def State.toRing (s : State) (f : Nat) (e : Ev) : State :=
  if !s.flag Reg.Bar.EQ_EN [f] then s
  else
    let t := s.rd Reg.Bar.EQ_TAIL [f]
    let t' := (t + 1) % 2 ^ s.rd Reg.Bar.EQ_LOG2 [f]
    if t' = s.rd Reg.Bar.EQ_HEAD [f] then (s.addTo Reg.Bar.EQ_LOST [f] 1).ringError f Reg.Bar.EQ_OVF
    else
      let ph := s.rd Reg.Hid.EQ_PHASE [f]
      let s := (s.emit (.event f t e (e.ringBytes ph))).wr Reg.Bar.EQ_TAIL [f] t'
      let s := if t' = 0 then s.wr Reg.Hid.EQ_PHASE [f] (1 - ph) else s
      if (s.rd Reg.Bar.IRQ_EN [f]).testBit 1 then s.coalesce f Reg.Hid.EQ_UNSIG Reg.Hid.EQ_COAL_AT Reg.Bar.EQ_VEC else s

/-- The function bound to a tenant (R94): the virtual function its `VF` field names, none where it is 0. -/
def State.vfOf (s : State) (t : Nat) : Option Nat :=
  if 1 ≤ t ∧ t ≤ 63 ∧ s.rd Reg.Aut.VF [t] ≠ 0 then some (s.rd Reg.Aut.VF [t]) else none

/-- The collector has room again (R467). -/
def State.roomAgain (s : State) : State :=
  let n := s.evs.dropped
  if n = 0 then s
  else
    let s := { s with evs := { s.evs with dropped := 0 } }
    s.accept (s.event 0xE1 0 (Reg.Cnt.EV_DROP.addr []) n [])

/-- `EVENT_DELIVER` (R107, R469): the oldest accepted record goes to the rings and the history. -/
def execEventDeliver (s : State) : Out' :=
  match s.evs.queue with
  | [] => .next s
  | e :: q =>
    let s := { s.wr Reg.Cnt.EV_QFILL [] q.length with evs := { s.evs with queue := q } }
    let h := s.rd Reg.Cnt.EV_HEAD []
    let s := ((packWords e.bytes).zipIdx).foldl (fun s x => s.wr Reg.Cnt.EV_HIST [h, x.2] x.1.toNat) s
    let s := (s.wr Reg.Cnt.EV_HEAD [] (h + 1)).toRing 0 e
    let s := match s.vfOf e.tenant with | some v => s.toRing v e | none => s
    .next s.roomAgain

/-- `EVENT_WINDOW_CLOSE` (R530 items 3 and 4): the window of a rate-limited event and key closes. -/
def execEventWindowClose (code key : Nat) (s : State) : Out' :=
  match s.window? code key with
  | none => .next s
  | some w => .next ((s.advanceTo w.closes).closeWindow w)

/-! ### Flushes (R455, R458, R459) -/

/-- One counter at its flush point (R458, R459): a flow counter's stored word takes its value; a clearing flush keeps it in `LAST`. -/
def State.flushOne (s : State) (clear : Bool) (n : Nat) : State :=
  let v := s.rd Reg.Cnt.CNT [n]
  let s := if clear then
      (((s.wr Reg.Cnt.LAST [n] v).wr Reg.Cnt.LAST_WRAP [n] (s.rd Reg.Cnt.WRAP [n])).wr Reg.Cnt.CNT [n] 0).wr Reg.Cnt.WRAP [n] 0
    else s
  if n < 131072 then s
  else { s with xmem := { s.xmem with flows := s.xmem.flows.set (n - 131072) (BitVec.ofNat 40 v) } }

/-- Flushes `n` counters from counter `first` on, in ascending order. -/
def State.flush (s : State) (first n : Nat) (clear : Bool) : State := upTo (fun i s => s.flushOne clear (first + i)) n s

/-! ### The patrol scrub (R438, R439) -/

/-- `PATROL_SCRUB` (R439): the scrub reads one 32-byte unit. `outcome`: 0 good, 1 corrected and written back, 2 uncorrectable. -/
def execPatrolScrub (unit outcome : Nat) (s : State) : Out' := .next (s.scrubUnit unit outcome)

end Sys2Proof.Machine
end

