-- ==== Sys2Proof/Machine/Power.lean ====
section
/-! DEFINITION. Power, clocks, reset and boot (R490–R512), and the resets of the host side (R115, R116, R264, R522). -/

namespace Sys2Proof.Machine

/-! ### Device reset (R505, R506) -/

/-- The signal groups and their numbers of balls (R516). -/
def signalGroups : List (String × Nat) :=
  [("PON ports", 512), ("Uplink lanes", 128), ("Twin lanes", 96), ("Cue light", 4), ("LPDDR4X", 576), ("PCIe", 37), ("Management port", 7), ("Flash", 12),
   ("I2C", 16), ("JTAG", 5), ("Reference clock", 2), ("PPS", 2), ("Control and straps", 5), ("Monitor", 40)]

/-- Whether a ball of the monitor group acts in a life-cycle state (R516): `CLKMON` and `ATEST` drive only in BLANK (0) and RETURN (3) and are high-impedance
otherwise; the diode and the Kelvin taps are passive and act in every state. -/
def MonBall.acts (b : MonBall) (lc : Nat) : Bool :=
  match b with
  | .therm _ | .rmon _ _ => true
  | .clkmon _ | .atest _ => lc == 0 || lc == 3

/-- The fields that a device reset leaves: what fuses hold, what the sensors read, and the record of resets. -/
def keptFields : List Field :=
  [Reg.Reh.LC_PENDING, Reg.Reh.DEV_ID_LO, Reg.Reh.DEV_ID_HI, Reg.Pwr.FUSED_MIN, Reg.Pwr.BURNS_LEFT, Reg.Hid.WRAP_BLOWN, Reg.Hid.HELD,
   Reg.Pwr.RST_COUNT, Reg.Pwr.RST_VIN, Reg.Pwr.VIN_MV, Reg.Pwr.TEMP_MAX, Reg.Pwr.TEMP_SENSOR, Reg.Pwr.ROOT_LOCK]

/-- The address under which a field of one index keeps its word. -/
def fieldIx (f : Field) : List Nat := f.dims.map (fun _ => 0)

/-- Everything that is not in fuses returns to its reset value; every lit port goes dark, `PWR_GOOD` falls and the other balls take their reset states (R506, R523),
the memories' reset input low among them (R494); the monitor balls that the life-cycle state governs take the new state's drive (R516). `pending` is the model's queue,
and what the host holds in its own memory stays. -/
def State.wipe (s : State) : State :=
  let lit := (List.range 64).filter (fun p => s.flag Reg.Pon.LIT [p])
  let pins := lit.flatMap (fun p => [Pin.txen, .brst, .rssi].map (fun b => Out.pin b p 0 (s.ext / 4 * 4))) ++
    [Out.pin .ppsOut 0 0 s.ext, Out.pin .pwrGood 0 0 s.ext, Out.pin .memReset 0 0 s.ext, Out.pin .monitor 0 (bit ((MonBall.clkmon false).acts (s.rd Reg.Reh.LC_PENDING []))) s.ext]
  let r : State := { State.reset with
    env := { s.env with epon := 0 }
    host := { slots := s.host.slots, counted := [] }
    out := s.out ++ pins
    lanes := { State.reset.lanes with taken := (s.out ++ pins).length }
    xmem := { State.reset.xmem with epoch := s.xmem.epoch + 1 }
    freeCtr := s.freeCtr
    pending := s.pending }
  let r := keptFields.foldl (fun r f => r.wr f (fieldIx f) (s.rd f (fieldIx f))) r
  let r := (List.range 8).foldl (fun r i => (r.wr Reg.Pwr.RAIL_MV [i] (s.rd Reg.Pwr.RAIL_MV [i])).wr Reg.Pwr.RAIL_OK [i] (s.rd Reg.Pwr.RAIL_OK [i])) r
  let st := s.rd Reg.Reh.LC_PENDING []
  (r.wr Reg.Reh.LC_STATE [] st).wr Reg.Bar.LIFECYCLE [] st

/-- A memory rail ramps up or down (R494). -/
def State.ramp (s : State) (up : Bool) (r : Nat) : State := (s.wr Reg.Pwr.RAIL_OK [r] (bit up)).emit (.pin .memRail r (bit up) s.ext)

/-- A device reset for a cause (R505). The causes that concern the supply take the memory rails down, MVDDQ and MVDD2 before MVDD1; under every other they stay up
(R494). -/
def State.deviceReset (s : State) (cause : Nat) : State :=
  let s := (s.wipe.bump Reg.Pwr.RST_COUNT []).wr Reg.Pwr.RST_CAUSE [] cause
  if cause ∈ [4, 5, 6, 8] then [7, 6, 5].foldl (State.ramp · false ·) s else s

/-- The boot ROM starts the memory rails that are down, MVDD1 first, and releases the memories' reset input once all three are in regulation (R494, R508). -/
def State.memRails (s : State) : State :=
  ([5, 6, 7].foldl (fun s r => if s.flag Reg.Pwr.RAIL_OK [r] then s else s.ramp true r) s).emit (.pin .memReset 0 1 s.ext)

/-- A cause holds the device in reset, or holds it no longer. -/
def State.hold (s : State) (cause : Nat) (v : Bool) : State := s.setBit Reg.Hid.HELD [0] cause v

/-- Whether the device is out of reset. -/
def State.isUp (s : State) : Bool := s.rd Reg.Hid.HELD [0] == 0

/-! ### Boot (R116, R508–R511) -/

/-- The system program starts (R23, R49, R507, R508): context 0 of every stagehand at the image's entry, its other registers zero. Which external segments
the system program gives itself is its own affair (R34, log 109). -/
def State.startSystem (s : State) (i : Image) (slot : Nat) : State :=
  let s := (List.range 8).foldl (fun s n =>
    let cx : Cx := ⟨72 + n, 0⟩
    let s := (s.loadData cx i.data).startFrame cx i.vector0
    let s := s.putCtx cx { newCtx .system 0 [] i 32768 0 with segs := Config.systemSegs (72 + n) }
    (s.wr Reg.Hid.CUR_CTX [72 + n] 1).trace (72 + n) 3 0 i.entry 0) s
  ((((s.wr Reg.Hid.SYS_RUN [0] 1).wr Reg.Pwr.BOOT_SLOT [] slot).wr Reg.Pwr.SYS_VERSION [] i.version).wr Reg.Hid.WDOG_AT [0] s.ext).wr Reg.Bar.BOOT_WAIT [] 0

/-- A flash slot is tried (R510): whether it boots, with its outcome recorded. -/
def State.trySlot (s : State) (img : Option Image) (slot : Nat) : Bool × State :=
  let (c, sub) := match img with
    | some i => s.checkImage i 1 none 0 0
    | none => (0x7E, 1)
  let s := s.wr (if slot = 0 then Reg.Pwr.BOOT_CODE0 else Reg.Pwr.BOOT_CODE1) [] c
  if c = 0 then (true, match img with | some i => s.startSystem (countedImage i) slot | none => s)
  else (false, s.wr Reg.Pwr.BOOT_SUB [] sub)

/-- The boot ROM tries its sources (R472, R509, R510). -/
def State.bootRom (s : State) (b : Boot) : State :=
  if s.lifecycle = 4 ∨ b.src % 4 = 3 then s
  else
    let (done, s) := if b.src % 4 = 2 then (false, s)
      else
        let (ok, s) := s.trySlot b.slot0 0
        if ok then (true, s) else s.trySlot b.slot1 1
    if done then s else s.wr Reg.Bar.BOOT_WAIT [] 1

/-- The system program trains the memory channels (R436, R508 step 7). -/
def State.trainMemory (s : State) (trained : Nat) : State :=
  if !s.flag Reg.Hid.SYS_RUN [0] then s
  else
    let s := s.wr Reg.Mem.MEM_TRAINED [] trained
    (List.range 16).foldl (fun s c => if trained.testBit c then s else s.raise 0xD8 (Reg.Mem.MEM_TRAINED.addr []) [c]) s

/-- Power-up from its fourth step on (R508): the root PLL locks, `PWR_GOOD` rises, the straps are read, the memory rails come up and the boot ROM runs. SCRAP
has no rehearsal (R472). -/
def State.powerUp (s : State) (b : Boot) : State :=
  let s := { s with env := { s.env with unit := b.unit % 2 } }
  let s := ((s.wr Reg.Bar.UNIT [] b.unit).wr Reg.Twn.UNIT [] b.unit).wr Reg.Pwr.BOOT_SRC_S [] b.src
  let s := (s.wr Reg.Pwr.ROOT_LOCK [] 1).emit (.pin .pwrGood 0 1 s.ext)
  let s := (s.wr Reg.Hid.VCORE_H [0] (2 * s.rd Reg.Pwr.VCORE_SET [])).wr Reg.Pwr.VCORE_NOW [] (s.rd Reg.Pwr.VCORE_SET [])
  let s := if s.lifecycle = 4 then s else (s.wr Reg.Hid.E_COUNT [0] (min b.entries 1024)).startCycle
  let s := s.wr Reg.Reh.CAT_SEL [] (if s.lifecycle = 2 then 0 else if s.lifecycle = 1 then 1 else if s.lifecycle = 4 then 0 else 2)
  (s.memRails.bootRom b).trainMemory b.trained

/-- What holds the device is gone: power-up goes on once nothing else holds it. -/
def State.release (s : State) (cause : Nat) (b : Boot) : State :=
  if !(s.rd Reg.Hid.HELD [0]).testBit cause then s
  else
    let s := s.hold cause false
    if s.isUp then s.powerUp b else s

/-- A device reset that nothing holds: power-up starts at its fourth step (R508). -/
def State.resetAndBoot (s : State) (cause : Nat) (b : Boot) : State :=
  let s := s.deviceReset cause
  if s.isUp then s.powerUp b else s

/-- A refused BAR0 write of a function is recorded in its `HOST_ERR` (R95). -/
def State.hostErr (s : State) (f off code sub : Nat) : State :=
  (((s.wr Reg.Bar.ERR_OFFSET [f] off).wr Reg.Bar.ERR_CODE [f] code).wr Reg.Bar.ERR_SUB [f] sub).wr Reg.Bar.ERR_VALID [f] 1

/-- `POWER_UP` (R508): VIN has become valid. `powerOn`: VIN had fallen below 1.0 V, a power-on reset (R505). -/
def execPowerUp (powerOn : Bool) (b : Boot) (s : State) : Out' :=
  let off := 1 + 2 ^ 4 + 2 ^ 5 + 2 ^ 6
  let h := s.rd Reg.Hid.HELD [0]
  if h &&& off = 0 then .next s
  else
    let s := if powerOn then ((s.wr Reg.Pwr.RST_CAUSE [] 0).wr Reg.Pwr.RST_COUNT [] 0).wr Reg.Pwr.RST_VIN [] 0 else s
    let s := (List.range 5).foldl (fun s i => s.wr Reg.Pwr.RAIL_OK [i] 1) s
    let s := s.wr Reg.Hid.HELD [0] (h - (h &&& off))
    .next (if s.isUp then s.powerUp b else s)

/-- `BOOT_GO` (R101, R116, R510): accepted while `BOOT_WAIT` is 1; the image fetched over PCIe boots or leaves its outcome. -/
def execBootGo (d : Dma) (trained : Nat) (s : State) : Out' :=
  if !s.flag Reg.Bar.BOOT_WAIT [] then
    .next (s.hostErr 0 0x28 0x7F 6)
  else
    let (c, sub) := match d with
      | .ok i => s.checkImage i 1 (some (s.rd Reg.Bar.BOOT_LEN [])) 0 0
      | _ => (0x7E, 1)
    let s := s.wr Reg.Pwr.BOOT_CODE2 [] c
    if c ≠ 0 then .next (s.wr Reg.Pwr.BOOT_SUB [] sub)
    else
      match d with
      | .ok i => .next ((s.startSystem (countedImage i) 2).trainMemory trained)
      | _ => .next s

/-- `BOOT_READY` (R21, R508 step 8): the system program sets `READY` once stage time runs, with external memory and the buffers open (log 110). -/
def execBootReady (s : State) : Out' :=
  if !s.flag Reg.Hid.SYS_RUN [0] || !s.timeOn || !s.flag Reg.Mem.MEM_OPEN [] || !s.flag Reg.Buf.BUF_OPEN [] || !s.flag Reg.Twn.PAIR_SET [] || s.flag Reg.Bar.READY [] then .next s
  else
    .next ((s.wr Reg.Bar.READY [] 1).raise 0xF7 (Reg.Pwr.BOOT_SRC_S.addr [])
      [s.rd Reg.Pwr.BOOT_SRC_S [], s.rd Reg.Pwr.BOOT_SLOT [], s.rd Reg.Pwr.SYS_VERSION []])

/-! ### Resets from outside (R264, R503, R506, R507, R522) -/

/-- `RESET_N` (R506, R522): held low, it resets the device and keeps it in reset. -/
def execResetN (s : State) : Out' := .next ((s.deviceReset 1).hold 1 true)

/-- `RESET_N_RELEASE` (R506): power-up starts at its fourth step. -/
def execResetNRelease (b : Boot) (s : State) : Out' := .next (s.release 1 b)

/-- `WATCHDOG_EXPIRY` (R507): the period runs out while the watchdog is enabled and the system context has not halted. -/
def execWatchdogExpiry (b : Boot) (s : State) : Out' :=
  if !s.flag Reg.Hid.SYS_RUN [0] || !s.flag Reg.Pwr.WDOG_EN [] || s.flag Reg.Bar.SYS_HALTED [] then .next s
  else
    let s := if s.timeOn then s.advanceTo (s.rd Reg.Hid.WDOG_AT [0] + msTicks (s.rd Reg.Pwr.WDOG_MS [])) else s
    .next (s.resetAndBoot 2 b)

/-- `DEV_RESET` (R115, R264): with key 0xC1EA the device resets, in graft-understudy mode after notice; with another key the write is refused. -/
def execDevReset (key : Nat) (b : Boot) (s : State) : Out' :=
  if key % 65536 ≠ 0xC1EA then
    .next (s.hostErr 0 0x10 0x7F 6)
  else if s.pairing ≠ 2 then .next (s.resetAndBoot 3 b)
  else if s.rd Reg.Hid.RST_AT [0] ≠ 0 then .next s
  else .next ((s.wr Reg.Hid.RST_NOTICE [0] 1).wr Reg.Hid.RST_AT [0] (s.ext + usTicks 274))

/-- `RESET_AFTER_NOTICE` (R264): every tree is dark, or 274 µs have passed. -/
def execResetAfterNotice (b : Boot) (s : State) : Out' :=
  if s.rd Reg.Hid.RST_AT [0] = 0 then .next s
  else
    let s := if s.litMask = 0 then s else s.advanceTo (s.rd Reg.Hid.RST_AT [0])
    .next (s.resetAndBoot 3 b)

/-- `ROOT_PLL_UNLOCK` (R503): the device resets and stays in reset until lock is regained. -/
def execRootPllUnlock (s : State) : Out' := .next (((s.deviceReset 7).hold 7 true).wr Reg.Pwr.ROOT_LOCK [] 0)

/-- `ROOT_PLL_LOCK` (R503): lock is regained. -/
def execRootPllLock (b : Boot) (s : State) : Out' := .next ((s.wr Reg.Pwr.ROOT_LOCK [] 1).release 7 b)

/-- The lanes that a fractional PLL clocks: the uplink's, or in a graft mode the twin's. -/
def State.clocked (s : State) (i : Nat) : List Nat :=
  if i = 1 then List.range 32 else if i = 2 ∧ s.pairing ≠ 0 then (List.range 24).map (· + 64) else []

/-- `FRACTIONAL_PLL_UNLOCK` (R503): PON, uplink, twin or memory PHY. It shows as defects of what it clocks: lanes lose their locks, `SF` sets and an uplink's link goes
down; on the PON side bursts are missed and a tail port sees no transitions while the bit stands. -/
def execFractionalPllUnlock (i : Nat) (s : State) : Out' :=
  if 4 ≤ i then .next s
  else .next ((s.clocked i).foldl (fun s l => if s.flag Reg.Lan.BLOCK_LOCK [l] then s.laneLock l false false else s) (s.setBit Reg.Pwr.PLL_STAT [] i true))

/-- `FRACTIONAL_PLL_LOCK` (R503). -/
def execFractionalPllLock (i : Nat) (s : State) : Out' := if 4 ≤ i then .next s else .next (s.setBit Reg.Pwr.PLL_STAT [] i false)

/-! ### The supply (R490, R493, R495–R497) -/

/-- `DIP_START` (R495, R496): VIN falls below `VIN_WARN` in service. -/
def execDipStart (vin : Nat) (s : State) : Out' :=
  if !s.isUp || s.flag Reg.Pwr.DIP_ACTIVE [] || decide (s.rd Reg.Pwr.VIN_WARN [] ≤ vin) then .next s
  else
    let s := ((s.wr Reg.Pwr.VIN_MV [] vin).wr Reg.Pwr.DIP_ACTIVE [] 1).wr Reg.Hid.DIP_LOW [0] vin
    let s := ((s.wr Reg.Hid.DIP_AT [0] s.ext).wr Reg.Hid.DIP_END [0] 0).wr Reg.Pwr.DIP_HOLD_LEFT [] 0
    .next (s.setPenAll 5 true)

/-- `SUPPLY_DIP` (R495): VIN has risen above `VIN_WARN` + 20 mV after `us` µs, its lowest value `low`. -/
def execSupplyDip (low vin us : Nat) (s : State) : Out' :=
  if !s.flag Reg.Pwr.DIP_ACTIVE [] || decide (vin ≤ s.rd Reg.Pwr.VIN_WARN [] + 20) then .next s
  else
    let s := if s.timeOn then s.advanceTo (s.rd Reg.Hid.DIP_AT [0] + usTicks us) else s
    let low := min low (s.rd Reg.Hid.DIP_LOW [0])
    let n := min us (2 ^ 27 - 1)
    let s := ((((s.wr Reg.Pwr.VIN_MV [] vin).wr Reg.Pwr.DIP_ACTIVE [] 0).wr Reg.Pwr.VIN_MIN [] low).wr Reg.Pwr.DIP_US [] n).addTo Reg.Pwr.DIPS [] 1
    let s := s.raise 0xF2 (Reg.Pwr.VIN_MIN.addr []) [low, n]
    let h := s.rd Reg.Pwr.DIP_HOLD []
    if h = 0 then .next (s.setPenAll 5 false)
    else .next ((s.wr Reg.Hid.DIP_END [0] (s.ext + secTicks h + 1)).wr Reg.Pwr.DIP_HOLD_LEFT [] h)

/-- `DIP_HOLD_EXPIRY` (R495): the hold has run. -/
def execDipHoldExpiry (s : State) : Out' :=
  let e := s.rd Reg.Hid.DIP_END [0]
  if e = 0 then .next s
  else .next ((((s.advanceTo (e - 1)).wr Reg.Hid.DIP_END [0] 0).wr Reg.Pwr.DIP_HOLD_LEFT [] 0).setPenAll 5 false)

/-- `VIN_RESET` (R490, R496): VIN falls below 1.55 V; the lowest VIN is recorded. -/
def execVinReset (low : Nat) (s : State) : Out' :=
  if 1550 ≤ low then .next s
  else
    let low := if s.flag Reg.Pwr.DIP_ACTIVE [] then min low (s.rd Reg.Hid.DIP_LOW [0]) else low
    .next ((((s.deviceReset 4).hold 4 true).wr Reg.Pwr.RST_VIN [] low).wr Reg.Pwr.VIN_MV [] low)

/-- `SUPPLY_OV_WARN` (R497): VIN rises to 3.75 V, or falls to 3.70 V. -/
def execSupplyOvWarn (vin : Nat) (s : State) : Out' :=
  let s := s.wr Reg.Pwr.VIN_MV [] vin
  if 3750 ≤ vin ∧ !s.flag Reg.Pwr.OV_WARN [] then .next ((s.wr Reg.Pwr.OV_WARN [] 1).raise 0xF5 (Reg.Pwr.OV_WARN.addr []) [vin])
  else if vin ≤ 3700 then .next (s.wr Reg.Pwr.OV_WARN [] 0)
  else .next s

/-- `OVER_VOLTAGE_SHUTDOWN` (R497): the regulators go off; power-up starts again with `POWER_UP`. -/
def execOverVoltageShutdown (vin : Nat) (s : State) : Out' :=
  if vin ≤ 3950 then .next s
  else
    let s := ((s.deviceReset 6).hold 6 true).wr Reg.Pwr.VIN_MV [] vin
    .next ((List.range 8).foldl (fun s i => (s.wr Reg.Pwr.RAIL_OK [i] 0).wr Reg.Pwr.RAIL_MV [i] 0) s)

/-- `RAIL_OUT_OF_REGULATION` (R492, R493): a rail outside its window for 2 µs resets the device. -/
def execRailOutOfRegulation (r mv : Nat) (s : State) : Out' :=
  if 8 ≤ r then .next s
  else .next ((((s.deviceReset 5).hold 5 true).wr Reg.Pwr.RAIL_OK [r] 0).wr Reg.Pwr.RAIL_MV [r] mv)

/-- The cause "rail or voltage-margin critical" follows its two reports (R493, R501). -/
def State.critPenalty (s : State) : State := s.setPenAll 0 (s.flag Reg.Pwr.RAIL_CRIT [] || s.flag Reg.Pwr.MARGIN_CRIT_S [])

/-- `RAIL_CRITICAL` (R492, R493): a rail becomes critical, or is clear again. -/
def execRailCritical (r mv : Nat) (critical : Bool) (s : State) : Out' :=
  if 8 ≤ r || s.flag Reg.Pwr.RAIL_CRIT_R [r] == critical then .next s
  else
    let s := (s.wr Reg.Pwr.RAIL_MV [r] mv).wr Reg.Pwr.RAIL_CRIT_R [r] (bit critical)
    let s := s.raise 0xF3 (Reg.Pwr.RAIL_MV.addr [r]) [mv, bit critical]
    .next ((s.wr Reg.Pwr.RAIL_CRIT [] (bit ((List.range 8).any (fun i => s.flag Reg.Pwr.RAIL_CRIT_R [i])))).critPenalty)

/-! ### Temperature (R498) -/

/-- `THERMAL_WARN` (R498): the hottest sensor reads `temp` °C. -/
def execThermalWarn (temp : Int) (sensor : Nat) (s : State) : Out' :=
  let s := (s.wr Reg.Pwr.TEMP_MAX [] (unsigned 8 temp)).wr Reg.Pwr.TEMP_SENSOR [] sensor
  let lim : Int := s.rd Reg.Pwr.TJ_WARN []
  if lim ≤ temp ∧ !s.flag Reg.Pwr.THERM_WARN [] then
    .next ((s.wr Reg.Pwr.THERM_WARN [] 1).raise 0xF6 (Reg.Pwr.TEMP_MAX.addr []) [sensor % 8, unsigned 8 temp])
  else if temp ≤ lim - 5 then .next (s.wr Reg.Pwr.THERM_WARN [] 0)
  else .next s

/-- The shutdown level of the order code in °C. -/
def State.tjMax (s : State) : Int := if s.env.orderI = 1 then 125 else 120

/-- `THERMAL_SHUTDOWN` (R498): the device resets and holds itself in reset. -/
def execThermalShutdown (temp : Int) (s : State) : Out' :=
  if temp < s.tjMax then .next s else .next (((s.deviceReset 8).hold 8 true).wr Reg.Pwr.TEMP_MAX [] (unsigned 8 temp))

/-- `THERMAL_SHUTDOWN_RELEASE` (R498): `TEMP_MAX` has fallen 15 °C below the level. -/
def execThermalShutdownRelease (temp : Int) (b : Boot) (s : State) : Out' :=
  if s.tjMax - 15 < temp then .next s else .next ((s.wr Reg.Pwr.TEMP_MAX [] (unsigned 8 temp)).release 8 b)

/-! ### The adaptive core voltage (R499–R501) -/

/-- The voltage, in units of 0.5 mV, one update moves VCORE to, and the fence it wanted to pass: 0 none, 1 lower, 2 upper (R499). -/
def State.avsStep (s : State) (o : AvsObs) : Nat × Nat :=
  let lo := 2 * s.rd Reg.Pwr.VCORE_MIN []
  let hi := 2 * s.rd Reg.Pwr.VCORE_MAX []
  let v := s.rd Reg.Hid.VCORE_H [0]
  if v < lo then (min lo (v + 5), 0)
  else if hi < v then (max hi (v - 5), 0)
  else if !s.flag Reg.Pwr.AVS_EN [] then (max lo (min hi (2 * s.rd Reg.Pwr.VCORE_SET [])), 0)
  else if o.slacks.any (fun x => decide (x < (s.rd Reg.Pwr.MARGIN_CRIT [] : Int) + 8)) then (if v = hi then (hi, 2) else (min hi (v + 5), 0))
  else if o.lower then (if v = lo then (lo, 1) else (max lo (v - 5), 0))
  else (v, 0)

/-- The least slack and the monitor that reports it. -/
def worstSlack : List Int → Nat → Int × Nat → Int × Nat
  | [], _, w => w
  | x :: t, i, w => worstSlack t (i + 1) (if x < w.1 then (x, i) else w)

/-- The report of the voltage margin (R501). -/
def State.judgeMargin (s : State) (worst : Int) (mon : Nat) (atMax : Bool) : State :=
  let low := decide (worst < (s.rd Reg.Pwr.MARGIN_CRIT [] : Int))
  if !s.flag Reg.Pwr.MARGIN_CRIT_S [] then
    let n := if atMax && low then s.rd Reg.Hid.MARG_RUN [0] + 1 else 0
    if n < 64 then s.wr Reg.Hid.MARG_RUN [0] n
    else
      let s := ((s.wr Reg.Hid.MARG_RUN [0] 0).wr Reg.Hid.MARG_OK [0] 0).wr Reg.Pwr.MARGIN_CRIT_S [] 1
      (s.raise 0xF4 (Reg.Pwr.MARGIN_MIN.addr []) [mon, unsigned 40 worst, 1]).critPenalty
  else
    let n := if low then 0 else s.rd Reg.Hid.MARG_OK [0] + 1
    if n < 100000 then s.wr Reg.Hid.MARG_OK [0] n
    else
      let s := (s.wr Reg.Hid.MARG_OK [0] 0).wr Reg.Pwr.MARGIN_CRIT_S [] 0
      (s.raise 0xF4 (Reg.Pwr.MARGIN_MIN.addr []) [mon, unsigned 40 worst, 0]).critPenalty

/-- `AVS_UPDATE` (R499–R501): one update of the loop. -/
def execAvsUpdate (o : AvsObs) (s : State) : Out' :=
  if !s.isUp then .next s
  else
    let (worst, mon) := match o.slacks with | [] => (0, 0) | x :: t => worstSlack t 1 (x, 0)
    let s := (s.wr Reg.Pwr.MARGIN_MIN [] (max 0 (min 255 worst)).toNat).wr Reg.Pwr.MARGIN_WORST [] mon
    let (v, fence) := s.avsStep o
    let s := ((s.wr Reg.Hid.VCORE_H [0] v).wr Reg.Pwr.VCORE_NOW [] (v / 2)).wr Reg.Pwr.AVS_AT_FENCE [] fence
    let n := if fence = 0 then 0 else s.rd Reg.Hid.AVS_RUN [0] + 1
    let s := s.wr Reg.Hid.AVS_RUN [0] (min n 300)
    let s := if fence = 0 then s.wr Reg.Hid.AVS_FENCED [0] 0
      else if s.rd Reg.Pwr.AVS_FENCE_CNT [] ≤ n ∧ !s.flag Reg.Hid.AVS_FENCED [0] then
        (s.wr Reg.Hid.AVS_FENCED [0] 1).raise 0x60 (Reg.Pwr.AVS_EN.addr []) [3, 0, if fence = 2 then 1 else 0, 0]
      else s
    .next (s.judgeMargin worst mon (fence == 2))

/-- The system context burns the running version as the fused minimum (R511); the conditions are `rollbackOk`. -/
def State.rollbackBurn (s : State) : State :=
  (s.wr Reg.Pwr.FUSED_MIN [] (s.rd Reg.Pwr.SYS_VERSION [])).wr Reg.Pwr.BURNS_LEFT [] (s.rd Reg.Pwr.BURNS_LEFT [] - 1)

/-- Whether a burn is allowed (R511). -/
def State.rollbackOk (s : State) : Bool := decide (s.rd Reg.Pwr.FUSED_MIN [] < s.rd Reg.Pwr.SYS_VERSION []) && s.rd Reg.Pwr.BURNS_LEFT [] != 0

end Sys2Proof.Machine
end

