-- ==== Sys2Proof/Machine/Rehearsal.lean ====
section
/-! DEFINITION. Rehearsal (R477–R486) and the life cycle (R472–R476, R488). -/

namespace Sys2Proof.Machine

/-! ### The conditions of a slice (R478, R480–R482) -/

/-- Where the guard of a window's burst starts; a quiet window starts at its own start. -/
def State.guardStart (s : State) (z : Nat) (w : Win) : Nat :=
  let r := s.rate z
  match w.kind with
  | .grant => w.p - r.bitTicks (r.guard + (if w.long then r.long else r.short))
  | _ => w.p

/-- The ticks a receiver slice may take now (R482): none while a burst is decoded, else up to 1,245 ticks before the next guard start. -/
def State.spanLeft (s : State) (z : Nat) : Nat :=
  let tr := s.tree z
  if !tr.bursts.isEmpty then 0
  else tr.wins.foldl (fun m w => min m (s.guardStart z w - 1245 - s.ext)) (2 ^ 64)

/-- The tree a pair serves. -/
def State.serves (s : State) (core : Nat) : Option Nat := (List.range 64).find? (fun z => s.server z == core && !s.flag Reg.Cue.IDLE_TREE [z])

/-- The state in which a slice on a target starts, or none where its condition does not hold (R480–R482). -/
def State.sliceReady (s : State) (t : SliceTarget) : Option State :=
  match t with
  | .prompter c =>
    if 72 ≤ c then none
    else
    match s.testedTree c with
    | some z => if s.rd Reg.Hid.TEST_STEP [z] = 2 then some s else none
    | none =>
    if s.isRetired c || c ∈ s.freeWings || (c < 64 && s.flag Reg.Cue.IDLE_TREE [c]) then some s
    else
      match s.serves c with
      | none => none
      | some z =>
        if s.rd Reg.Hid.SPARE_STEP [z] ≠ 0 ∨ s.rd Reg.Hid.TEST_STEP [z] ≠ 0 then none
        else
          match s.freeWings with
          | m :: _ :: _ => some ((((s.useWing m true).wr Reg.Hid.TEST_WING [z] (m + 1)).wr Reg.Hid.TEST_PAIR [z] (c + 1)).wr Reg.Hid.TEST_STEP [z] 1)
          | _ => none
  | .bank b => if b < 64 ∧ 64 ≤ s.rd Reg.Sve.PHYS [b] ∧ (List.range 64).all (fun x => s.rd Reg.Sve.PHYS [x] != b) then some s else none
  | .lane l =>
    if 16 ≤ l then none
    else if s.rd Reg.Key.SPARE_FOR [] = l then some s
    else if s.rd Reg.Key.SPARE_FOR [] = 0x1F ∧ (s.rd Reg.Key.LANE_OK []).testBit l ∧ (s.rd Reg.Key.LANE_OK []).testBit 16 then some (s.wr Reg.Key.SPARE_FOR [] l)
    else none
  | .buffer p i =>
    let k := bufKey p i
    let n := s.poolCount p
    if 4 ≤ p || decide (n ≤ i) || (s.buf k).inUse || (s.buf k).testing || s.rd Reg.Buf.FREE [p] == 0 || decide (64 ≤ s.reh.lent.length) then none
    else
      match ((List.range 64).map (fun j => bufKey p (n + j))).find? (fun x => !(s.reh.lent.contains x) && !(s.buf x).inUse) with
      | none => none
      | some x =>
        let s := { s with
          bufs := s.bufs.put k { s.buf k with testing := true }
          reh := { s.reh with lent := s.reh.lent ++ [x] } }
        some (s.wr Reg.Buf.LENT [p] (s.rd Reg.Buf.LENT [p] + 1))
  | .receiver z => if z < 64 ∧ 0 < s.spanLeft z then some s else none
  | .dark z => if z < 64 ∧ !s.flag Reg.Pon.LIT [z] then some s else none

/-- The longest a slice on a target may run (R478, R482). -/
def State.sliceTicks (s : State) (t : SliceTarget) : Nat :=
  let n := usTicks (s.rd Reg.Reh.SLICE_US [])
  match t with
  | .receiver z => min n (s.spanLeft z)
  | _ => n

/-- The tree whose serving pair a slice waits for: the wings pair takes the tree at the next boundary, and the slice starts there (R481; DEDUCED, log 140). -/
def State.sliceWaits (s : State) (t : SliceTarget) : Option Nat :=
  match t with
  | .prompter c => (List.range 64).find? (fun z => s.rd Reg.Hid.TEST_STEP [z] == 1 && s.rd Reg.Hid.TEST_PAIR [z] == c + 1)
  | _ => none

/-- Whether an entry's slice waits for a boundary. -/
def State.entryWaits (s : State) (e : Nat) : Bool := (List.range 64).any (fun z => s.rd Reg.Hid.TEST_ENTRY [z] == e + 1)

/-- Whether a slice on a free buffer finds none left in its pool, or in the lending reserve (R362). -/
def State.noFreeBuf (s : State) (t : SliceTarget) : Bool :=
  match t with
  | .buffer p i => decide (p < 4) && decide (i < s.poolCount p) && !(s.buf (bufKey p i)).inUse && !(s.buf (bufKey p i)).testing
  | _ => false

/-- `SLICE_START` (R362, R472, R478, R480): rehearsal starts a slice of an entry; one whose condition does not hold is counted in `SKIPPED`, and one on a buffer that
finds no free one to lend ends `INCOMPLETE`. In SCRAP there is no rehearsal. -/
def execSliceStart (e : Nat) (t : SliceTarget) (s : State) : Out' :=
  if 1024 ≤ e || s.lifecycle == 4 || !s.flag Reg.Reh.REH_EN [] || decide (8 ≤ s.reh.slices.length) || s.reh.slices.any (fun x => targetPlace x.target == targetPlace t || x.entry == e) ||
      s.entryWaits e || t ∈ s.reh.retired then .next s
  else
    match s.sliceReady t with
    | none =>
      if s.noFreeBuf t then .next ((((s.wr Reg.Reh.E_BLOCK [e] (targetPlace t).1).wr Reg.Reh.E_INST [e] (targetPlace t).2)).sliceOver (Slice.mk e t s.ext) 3)
      else .next (s.addTo Reg.Reh.SKIPPED [] 1)
    | some s' =>
      let s' := (s'.wr Reg.Reh.E_BLOCK [e] (targetPlace t).1).wr Reg.Reh.E_INST [e] (targetPlace t).2
      let s' := match t with | .dark z => s'.wr Reg.Reh.DARK_BUSY [z] 1 | _ => s'
      match s'.sliceWaits t with
      | some z => .next (s'.wr Reg.Hid.TEST_ENTRY [z] (e + 1))
      | none => .next { s' with reh := { s'.reh with slices := s'.reh.slices ++ [Slice.mk e t (s.ext + s.sliceTicks t)] } }

/-! ### The end of a slice (R479, R484, R486, R208) -/

/-- What the segments of a slice say (R479): 0 pass, 3 incomplete, or the number of the first failed segment. -/
inductive Verdict where
  | pass
  | incomplete
  | fail (seg : Nat)
deriving DecidableEq, Repr

/-- A segment with its full count and another signature fails. -/
def segFails (o : SegObs) : Bool := o.run == o.expected && o.sig != o.expSig

/-- The verdict on a slice (R479). -/
def verdict (os : List SegObs) : Verdict :=
  match os.findIdx? segFails with
  | some i => .fail i
  | none => if !os.isEmpty && os.all (fun o => o.run == o.expected) then .pass else .incomplete

/-- The completion codes a failed slice may show: R486 says only "a failure code". -/
def failCodes : List Nat := completionCodes.filter (fun c => c != 0 && c != 3)

/-- The code of a failure, which the spec leaves open (log 3). -/
def State.failCode (s : State) : Nat × State :=
  let (k, s) := s.choose failCodes.length
  (failCodes.getD k 0x7E, s)

/-- The tree whose path a target lies in. -/
def targetTree : SliceTarget → Option Nat
  | .receiver z => some z
  | .dark z => some z
  | _ => none

/-- Buffers under test go back once their lent buffer is free (R362). -/
def State.bufBack (s : State) (k : Nat) : State :=
  let s := { s with reh := { s.reh with returns := s.reh.returns ++ [k] } }
  match s.reh.lent.find? (fun x => x / 4194304 == k / 4194304 && !(s.buf x).inUse) with
  | some x => s.swapBack x
  | none => s

/-- What becomes of a target whose slice did not fail. -/
def State.targetBack (s : State) (t : SliceTarget) : State :=
  match t with
  | .lane l => if (s.rd Reg.Key.LANE_OK []).testBit l ∧ s.rd Reg.Key.SPARE_FOR [] = l then s.wr Reg.Key.SPARE_FOR [] 0x1F else s
  | .buffer p i => s.bufBack (bufKey p i)
  | _ => s

/-- A trace holds no entry (R470). -/
def State.emptyTrace (s : State) (core : Nat) : State :=
  State.clearRange ((s.wr Reg.Cnt.TR_PTR [core] 0).wr Reg.Cnt.TR_FULL [core] 0) (Reg.Cnt.TR_FROM.addr [core, 0]) (Reg.Cnt.TR_FROM.addr [core, 0] + 8192)

/-- A trace records again (R470). -/
def State.thawTrace (s : State) (core : Nat) : State := (s.wr Reg.Cnt.TR_FROZEN [core] 0).wr Reg.Cnt.TR_CAUSE [core] 0

/-- A retired pair has passed its whole catalogue and joins the wings, which clears its trace (R208, R470). -/
def State.restore (s : State) (c : Nat) : State :=
  if !s.isRetired c then s
  else
    let s := s.setRetired c false
    let s := if c < 64 then s.wr Reg.Hid.JOINED [c] 1 else s
    let s := (s.emptyTrace c).thawTrace c
    s.raise 0x87 (Reg.Cnt.TR_MODE.addr [c]) []

/-- A failed entry of a tree's path passes: the penalty goes when no other entry of that path has failed (R246, R484). -/
def State.pathPasses (s : State) (e : Nat) : State :=
  let z := s.rd Reg.Reh.E_INST [e]
  let s := s.wr Reg.Reh.E_FAILED [e] 0
  if (s.listed Reg.Reh.E_FAILED []).any (fun x => s.flag Reg.Reh.E_FAILED [x] && s.rd Reg.Reh.E_BLOCK [x] == 1 && s.rd Reg.Reh.E_INST [x] == z) then s
  else s.setPen z 4 false

/-- What becomes of a target whose slice failed (R484, R388). -/
def State.targetFails (s : State) (sl : Slice) : State :=
  let gone := fun (s : State) => ({ s with reh := { s.reh with retired := s.reh.retired ++ [sl.target] } } : State).wr Reg.Hid.E_GONE [sl.entry] 1
  match sl.target with
  | .prompter c =>
    let s := gone s
    match s.testedTree c with
    | some z => (s.retire c).clearTest z  -- the wings pair keeps the tree
    | none => s.retire c
  | .bank _ => gone s
  | .lane l => (gone s).cipherLaneFail l
  | .buffer _ _ => gone s  -- withdrawn: the lent buffer stays in the pool
  | .receiver z => s.setPen z 4 true
  | .dark z => s.setPen z 4 true

/-- The outcome of a slice (R479, R484). `whole`: the target has now run its whole catalogue: a retired pair may join the wings (R208),
and a dark rehearsal ends (R486); the expected and the measured count of a failed segment share the event's last item, the expected one from bit 20 up
(DESIGN CHOICE, log 134); one that a wait-to-restore asked for and that could not be completed is asked for again (R262). -/
def State.judgeSlice (s : State) (sl : Slice) (os : List SegObs) (whole : Bool) : State :=
  let v := verdict os
  let (code, s) := match v with | .pass => (0, s) | .incomplete => (3, s) | .fail _ => s.failCode
  let s := s.sliceOver sl code
  let s := match v with
    | .fail i =>
      let o := os.getD i ⟨0, 0, 0, 0⟩
      let s := (s.wr Reg.Reh.E_FAILED [sl.entry] 1).raise 0xF0 (Reg.Reh.E_CODE.addr [sl.entry])
        [(targetPlace sl.target).1 * 4096 + (targetPlace sl.target).2, i, o.expSig, o.sig, o.expected * 2 ^ 20 + o.run % 2 ^ 20]
      s.targetFails sl
    | .pass =>
      let s := s.targetBack sl.target
      let s := if s.flag Reg.Reh.E_FAILED [sl.entry] then
          (match targetTree sl.target with | some _ => s.pathPasses sl.entry | none => s.wr Reg.Reh.E_FAILED [sl.entry] 0) else s
      (match sl.target with | .prompter c => if whole then s.restore c else s | _ => s)
    | .incomplete => s.targetBack sl.target
  match sl.target with
  | .dark z =>
    if v = .pass && !whole then s
    else
      let s := (s.wr Reg.Reh.DARK_BUSY [z] 0).wr Reg.Reh.DARK_CODE [z] code
      if s.flag Reg.Hid.WTR_DARK [z] then (if code = 0 then s.stopWtr z else if code = 3 then s.wr Reg.Reh.DARK_BUSY [z] 1 else s) else s
  | _ => s

/-- `SLICE_END` (R479, R484): the running slice of an entry ends and is judged. -/
def execSliceEnd (e : Nat) (os : List SegObs) (whole : Bool) (s : State) : Out' :=
  match s.reh.slices.find? (fun x => x.entry == e) with
  | none => .next s
  | some sl => .next (s.judgeSlice sl os whole)

/-- `SLICE_YIELD` (R483): the running slice of an entry gives way and completes `INCOMPLETE`. -/
def execSliceYield (e : Nat) (s : State) : Out' :=
  match s.reh.slices.find? (fun x => x.entry == e) with
  | none => .next s
  | some sl => .next (s.judgeSlice sl [] false)

/-- `COVERAGE_CYCLE_LATE` (R485): the present cycle runs past 20 minutes. -/
def execCoverageCycleLate (s : State) : Out' :=
  if s.rd Reg.Reh.CYCLE_LEFT [] = 0 || s.flag Reg.Reh.CYCLE_LATE [] || !s.timeOn then .next s
  else .next ((s.advanceTo (s.extOf (BitVec.ofNat 40 (s.rd Reg.Reh.CYCLE_START [])) + secTicks 1200)).wr Reg.Reh.CYCLE_LATE [] 1)

/-! ### The life cycle (R472–R476, R488) -/

/-- The token as its bytes lie in `LC_TOKEN` (R473, R489). -/
def State.tokenByte (s : State) (i : Nat) : Nat := s.rd Reg.Reh.LC_TOKEN [i / 4] / 256 ^ (i % 4) % 256
/-- Bytes of the token as a number, least significant byte first. -/
def State.tokenLe (s : State) (a n : Nat) : Nat := (List.range n).foldr (fun i v => v * 256 + s.tokenByte (a + i)) 0
/-- Bytes of the token as a number, most significant byte first. -/
def State.tokenBe (s : State) (a n : Nat) : Nat := (List.range n).foldl (fun v i => v * 256 + s.tokenByte (a + i)) 0

/-- Whether a step may lead from one life-cycle state to another (R473). -/
def lcStepOk (st target : Nat) : Bool := decide (st < 4) && (target == st + 1 || target == 4)

/-- The checks of a token (R474): completion code and subcause. -/
def State.tokenCheck (s : State) : Nat × Nat :=
  if s.tokenLe 0 4 ≠ 0x4359434C ∨ s.tokenByte 4 ≠ 1 ∨ s.tokenLe 6 2 ≠ 0 ∨ s.tokenLe 0x10 16 ≠ 0 then (0x7E, 1)
  else if !lcStepOk s.lifecycle (s.tokenByte 5) || s.rd Reg.Reh.LC_PENDING [] != s.lifecycle then (0x7F, 6)
  else if s.tokenLe 8 8 ≠ s.rd Reg.Reh.DEV_ID_LO [] + s.rd Reg.Reh.DEV_ID_HI [] * 2 ^ 32 then (0x7F, 2)
  else if Config.sha384 ((List.range 96).map (fun i => s.tokenByte (0x80 + i))) = Config.rootHash ∧
      Config.ecdsaOk (s.tokenBe 0x80 96) (s.tokenBe 0x20 96) ((List.range 32).map s.tokenByte) then (0, 0)
  else (0x22, 0)

/-- A write of `LC_GO` by the system context (R369, R474, R475): the token is checked, and a checked step burns the fuses; SCRAP acts at once. -/
def State.lcGo (s : State) : State :=
  let (c, sub) := s.tokenCheck
  let s := ((s.wr Reg.Hid.LC_ASKED [0] 0).wr Reg.Reh.LC_STAT [] c).wr Reg.Reh.LC_SUB [] sub
  if c ≠ 0 then s
  else
    let t := s.tokenByte 5
    let s := (s.wr Reg.Reh.LC_PENDING [] t).raise 0xF1 (Reg.Reh.LC_STATE.addr []) [s.lifecycle, t]
    if t ≠ 4 then s
    else
      let b : Boot := { unit := s.env.unit, src := 0, slot0 := none, slot1 := none, trained := 0, entries := 0 }
      ((s.zeroKeys).wr Reg.Hid.WRAP_BLOWN [0] 1).resetAndBoot 9 b

/-- `EXTEST` (R476, R505): boundary scan takes the balls, and the device resets. -/
def execExtest (b : Boot) (s : State) : Out' := .next (s.resetAndBoot 10 b)

/-- `TRST_N` (R522): only the boundary-scan logic is reset, of which the model holds no state. -/
def execTrstN (s : State) : Out' := .next s

/-- A write of `MFG_TEST` by the system context in BLANK or RETURN (R488): every port goes dark at its next boundary; in graft-understudy mode the
twin is told as before a reset (R264). -/
def State.mfgTest (s : State) : State :=
  let s := s.wr Reg.Hid.MFG [0] 1
  if s.pairing = 2 then s.wr Reg.Hid.RST_NOTICE [0] 1 else s

/-- Whether `MFG_TEST` is allowed (R488). -/
def State.mfgOk (s : State) : Bool := s.lifecycle == 0 || s.lifecycle == 3

end Sys2Proof.Machine
end

