-- ==== Sys2Proof/Machine/Host.lean ====
section
/-! DEFINITION. The host: BAR0, submission, completion and event rings, scripts, interrupts and the host-side resets (R93–R116). -/

namespace Sys2Proof.Machine

/-! ### BAR0 (R8, R95–R97, R111, R113, R116) -/

/-- The entries a ring of a function can hold the indexes of. -/
def State.ringSize (s : State) (f : Nat) (log : Field) : Nat := 2 ^ s.rd log [f]

/-- Completions a function's ring holds that the host has not consumed (R103). -/
def State.unread (s : State) (f : Nat) : Nat :=
  let n := s.ringSize f Reg.Bar.CQ_LOG2
  (s.rd Reg.Bar.CQ_TAIL [f] + n - s.rd Reg.Bar.CQ_HEAD [f] % n) % n

/-- The capacity part of condition 1 of R103. -/
def State.cqRoom (s : State) (f : Nat) : Bool :=
  decide (s.unread f + s.rd Reg.Hid.INFLIGHT_F [f] + 1 ≤ s.ringSize f Reg.Bar.CQ_LOG2 - 1)

/-- A refused head or doorbell write (R102): `HOST_ERR`, the ring's error bit, its message. -/
def State.ringRefuse (s : State) (f off : Nat) (bit : Field) : State := (s.hostErr f off 0x7E 1).ringError f bit

/-- A doorbell (R102). -/
def State.doorbell (s : State) (f v : Nat) : State :=
  let n := s.ringSize f Reg.Bar.SQ_LOG2
  let old := s.rd Reg.Bar.SQ_TAIL [f]
  let k := (v + n - old % n) % n
  let free := (s.rd Reg.Bar.SQ_HEAD [f] + 2 * n - old % n - 1) % n
  if n ≤ v ∨ free < k then s.ringRefuse f 0x1010 Reg.Bar.SQ_ERR else s.wr Reg.Bar.SQ_TAIL [f] v

/-- A write of `CQ_HEAD` (R102): consumed entries make room. -/
def State.writeCqHead (s : State) (f v : Nat) : State :=
  let n := s.ringSize f Reg.Bar.CQ_LOG2
  let h := s.rd Reg.Bar.CQ_HEAD [f]
  if n ≤ v ∨ s.unread f < (v + n - h % n) % n then s.ringRefuse f 0x1030 Reg.Bar.CQ_ERR
  else s.wr Reg.Bar.CQ_HEAD [f] v

/-- A write of `EQ_HEAD` (R102). -/
def State.writeEqHead (s : State) (f v : Nat) : State :=
  let n := s.ringSize f Reg.Bar.EQ_LOG2
  let h := s.rd Reg.Bar.EQ_HEAD [f]
  if n ≤ v ∨ (s.rd Reg.Bar.EQ_TAIL [f] + n - h % n) % n < (v + n - h % n) % n then s.ringRefuse f 0x1050 Reg.Bar.EQ_ERR
  else s.wr Reg.Bar.EQ_HEAD [f] v

/-- `LOG2` and `EN` of ring `r` (0 submission, 1 completion, 2 event). -/
def ringFields (r : Nat) : Field × Field :=
  if r = 0 then (Reg.Bar.SQ_LOG2, Reg.Bar.SQ_EN) else if r = 1 then (Reg.Bar.CQ_LOG2, Reg.Bar.CQ_EN) else (Reg.Bar.EQ_LOG2, Reg.Bar.EQ_EN)

/-- A write of `EN` = 1 to a ring before `READY` (R97). -/
def State.ringEarly (s : State) (f r en : Nat) : Bool := en == 1 && !s.flag (ringFields r).2 [f] && !s.flag Reg.Bar.READY []

/-- The refusal of a ring's control word (R97, R116), if any: `log2` and `en` are the values written to ring `r`. A word that fails both ways is refused for the life cycle
before its values (DEDUCED from the order of R28, log 142). -/
def State.ringCtlCode (s : State) (f r log2 en : Nat) : Option Nat :=
  let (lg, e) := ringFields r
  if s.ringEarly f r en then some 4
  else if log2 ≠ s.rd lg [f] ∧ (s.flag e [f] ∨ log2 < 4 ∨ 12 < log2) then some 6
  else if r = 1 ∧ en = 0 ∧ s.flag e [f] ∧ s.rd Reg.Hid.INFLIGHT_F [f] ≠ 0 then some 6
  else none

/-- A ring's control word is stored (R97): enabling sets head and tail to 0 and the phase to 1. -/
def State.ringCtl (s : State) (f r log2 en : Nat) : State :=
  if r = 0 then
    let was := s.flag Reg.Bar.SQ_EN [f]
    let s := (s.wr Reg.Bar.SQ_LOG2 [f] log2).wr Reg.Bar.SQ_EN [f] en
    if en = 1 && !was then
      let s := { s with host := { s.host with counted := s.host.counted.filter (fun k => k / 4096 != f) } }
      (s.wr Reg.Bar.SQ_HEAD [f] 0).wr Reg.Bar.SQ_TAIL [f] 0
    else s
  else if r = 1 then
    let was := s.flag Reg.Bar.CQ_EN [f]
    let s := (s.wr Reg.Bar.CQ_LOG2 [f] log2).wr Reg.Bar.CQ_EN [f] en
    if en = 1 && !was then ((s.wr Reg.Bar.CQ_HEAD [f] 0).wr Reg.Bar.CQ_TAIL [f] 0).wr Reg.Hid.CQ_PHASE [f] 1 else s
  else
    let was := s.flag Reg.Bar.EQ_EN [f]
    let s := (s.wr Reg.Bar.EQ_LOG2 [f] log2).wr Reg.Bar.EQ_EN [f] en
    if en = 1 && !was then ((s.wr Reg.Bar.EQ_HEAD [f] 0).wr Reg.Bar.EQ_TAIL [f] 0).wr Reg.Hid.EQ_PHASE [f] 1 else s

/-- A write of a ring's control word. -/
def State.writeRingCtl (s : State) (f r log2 en : Nat) : State :=
  match s.ringCtlCode f r log2 en with
  | some sub => s.hostErr f (0x1008 + 0x20 * r) 0x7F sub
  | none => s.ringCtl f r log2 en

/-- A boot that finds no image: for resets that carry none. -/
def State.bareBoot (s : State) : Boot := { unit := s.env.unit, src := 0, slot0 := none, slot1 := none, trained := 0, entries := 0 }

/-- The named bits of a BAR0 register (R96), or none for an unlisted offset. `pf`: the PF's own registers are there. -/
def barMask (off : Nat) : Option Nat :=
  match off with
  | 0x0000 => some (2 ^ 28 - 1) | 0x0008 => some 0x77 | 0x0010 => some 0x1FFFF | 0x0018 => some (2 ^ 64 - 1) | 0x0020 => some (2 ^ 32 - 1)
  | 0x0028 => some 1 | 0x0030 => some 0x1F | 0x0038 => some (2 ^ 40 - 1) | 0x0040 => some (2 ^ 40 - 1) | 0x0048 => some (2 ^ 40 - 1)
  | 0x1000 => some (2 ^ 64 - 1) | 0x1008 => some 0x10F | 0x1010 => some 0xFFF | 0x1018 => some 0xFFF
  | 0x1020 => some (2 ^ 64 - 1) | 0x1028 => some 0x10F | 0x1030 => some 0xFFF | 0x1038 => some 0xFFF
  | 0x1040 => some (2 ^ 64 - 1) | 0x1048 => some 0x10F | 0x1050 => some 0xFFF | 0x1058 => some 0xFFF
  | 0x1060 => some 0x7FFF | 0x1068 => some 0xFFFFFF | 0x1070 => some 0x1F | 0x1078 => some (2 ^ 40 - 1) | 0x1080 => some (2 ^ 40 - 1)
  | 0x1088 => some (2 ^ 33 - 1) | 0x1090 => some 0xFFF
  | _ =>
    if 0x2000 ≤ off ∧ off < 0x2800 then some 0x3FF
    else if 0x2800 ≤ off ∧ off < 0x2F80 then some 0x3FF
    else none

/-- A ring base (R97). -/
def State.writeBase (s : State) (f off v : Nat) (base en : Field) : State :=
  if v = s.rd base [f] then s
  else if s.flag en [f] ∨ v % 4096 ≠ 0 then s.hostErr f off 0x7F 6
  else s.wr base [f] v

/-- The tenant bound to a virtual function (R32). -/
def State.vfTenant (s : State) (vf : Nat) : Option Nat := (List.range 64).find? (fun t => t != 0 && s.rd Reg.Aut.VF [t] == vf)

/-- Whether a page of a virtual function may map a counter group (R111, R454, R462). -/
def State.pageOk (s : State) (vf g : Nat) : Bool :=
  match s.vfTenant vf with
  | none => false
  | some t => g == 15 || (counterTag s (g * 8192) == t && !s.mixedGroup g)

/-- The pages that no longer pass their check are cleared (R111, R454). -/
def State.recheckPages (s : State) : State :=
  upTo (fun i s =>
    let ix := [i / 16 + 1, i % 16]
    if s.flag Reg.Bar.VF_VALID ix && !s.pageOk (i / 16 + 1) (s.rd Reg.Bar.VF_GROUP ix) then s.wr Reg.Bar.VF_VALID ix 0 else s) 240 s

/-- A counter page entry (R111). A page of a function bound to no tenant is refused for that before its value (DEDUCED from the order of R28, log 142). -/
def State.writePage (s : State) (off v : Nat) : State :=
  let g := v % 512
  if off < 0x2800 then
    let p := (off - 0x2000) / 8
    if 271 < g then s.hostErr 0 off 0x7F 6
    else (s.wr Reg.Bar.GROUP [p] g).wr Reg.Bar.VALID [p] (v / 512)
  else
    let n := (off - 0x2800) / 8
    let vf := n / 16 + 1
    if (s.vfTenant vf).isNone then s.hostErr 0 off 0x7F 2
    else if 271 < g then s.hostErr 0 off 0x7F 6
    else if !s.pageOk vf g then s.hostErr 0 off 0x7F 2
    else (s.wr Reg.Bar.VF_GROUP [vf, n % 16] g).wr Reg.Bar.VF_VALID [vf, n % 16] (v / 512)

/-- A BAR0 write that its format and named bits allow. -/
def State.barStore (s : State) (f off v : Nat) : State :=
  match off with
  | 0x0010 => if v % 65536 ≠ 0xC1EA then s.hostErr f off 0x7F 6 else if v / 65536 = 1 then (match execDevReset 0xC1EA s.bareBoot s with | .next t => t | _ => s) else s
  | 0x0018 => if v % 4096 = 0 then s.wr Reg.Bar.BOOT_ADDR [] v else s.hostErr f off 0x7F 6
  | 0x0020 => s.wr Reg.Bar.BOOT_LEN [] v
  | 0x0028 => if v = 1 then (match execBootGo .headerError 0 s with | .next t => t | _ => s) else s
  | 0x0030 => if s.pbBytes ≤ v * 2 ^ 32 ∧ v ≠ 0 then s.hostErr f off 0x7F 6 else s.wr Reg.Bar.PB_WIN [] v
  | 0x1000 => s.writeBase f off v Reg.Bar.SQ_BASE Reg.Bar.SQ_EN
  | 0x1008 => s.writeRingCtl f 0 (v % 16) (v / 256 % 2)
  | 0x1010 => s.doorbell f v
  | 0x1020 => s.writeBase f off v Reg.Bar.CQ_BASE Reg.Bar.CQ_EN
  | 0x1028 => s.writeRingCtl f 1 (v % 16) (v / 256 % 2)
  | 0x1030 => s.writeCqHead f v
  | 0x1040 => s.writeBase f off v Reg.Bar.EQ_BASE Reg.Bar.EQ_EN
  | 0x1048 => s.writeRingCtl f 2 (v % 16) (v / 256 % 2)
  | 0x1050 => s.writeEqHead f v
  | 0x1060 => (((s.wr Reg.Bar.CQ_VEC [f] v).wr Reg.Bar.EQ_VEC [f] (v / 16)).wr Reg.Bar.ERR_VEC [f] (v / 256)).wr Reg.Bar.IRQ_EN [f] (v / 4096)
  | 0x1068 => (s.wr Reg.Bar.COAL_CNT [f] v).wr Reg.Bar.COAL_US [f] (v / 256)
  | 0x1070 =>
    let s := if v.testBit 1 then s.wr Reg.Bar.SQ_ERR [f] 0 else s
    let s := if v.testBit 2 then s.wr Reg.Bar.CQ_ERR [f] 0 else s
    let s := if v.testBit 3 then s.wr Reg.Bar.EQ_OVF [f] 0 else s
    if v.testBit 4 then s.wr Reg.Bar.EQ_ERR [f] 0 else s
  | 0x1088 => if v.testBit 32 then s.wr Reg.Bar.ERR_VALID [f] 0 else s
  | _ => if 0x2000 ≤ off then s.writePage off v else s

/-- The subcause of a write that sets unnamed bits: a check that R28 makes before the values (log 142) decides where it fails too. -/
def State.unnamedSub (s : State) (f off v : Nat) : Nat :=
  if off ∈ [0x1008, 0x1028, 0x1048] ∧ s.ringEarly f ((off - 0x1008) / 32) (v / 256 % 2) then 4
  else if 0x2800 ≤ off ∧ off < 0x2F80 ∧ (s.vfTenant ((off - 0x2800) / 128 + 1)).isNone then 2
  else 6

/-- A write to BAR0 of function f: size, the PF's own offsets, the boot wait, the map, the register (R95, R96, R116). -/
def State.barWrite (s : State) (f off size v : Nat) : State :=
  if 16 ≤ f then s
  else if size ≠ 8 ∨ off % 8 ≠ 0 then s.hostErr f off 0x7E 1
  else if f ≠ 0 ∧ (off < 0x1000 ∨ (0x2000 ≤ off ∧ off < 0x3000)) then s.hostErr f off 0x7F 1
  else if f = 0 ∧ s.flag Reg.Bar.BOOT_WAIT [] ∧ off ∉ [0x10, 0x18, 0x20, 0x28] then s.hostErr f off 0x7F 4
  else
    match barMask off with
    | none => if v = 0 then s else s.hostErr f off 0x7F 6
    | some m => if v ||| m = m then s.barStore f off v else s.hostErr f off 0x7F (s.unnamedSub f off v)

/-- The mask bit of an MSI-X vector (R108): unmasking sends what is pending. -/
def State.msixMask (s : State) (f v : Nat) (m : Bool) : State :=
  if 16 ≤ f ∨ 16 ≤ v then s
  else
    let s := s.wr Reg.Hid.MSIX_MASK [f, v] (bit m)
    if !m && s.flag Reg.Hid.MSIX_PEND [f, v] then (s.wr Reg.Hid.MSIX_PEND [f, v] 0).msix f v else s

/-- The 64 bytes of a submission entry (R98). -/
def entryBytes (e : SubEntry) : List Nat :=
  [e.op % 256, e.flags % 256] ++ leBytes 2 e.reserved ++ leBytes 4 e.tag ++ leBytes 8 e.imageAddr ++ leBytes 4 e.imageLen ++ leBytes 4 e.target ++
    ((List.range 5).map (fun k => leBytes 8 (e.args.getD k 0))).flatten

/-- The submission entry that 64 bytes spell (R98); the image buffer it names holds `image`. -/
def readEntry (b : List Nat) (image : Dma) : SubEntry :=
  { op := leField b 0 1, flags := leField b 1 1, reserved := leField b 2 2, tag := leField b 4 4, imageAddr := leField b 8 8, imageLen := leField b 16 4
    target := leField b 20 4, args := (List.range 5).map (fun k => leField b (24 + 8 * k) 8), image := image }

/-- The host writes an entry into a slot of a function's submission ring (R98). -/
def State.writeSlot (s : State) (f slot : Nat) (e : SubEntry) : State :=
  { s with host := { s.host with slots := s.host.slots.put (f * 4096 + slot) { bytes := entryBytes e, image := e.image } } }

/-! ### Taking an entry (R94, R98–R104) -/

/-- The tenant a function is bound to (R94). -/
def State.bound (s : State) (f : Nat) : Option Nat :=
  if f = 0 then some 0 else s.vfTenant f

/-- The entry at a function's `SQ_HEAD` (R98); a slot the host has not written reads as zeros. -/
def State.headEntry (s : State) (f : Nat) : SubEntry :=
  match s.host.slots.get? (f * 4096 + s.rd Reg.Bar.SQ_HEAD [f]) with
  | some x => readEntry x.bytes x.image
  | none => readEntry [] .headerError

/-- The first two checks of a submission (R94, R99 steps 1 and 2). -/
def State.entryForm (s : State) (f : Nat) (e : SubEntry) : Nat × Nat :=
  match s.bound f with
  | none => (0x7F, 2)
  | some t =>
    if !s.flag Reg.Aut.EN [t] then (0x7F, 7)
    else if e.op = 0 ∨ 6 < e.op ∨ 4 ≤ e.flags ∨ e.reserved ≠ 0 ∨ e.imageAddr % 8 ≠ 0 ∨ e.args.any (fun a => decide (2 ^ 40 ≤ a)) ∨
        (e.op = 5 ∧ 64 ≤ e.target) ∨ (e.op ≠ 2 ∧ e.op ≠ 4 ∧ e.op ≠ 5 ∧ e.target ≠ 0) then (0x7E, 1)
    else (0, 0)

/-- A resident image by its handle. -/
def State.resident (s : State) (h : Nat) : Option Resident := s.cpu.residents.find? (fun r => r.handle == h)

/-- The operation's own checks that need no image (R99 step 3). -/
def State.entryOwn (s : State) (f t : Nat) (e : SubEntry) : Nat × Nat :=
  if e.op = 5 then
    if f ≠ 0 then (0x7F, 1)
    else if !s.head e.target || s.flag Reg.Pon.BOND_PARTNER [e.target] then (0x7F, 6)
    else (0, 0)
  else if e.op = 2 ∨ e.op = 4 then
    match s.resident e.target with
    | none => (0x32, 0)
    | some r => if r.tenant ≠ t then (0x7F, 2) else if r.unload.isSome then (0x32, 0) else (0, 0)
  else (0, 0)

/-- The image of a script entry whose header was read and passes the first two checks of R61: what condition 3 of R103 is judged from. -/
def State.scriptHeader (s : State) (f : Nat) (e : SubEntry) : Option Image :=
  if s.entryForm f e ≠ (0, 0) then none
  else if e.op = 2 then
    match s.bound f, s.resident e.target with
    | some t, some r => if s.entryOwn f t e = (0, 0) then some r.img else none
    | _, _ => none
  else if e.op = 1 then
    let hdr := match e.image with | .headerError => none | .bodyError h => some h | .ok i => some i
    match hdr with
    | some i => if imageFormOk i 3 (some e.imageLen) && imageFits i then some i else none
    | none => none
  else none

/-- A script's data area in words (R35). -/
def areaWords (i : Image) : Nat := max i.dcount 6

/-- Words of a stagehand's script pool in use (R35). -/
def State.poolUsed (s : State) (core : Nat) : Nat :=
  (s.cpu.ctxs.map (fun c => if c.1 / 16 = core ∧ c.1 % 16 ≠ 0 then c.2.dwords else 0)).sum

/-- A stagehand whose system context has halted runs no scripts (R51). -/
def State.stagehandOk (s : State) (core : Nat) : Bool :=
  match s.ctx? ⟨core, 0⟩ with
  | some c => c.block != Block.idle
  | none => true

/-- The script contexts that are free with a data area of n words to be had (R24, R35, R103). -/
def State.freeSlots (s : State) (n : Nat) : List Cx :=
  ((List.range 8).filter (fun k => s.stagehandOk (72 + k) && decide (s.poolUsed (72 + k) + n ≤ 98304))).flatMap (fun k =>
    (((List.range 15).map (· + 1)).filter (fun c => (s.ctx? ⟨72 + k, c⟩).isNone)).map (fun c => ⟨72 + k, c⟩))

/-- The script contexts a tenant occupies (R32). -/
def State.ctxRunning (s : State) (t : Nat) : Nat := s.cpu.ctxs.countP (fun c => c.2.kind == .script && c.2.tenant == t)

/-- Condition 3 of R103 for the entry at a ring's head. `MAX_CTX` is that of the tenant in the image's header, also where that is not the tenant the function is
bound to, which the image checks find after the take (DESIGN CHOICE, log 111). -/
def State.scriptRoom (s : State) (f : Nat) (e : SubEntry) : Bool :=
  match s.scriptHeader f e with
  | none => true
  | some i => !(s.freeSlots (areaWords i)).isEmpty && decide (s.ctxRunning i.tenant < s.rd Reg.Aut.MAX_CTX [i.tenant])

/-- What holds the entry at a function's `SQ_HEAD` (R103): nothing to take, another condition, the completion ring's capacity alone, or nothing. -/
inductive Taking where
  | none
  | held
  | stalled
  | ready
deriving DecidableEq, Repr

/-- The judgement of R103. -/
def State.taking (s : State) (f : Nat) : Taking :=
  if !s.flag Reg.Bar.SQ_EN [f] || s.rd Reg.Bar.SQ_HEAD [f] == s.rd Reg.Bar.SQ_TAIL [f] then .none
  else if !s.flag Reg.Bar.CQ_EN [f] then .held
  else
    let e := s.headEntry f
    if e.flags % 2 = 1 ∧ s.rd Reg.Hid.INFLIGHT_F [f] ≠ 0 then .held
    else if !s.scriptRoom f e then .held
    else if !s.cqRoom f then .stalled
    else .ready

/-- The granules of the segments granted to a script, as far as the memory has them, are in use and tagged to its tenant (R35, R441). -/
def State.tagSegments (s : State) (t : Nat) (segs : List (Nat × Nat × Nat)) : State :=
  let last := s.segWords / 8192
  segs.foldl (fun s g => upTo (fun i s => (s.wr Reg.Mem.G_TENANT [g.2.1 + i] t).wr Reg.Mem.G_USED [g.2.1 + i] 1) (min g.2.2 (last - g.2.1)) s) s

/-- A script starts (R35, R49, R100) in the context the placement picks among the free ones. -/
def State.startScript (s : State) (i : Image) (e : SubEntry) (j : Job) (p : Place) : State :=
  let free := s.freeSlots (areaWords i)
  match free[p.pick % free.length]? with
  | none => s
  | some cx =>
    let s := (s.loadData cx i.data).startFrame cx i.vector0
    let regs := Store.fill (w := 40) [] 1 ((List.range 5).map (fun k => BitVec.ofNat 40 (e.args.getD k 0)))
    let segs := if i.flags = 1 then p.segs else []
    let s := (s.tagSegments i.tenant segs).putCtx cx { newCtx .script i.tenant regs i (areaWords i) i.cycles with
      job := some j
      segs := segs }
    (s.trace cx.core 3 0 i.entry cx.ctx).wake cx

/-- What a taken entry does (R99): it completes, or a script starts that will. -/
def State.serveEntry (s : State) (f : Nat) (e : SubEntry) (j : Job) (p : Place) : State :=
  let fail := fun (s : State) (c : Nat × Nat) (dma : Bool) => s.complete j c.1 c.2 0 0 0 dma
  let form := s.entryForm f e
  if form ≠ (0, 0) then fail s form false
  else
    let t := (s.bound f).getD 0
    let own := s.entryOwn f t e
    if own ≠ (0, 0) then fail s own false
    else
      match e.op with
      | 6 => s.complete j 0 0 0 0 0 false
      | 4 =>
        match s.resident e.target with
        | none => fail s (0x32, 0) false
        | some r =>
          if r.running = 0 then
            State.complete { s with cpu := { s.cpu with residents := s.cpu.residents.filter (fun (x : Resident) => x.handle != r.handle) } } j 0 0 0 0 0 false
          else ({ s with cpu := { s.cpu with residents := s.cpu.residents.map (fun (x : Resident) => if x.handle = r.handle then { x with unload := some j } else x) } } : State)
      | 2 =>
        match s.resident e.target with
        | none => fail s (0x32, 0) false
        | some r =>
          let s := { s with cpu := { s.cpu with residents := s.cpu.residents.map (fun (x : Resident) => if x.handle = r.handle then { x with running := x.running + 1 } else x) } }
          s.startScript r.img e { j with resident := r.handle + 1 } p
      | _ =>
        match e.image with
        | .headerError => fail s (0x7E, 1) true
        | .bodyError h =>
          -- the header that `RUN` reads first decides, if it fails its two checks (R101, R103)
          if e.op = 1 ∧ !imageFormOk h 3 (some e.imageLen) then fail s (0x7E, 1) false
          else if e.op = 1 ∧ !imageFits h then fail s (0x7E, 3) false
          else fail s (0x7E, 1) true
        | .ok i =>
          let i := countedImage i
          let budget := if e.op = 5 then budgetOf (s.cycleN e.target) (s.rd Reg.Cue.SEAL_LEAD [e.target]) else 0
          let chk := s.checkImage i (if e.op = 5 then 2 else 3) (some e.imageLen) t budget
          if chk ≠ (0, 0) then fail s chk false
          else if e.op = 5 then
            State.complete { s with cpu := { s.cpu with nextImages := s.cpu.nextImages.put e.target i } } j 0 0 0 0 0 false
          else if e.op = 1 then s.startScript i e j p
          else if 98304 < (s.cpu.residents.map (fun r => r.img.icount)).sum + i.icount then fail s (0x33, 0) false
          else
            let (k, s) := s.choose (2 ^ 32 - s.cpu.residents.length)
            let h := kthFree (sortBy (fun a b => decide (a ≤ b)) (s.cpu.residents.map (·.handle))) 0 k
            let s := { s with cpu := { s.cpu with residents := s.cpu.residents ++ [Resident.mk h i.tenant i 0 none] } }
            s.complete j 0 0 0 h 0 false

/-- The device takes the entry at a function's `SQ_HEAD` (R103, R104). -/
def State.takeEntry (s : State) (f : Nat) (p : Place) : State :=
  let e := s.headEntry f
  let h := s.rd Reg.Bar.SQ_HEAD [f]
  let j : Job := { func := f, tag := e.tag, index := h, noIrq := e.flags / 2 % 2 == 1, discard := false, resident := 0 }
  let s := (s.wr Reg.Bar.SQ_HEAD [f] ((h + 1) % s.ringSize f Reg.Bar.SQ_LOG2)).wr Reg.Hid.INFLIGHT_F [f] (s.rd Reg.Hid.INFLIGHT_F [f] + 1)
  let s := { s.wr Reg.Hid.RR_FUNC [0] f with host := { s.host with counted := s.host.counted.filter (· != f * 4096 + h) } }
  s.serveEntry f e j p

/-- An entry held by the completion ring's capacity alone is counted once (R103). -/
def State.countStall (s : State) (f : Nat) : State :=
  let k := f * 4096 + s.rd Reg.Bar.SQ_HEAD [f]
  if k ∈ s.host.counted then s else { s.addTo Reg.Bar.STALL_CNT [f] 1 with host := { s.host with counted := s.host.counted ++ [k] } }

/-- Every ring whose entry the completion ring's capacity alone holds has that entry counted (R103). -/
def State.settleStalls (s : State) : State := (List.range 16).foldl (fun s f => if s.taking f == .stalled then s.countStall f else s) s

/-- A write to BAR0 by the host: an entry that was held before it, or is from it on, is counted. -/
def State.hostWrite (s : State) (f off size v : Nat) : State := (s.settleStalls.barWrite f off size v).settleStalls

/-- `SQ_TAIL` (R102): the host has written entries from the present tail on, and writes the doorbell. -/
def execSqTail (f v : Nat) (es : List SubEntry) (s : State) : Out' :=
  if 16 ≤ f then .next s
  else
    let n := s.ringSize f Reg.Bar.SQ_LOG2
    let t := s.rd Reg.Bar.SQ_TAIL [f]
    .next ((es.zipIdx.foldl (fun s x => s.writeSlot f ((t + x.2) % n) x.1) s).hostWrite f 0x1010 8 v)

/-- `CQ_HEAD` (R102). -/
def execCqHead (f v : Nat) (s : State) : Out' := .next (s.hostWrite f 0x1030 8 v)

/-- `EQ_HEAD` (R102). -/
def execEqHead (f v : Nat) (s : State) : Out' := .next (s.hostWrite f 0x1050 8 v)

/-- `SQ_EN` (R97): a write of the word with `SQ_LOG2` as it is. -/
def execSqEn (f : Nat) (on : Bool) (s : State) : Out' := .next (s.hostWrite f 0x1008 8 (s.rd Reg.Bar.SQ_LOG2 [f] + 256 * bit on))

/-- `CQ_EN` (R97). -/
def execCqEn (f : Nat) (on : Bool) (s : State) : Out' := .next (s.hostWrite f 0x1028 8 (s.rd Reg.Bar.CQ_LOG2 [f] + 256 * bit on))

/-- `EQ_EN` (R97). -/
def execEqEn (f : Nat) (on : Bool) (s : State) : Out' := .next (s.hostWrite f 0x1048 8 (s.rd Reg.Bar.EQ_LOG2 [f] + 256 * bit on))

/-- One attempt to take the next entry of a function. -/
def State.tryTake (s : State) (f : Nat) (p : Place) : State := if s.taking f = .ready then (s.takeEntry f p).settleStalls else s

/-- The function whose entry is taken next: the first one with an entry ready, in round robin after the one served last (R104). -/
def State.nextFunc (s : State) : Option Nat :=
  ((List.range 16).map (fun i => (s.rd Reg.Hid.RR_FUNC [0] + 1 + i) % 16)).find? (fun f => s.taking f == .ready)

/-- `SQ_TAKE` (R103, R104): the device takes the entry of the next function, in round robin, that has one ready; entries that the completion rings' capacity
holds are counted. -/
def execSqTake (p : Place) (s : State) : Out' :=
  let s := s.settleStalls
  .next (match s.nextFunc with
  | some f => (s.takeEntry f p).settleStalls
  | none => s)

/-- The host writes an entry at its tail and rings the doorbell; the device takes it if R103 allows and it is this function's turn (R104). -/
def State.submit (s : State) (f op : Nat) (e : SubEntry) (p : Place) : State :=
  if 16 ≤ f then s
  else
    let t := s.rd Reg.Bar.SQ_TAIL [f]
    let n := s.ringSize f Reg.Bar.SQ_LOG2
    let s := (s.writeSlot f t { e with op := op }).hostWrite f 0x1010 8 ((t + 1) % n)
    if s.rd Reg.Bar.SQ_HEAD [f] ≠ t ∨ (s.taking f = .ready ∧ s.nextFunc ≠ some f) then s else s.tryTake f p

/-- `RUN` (R99): fetch a script image and run it once. -/
def execRun (f : Nat) (e : SubEntry) (p : Place) (s : State) : Out' := .next (s.submit f 1 e p)

/-- `RUN_RESIDENT` (R99). -/
def execRunResident (f : Nat) (e : SubEntry) (p : Place) (s : State) : Out' := .next (s.submit f 2 e p)

/-- `LOAD_RESIDENT` (R99). -/
def execLoadResident (f : Nat) (e : SubEntry) (p : Place) (s : State) : Out' := .next (s.submit f 3 e p)

/-- `UNLOAD_RESIDENT` (R99). -/
def execUnloadResident (f : Nat) (e : SubEntry) (p : Place) (s : State) : Out' := .next (s.submit f 4 e p)

/-- `LOAD_PROMPTER` (R99). -/
def execLoadPrompter (f : Nat) (e : SubEntry) (p : Place) (s : State) : Out' := .next (s.submit f 5 e p)

/-- `NOP` (R99). -/
def execNop (f : Nat) (e : SubEntry) (p : Place) (s : State) : Out' := .next (s.submit f 6 e p)

/-! ### Scripts (R30, R59) and interrupts (R108) -/

/-- `SCRIPT_RUN_LIMIT` (R59): a script has executed as many cycles as its image allows. -/
def execScriptRunLimit (cx : Cx) (s : State) : Out' :=
  match s.ctx? cx with
  | none => .next s
  | some c =>
    if c.kind ≠ .script ∨ c.limit = 0 ∨ c.cycles < c.limit ∨ c.ended.isSome then .next s
    else .next ((s.raiseFor c.tenant 0x82 0 []).stopScript cx c 0x7E 6)

/-- Tenant 0 has cleared a tenant's `EN` (R30): its running scripts stop at their next boundary. -/
def State.stopTenant (s : State) (t : Nat) : State :=
  s.cpu.ctxs.foldl (fun s c =>
    if c.2.kind = .script ∧ c.2.tenant = t then
      match s.ctx? ⟨c.1 / 16, c.1 % 16⟩ with
      | some x => s.killScript ⟨c.1 / 16, c.1 % 16⟩ x 0x7F 7
      | none => s
    else s) s

/-- `COAL_US_EXPIRY` (R108): the coalescing time of a function's completions, or of its event records, has run. -/
def execCoalUsExpiry (f : Nat) (events : Bool) (s : State) : Out' :=
  if 16 ≤ f then .next s
  else
    let (unsig, since, vec, b) := if events then (Reg.Hid.EQ_UNSIG, Reg.Hid.EQ_COAL_AT, Reg.Bar.EQ_VEC, 1) else (Reg.Hid.CQ_UNSIG, Reg.Hid.CQ_COAL_AT, Reg.Bar.CQ_VEC, 0)
    let us := s.rd Reg.Bar.COAL_US [f]
    let a := s.rd since [f]
    if us = 0 ∨ a = 0 ∨ !(s.rd Reg.Bar.IRQ_EN [f]).testBit b then .next s
    else
      let s := s.advanceTo (a - 1 + usTicks us)
      .next (((s.wr unsig [f] 0).wr since [f] 0).msix f (s.rd vec [f]))

/-! ### Host-side resets (R115, R522) -/

/-- A function's ring block, `HOST_ERR`, `IRQ_EN` and MSI-X table return to their reset values; the scripts it started run on unheard. -/
def State.resetFunction (s : State) (f : Nat) : State :=
  let b := Reg.Bar.SQ_BASE.addr [f]
  let s := s.clearRange b (b + 0x98)
  let s := [Reg.Hid.CQ_PHASE, Reg.Hid.EQ_PHASE, Reg.Hid.INFLIGHT_F, Reg.Hid.CQ_UNSIG, Reg.Hid.CQ_COAL_AT, Reg.Hid.EQ_UNSIG, Reg.Hid.EQ_COAL_AT].foldl
    (fun s x => s.clearFields [x] [f]) s
  let s := (s.clearRange (Reg.Hid.MSIX_MASK.addr [f, 0]) (Reg.Hid.MSIX_MASK.addr [f + 1, 0])).clearRange (Reg.Hid.MSIX_PEND.addr [f, 0]) (Reg.Hid.MSIX_PEND.addr [f + 1, 0])
  let mute := fun (j : Option Job) => match j with | some x => if x.func = f then some { x with discard := true } else j | none => none
  { s with
    cpu := { s.cpu with
      ctxs := s.cpu.ctxs.map (fun c => (c.1, { c.2 with job := mute c.2.job }))
      residents := s.cpu.residents.map (fun r => { r with unload := mute r.unload }) }
    host := { s.host with counted := s.host.counted.filter (fun k => k / 4096 != f) } }

/-- All host-side state returns to reset (R115): every function, the page tables, `PB_WIN`; SR-IOV is disabled. -/
def State.resetHost (s : State) : State :=
  let s := (List.range 16).foldl State.resetFunction s
  let s := s.clearRange (Reg.Bar.GROUP.addr [0]) (Reg.Bar.GROUP.addr [256])
  let s := s.clearRange (Reg.Bar.VF_GROUP.addr [1, 0]) (Reg.Bar.VF_GROUP.addr [16, 0])
  (s.wr Reg.Bar.PB_WIN [] 0).wr Reg.Hst.VFS_EN [] 0

/-- The PCIe link goes down (R109). -/
def State.linkDown (s : State) : State := ((s.wr Reg.Hst.LINK_UP [] 0).wr Reg.Hst.LINK_GTS [] 0).wr Reg.Hst.LINK_WIDTH [] 0

/-- `FUNCTION_LEVEL_RESET` (R115) of VF v. -/
def execFunctionLevelReset (v : Nat) (s : State) : Out' := if 1 ≤ v ∧ v ≤ 15 then .next (s.resetFunction v) else .next s

/-- `PF_RESET` (R115): an FLR of the PF or a hot reset, or the link goes down. -/
def execPfReset (down : Bool) (s : State) : Out' := .next (if down then s.resetHost.linkDown else s.resetHost)

/-- `PERST_N` (R522): only the PCIe endpoint resets, as when the link goes down. -/
def execPerstN (s : State) : Out' := .next s.resetHost.linkDown

/-- The rates (2 for 2.5 GT/s) and widths at which the link trains (R93). -/
def linkOk (gts width : Nat) : Bool := [2, 5, 8, 16, 32].contains gts && [1, 2, 4, 8].contains width

/-- `PCIE_LINK_UP` (R93, R109, R115): the link is up at a rate and a width; it comes up at no other. -/
def execPcieLinkUp (gts width : Nat) (s : State) : Out' :=
  .next (if linkOk gts width then ((s.wr Reg.Hst.LINK_UP [] 1).wr Reg.Hst.LINK_GTS [] gts).wr Reg.Hst.LINK_WIDTH [] width else s)

end Sys2Proof.Machine
end

