-- ==== Sys2Proof/Machine/Views.lean ====
section
/-! DEFINITION. What an object word reads as: the fields whose value is not a stored one, and the words of R7. -/

namespace Sys2Proof.Machine

/-- Who makes an object access (R28, R31): the context with its kind and tenant, and whether it reached this unit from the twin. -/
structure Who where
  cx : Cx
  kind : CtxKind
  tenant : Nat
  remote : Bool
deriving DecidableEq, Repr

/-- A live context as the maker of an access. -/
def whoOf (cx : Cx) (c : Ctx) : Who := { cx := cx, kind := c.kind, tenant := c.tenant, remote := false }

/-- The running context behind an alias object (R109, R392, R412); none for an access from the twin. -/
def State.own (s : State) (w : Who) : Option Ctx := if w.remote then none else s.ctx? w.cx

/-- Whether a requester is a script. -/
def Who.isScript (w : Who) : Bool := w.kind == .script

/-- Entry `e` of a tree's standing list as it stands (R200): a removed entry is in the list until the next frame (R80). -/
def State.standingAt (s : State) (z e : Nat) : Option Standing := (s.tree z).standing[e]?

/-- The rule of an ID in the newest set that holds it (R300). -/
def State.ruleAt (s : State) (r : Nat) : Option Rule := s.newest (fun v => v.rules.get? r)

/-- A forwarding entry by its number, as its view shows it. -/
def State.entNo (s : State) (h : Nat) : Option FEnt := s.fwd.table.get? h

/-- The buffer that a view names, in the generation it names (R351). -/
def State.bufView (s : State) (ix : List Nat) : Option Buf :=
  let k := bufKey (ix.getD 0 0) (ix.getD 1 0)
  match s.bufs.get? k with
  | some b => if b.gen = ix.getD 2 0 then some b else none
  | none => none

/-- The seconds until an extended stage time held as itself plus one; 0 where none is held. -/
def State.secondsTo (s : State) (f : Field) (ix : List Nat) : Nat :=
  if s.rd f ix = 0 then 0 else (s.rd f ix - 1 - s.ext + 6220799999) / 6220800000

/-- A snapshot word of a context (R412): in a unit whose context ended it is that of the script now in its place. -/
def State.snapWord (s : State) (w : Who) (i : Nat) : Nat := if w.remote then 0 else s.rd Reg.Hid.SNAP [ctxNo w.cx, i]

/-- A field as a read finds it. -/
def State.view (s : State) (w : Who) (f : Field) (ix : List Nat) : Nat :=
  let a := ix.getD 0 0
  let b := ix.getD 1 0
  let mask := 2 ^ f.w
  (match f.view with
  | .stored => s.rd f ix
  | .ticketsHeld => s.cpu.tickets.countP (fun t => t.2.tenant == a && t.2.ctx != 0)
  | .ctxRunning => s.ctxRunning a
  | .ticketFree => 4096 - s.cpu.tickets.length
  | .ticketLow => if s.flag Reg.Hid.LOW_READ [5] then 0 else 4096 - s.rd Reg.Hid.TIX_LOW [0]
  | .freeMin => if s.flag Reg.Hid.LOW_READ [a] then 0 else s.rd Reg.Buf.FREE_MIN [a]
  | .selfRes0 => match s.own w with | some c => if w.isScript then c.res0.toNat else 0 | none => 0
  | .selfRes1 => match s.own w with | some c => if w.isScript then c.res1.toNat else 0 | none => 0
  | .selfFunc => match s.own w with | some c => (match c.job with | some j => j.func | none => 0) | none => 0
  | .selfTenant => if w.isScript && !w.remote then w.tenant else 0
  | .selfTag => match s.own w with | some c => (match c.job with | some j => j.tag | none => 0) | none => 0
  | .sqHeadF => s.rd Reg.Bar.SQ_HEAD [a]
  | .cqTailF => s.rd Reg.Bar.CQ_TAIL [a]
  | .cqStallF => bit (s.taking a == .stalled)
  | .changeOk => bit (s.changeOk a)
  | .profileLong => (s.rate a).long
  | .guard => (s.rate a).guard
  | .profileShort => (s.rate a).short
  | .discW => s.discW a
  | .rangeW => s.rangeW a
  | .dPre => s.dPre a
  | .stAlloc => match s.standingAt a b with | some t => t.alloc | none => 0
  | .stValid => bit (s.standingAt a b).isSome
  | .stPeriod => match s.standingAt a b with | some t => t.period | none => 0
  | .stPhase => match s.standingAt a b with | some t => (t.frame % t.period).toNat | none => 0
  | .stLong => match s.standingAt a b with | some t => bit t.long | none => 0
  | .stStart => match s.standingAt a b with | some t => t.start | none => 0
  | .stSize => match s.standingAt a b with | some t => t.size | none => 0
  | .stateWin => (s.cpu.win.get (a * 2 ^ 16 + b)).toNat
  | .pdata => if s.server a = 0x7F then 0 else (s.dataWord ⟨s.server a, 0⟩ b).toNat
  | .wingsFree => s.freeWings.length
  | .unit => s.env.unit
  | .pairOk => bit s.pairOk
  | .eligible => bit (s.eligible a)
  | .prioAdv => s.prioAdv a
  | .wtrLeft => s.secondsTo Reg.Hid.WTR_END [a]
  | .holder => s.holder a
  | .holdCur => s.holders (s.rd Reg.Sve.V_CUR [])
  | .holdPrev => s.holders (s.rd Reg.Sve.V_PREV [])
  | .rowsFree => 4096 - (s.rowsHeld a).length
  | .node => (s.sieve.cur.nodes.get (4 * a + b)).toNat
  | .arc => (s.sieve.cur.arcs.get a).toNat
  | .profile => (s.sieve.cur.profiles.get (32 * a + b)).toNat
  | .start => s.sieve.cur.start a
  | .rulePrio => match s.ruleAt a with | some r => r.prio | none => 0
  | .ruleWidth => match s.ruleAt a with | some r => r.width | none => 0
  | .ruleTenant => match s.ruleAt a with | some r => r.tenant | none => 0
  | .ruleBank => match s.ruleAt a with | some r => r.bank | none => 0
  | .ruleRow => match s.ruleAt a with | some r => r.row | none => 0
  | .rulePresent => bit (s.ruleAt a).isSome
  | .inCur => bit (s.sieve.cur.rules.get? a).isSome
  | .inPrev => bit (s.sieve.prev.rules.get? a).isSome
  | .inStaged => bit (s.sieve.staged.rules.get? a).isSome
  | .ruleCnt => match s.ruleAt a with | some r => r.cnt | none => 0
  | .ruleCntEn => match s.ruleAt a with | some r => bit r.cntEn | none => 0
  | .ruleAction => match s.ruleAt a with | some r => r.action | none => 0
  | .ruleValue => match s.ruleAt a with | some r => (r.vals.getD b 0).toNat | none => 0
  | .ruleMask => match s.ruleAt a with | some r => (r.masks.getD b 0).toNat | none => 0
  | .pattern => match s.newest (fun v => v.pats.get? a) with | some p => (p.getD b 0).toNat | none => 0
  | .macCount => s.macCount a b
  | .eKey0 => match s.entNo a with | some e => fwdKey0 e.svc e.mac | none => 0
  | .eKey1 => match s.entNo a with | some e => e.mac % 2 ^ 32 | none => 0
  | .eData => match s.entNo a with | some e => e.data | none => 0
  | .eGen => s.rd Reg.Hid.FWD_GEN [a]
  | .ePresent => bit (s.entNo a).isSome
  | .eParity => match s.entNo a with | some e => bit e.parity | none => 0
  | .eBucket => match s.entNo a with | some e => e.bucket | none => 0
  | .eWay => match s.entNo a with | some e => e.way | none => 0
  | .qDepth => s.qDepth a b
  | .bufOwner => match s.bufView ix with | some x => x.owner | none => 0
  | .bufTenant => match s.bufView ix with | some x => x.tenant | none => 0
  | .bufInUse => match s.bufView ix with | some x => bit x.inUse | none => 0
  | .bufHwDone => match s.bufView ix with | some x => bit x.hwDone | none => 0
  | .bufTesting => match s.bufView ix with | some x => bit x.testing | none => 0
  | .bufShares => match s.bufView ix with | some x => x.shares | none => 0
  | .bufGen => match s.bufView ix with | some x => x.gen | none => 0
  | .rand => if s.flag Reg.Key.ENT_OK [] then (Config.rand s.freeCtr).toNat else 0
  | .randValid => s.rd Reg.Key.ENT_OK []
  | .creq => if w.remote then 0 else s.rd Reg.Hid.CREQ [ctxNo w.cx, a]
  | .cstat => if w.remote then 0 else s.rd Reg.Hid.CSTAT [ctxNo w.cx]
  | .stageNow => s.now
  | .stageWraps => s.ext / 2 ^ 40
  | .carry => ptpWord (s.carryAtTime s.ext)
  | .snStage => s.snapWord w 0
  | .snNs => s.snapWord w (1 + 3 * a)
  | .snSec => s.snapWord w (2 + 3 * a)
  | .snSecHi => s.snapWord w (3 + 3 * a)
  | .snEpoch => s.snapWord w 10
  | .snOutDom => s.snapWord w 11
  | .fecSel => s.fecSel a
  | .inTxSet => bit (decide (64 ≤ a) && (s.rd Reg.Lan.TX_SET []).testBit (a - 64))
  | .inRxSet => bit (decide (64 ≤ a) && (s.rd Reg.Lan.RX_SET []).testBit (a - 64))
  | .segWord => ((s.xmem.words.get? a).getD (Config.memInit s.xmem.epoch (s.segBase + 8 * a))).toNat
  | .pbBase => s.pbBase
  | .segBase => s.segBase
  | .segFree => s.segWords / 8192 - ((s.listed Reg.Mem.G_USED []).filter (fun g => decide (g < s.segWords / 8192))).length
  | .mixed => bit (s.mixedGroup a)
  | .dipHoldLeft => s.secondsTo Reg.Hid.DIP_END [0]
  | .bootTime => if s.timeOn then (Config.freeWord (s.rd Reg.Hid.BOOT_FREE [0] - 1)).toNat + s.rd Reg.Hid.BOOT_ADD [0] + s.ext - s.rd Reg.Hid.BOOT_E [0] else s.freeNat 40
  | .thAbove => bit (s.above a)
  | .railMa => if 5 ≤ a then s.freeNat 16 else 0) % mask

/-! ### Words (R7, R8, R17) -/

/-- The fields of a block's map. -/
def blockFields : Nat → List Field
  | 0x01 => Reg.Pon.all | 0x02 => Reg.Cue.all | 0x03 => Reg.Rng.all | 0x04 => Reg.Sve.all | 0x05 => Reg.Fwd.all | 0x06 => Reg.Que.all
  | 0x07 => Reg.Buf.all | 0x08 => Reg.Key.all | 0x09 => Reg.Tim.all | 0x0A => Reg.Twn.all | 0x0B => Reg.Lan.all | 0x0C => Reg.Mem.all
  | 0x0D => Reg.Cnt.all | 0x0E => Reg.Reh.all | 0x0F => Reg.Pwr.all | 0x10 => Reg.Aut.all | 0x11 => Reg.Hst.all
  | _ => []

/-- Whether a lane number of block 0x0B is a twin lane's. -/
def twinLane (ix : List Nat) : Bool := decide (64 ≤ ix.getD 0 0)

/-- Whether a field exists at its indexes: lanes have the fields of their kind (R435), and only queues have limits (R344). -/
def fieldExists (f : Field) (ix : List Nat) : Bool :=
  (match f.sel with | 1 => !twinLane ix | 2 => twinLane ix | _ => true) &&
  !((f == Reg.Lan.TAP || f == Reg.Lan.TAP_LIM) && twinLane ix && decide (8 ≤ ix.getD 1 0)) &&
  !((f == Reg.Que.QLIMIT || f == Reg.Que.YLIMIT) && ix.getD 0 0 != 4)

/-- A field where it occupies a word: the field and its indexes. -/
abbrev Slot' := Field × List Nat

/-- The fields that an object word holds. -/
def slotsAt (addr : Nat) : List Slot' :=
  (blockFields (addr / 2 ^ 34)).filterMap (fun f =>
    match f.at? addr with
    | some ix => if fieldExists f ix then some (f, ix) else none
    | none => none)

/-- The objects of a twin that solo mode, or per-tree objects that graft-wide mode, has no use for read their reset values (R269). -/
def State.dormant (s : State) (addr : Nat) : Bool :=
  let o := addr % 2 ^ 34
  match addr / 2 ^ 34 with
  | 0x0A => if s.pairing = 0 then o != 7 else s.pairing == 1 && decide (0x100 ≤ o)
  | 0x0B => s.pairing == 0 && decide (64 * 256 ≤ o)
  | _ => false

/-- One field of a word, as a load returns it: a write-only field reads 0 (R7). -/
def State.fieldRead (s : State) (w : Who) (addr : Nat) (x : Slot') : Nat :=
  if x.1.acc == .wo then 0 else if s.dormant addr then x.1.rst.val x.2 s.env else s.view w x.1 x.2

/-- The word at an object address as a load returns it. -/
def State.wordRead (s : State) (w : Who) (addr : Nat) : Word :=
  BitVec.ofNat 40 (((slotsAt addr).map (fun x => s.fieldRead w addr x * 2 ^ x.1.lo)).sum)

/-- What a read changes: it sets a read-to-clear field to zero, and a value read from an open source is never read twice (R7, R390). The two fields that
show a lowest level "since last read" (R32, R346) read zero from then until that level next changes, and begin again from the level of the read
(DEDUCED, log 26). -/
def State.afterRead (s : State) (addr : Nat) : State :=
  if s.dormant addr then s
  else (slotsAt addr).foldl (fun s x =>
    if x.1.view == .ticketLow then (s.wr Reg.Hid.TIX_LOW [0] s.cpu.tickets.length).wr Reg.Hid.LOW_READ [5] 1
    else if x.1.view == .freeMin then (s.wr Reg.Buf.FREE_MIN x.2 (s.rd Reg.Buf.FREE x.2)).wr Reg.Hid.LOW_READ x.2 1
    else if x.1.acc == .rc then s.wr x.1 x.2 0
    else if x.1.view == .rand || x.1.view == .railMa || (x.1.view == .thAbove && s.rd Reg.Cnt.TH_KIND x.2 == 7) || (x.1.view == .bootTime && !s.timeOn) then { s with freeCtr := s.freeCtr + 1 }
    else s) s

end Sys2Proof.Machine
end

