-- ==== Sys2Proof/Machine/Checks.lean ====
section
/-! DEFINITION. When an object word may be written (R7, R8, R27, R28): the participation of its fields, and what each field refuses. -/

namespace Sys2Proof.Machine

/-- A field as a write changes it. -/
structure Chg where
  f : Field
  ix : List Nat
  v : Nat
deriving DecidableEq, Repr

/-- A refusal: completion code and subcause. -/
abbrev Sub := Nat × Nat

/-- `DENIED` with a subcause. -/
def deny (n : Nat) : Sub := (0x7F, n)

/-- `deny n` where a condition holds. -/
def denyIf (b : Bool) (n : Nat) : List Sub := if b then [deny n] else []

/-- The order in which R28 stops: reserved block, life cycle, context type, tag, operator field, field value, then what a block answers otherwise. -/
def subRank (x : Sub) : Nat := if x.1 ≠ 0x7F then 6 else match x.2 with | 5 => 0 | 4 => 1 | 1 => 2 | 2 => 3 | 3 => 4 | _ => 5

/-- The refusal that R28 meets first. -/
def firstSub (l : List Sub) : Option Sub := (sortBy (fun a b => decide (subRank a ≤ subRank b)) l).head?

/-! ### Authority over a word (R17, R27, R28) -/

/-- Whether a requester has tenant 0's authority: the system context and scripts of tenant 0 (R27). -/
def Who.operator (w : Who) : Bool := w.kind == .system || (w.kind == .script && w.tenant == 0)

/-- Whether a prompter of tree `z` may read an object: its tree's objects in blocks 0x01 to 0x03, and block 0x09. -/
def prompterReads (z addr : Nat) : Bool :=
  let o := addr % 2 ^ 34
  match addr / 2 ^ 34 with
  | 1 => decide (o < 0x400000) && o / 0x10000 == z
  | 2 => (decide (o < 0x800000) && o / 0x20000 == z) || (decide (0x1000000 ≤ o) && decide (o < 0x1200000) && (o - 0x1000000) / 0x8000 == z)
  | 3 => decide (o < 0x400000) && o / 0x10000 == z
  | 9 => true
  | _ => false

/-- The words of block 0x0D that show counters, and the counter: `CNT`, `WRAP` and `LAST` (R471). -/
def counterWord (addr : Nat) : Option Nat :=
  if addr / 2 ^ 34 = 0x0D ∧ addr % 2 ^ 34 < 0xC00000 then some (addr % 2 ^ 34 % 0x400000) else none

/-- Objects that only tenant 0 and the system context may touch, whatever their tag: block 0x10 (R32), the event history (R469) and the traces (R470). -/
def operatorOnly (addr : Nat) : Bool := addr / 2 ^ 34 == 0x10 || (addr / 2 ^ 34 == 0x0D && decide (0xC30000 ≤ addr % 2 ^ 34))

/-- The views `DIGEST`, `STATE_WIN` and `PDATA` of block 0x02, which among scripts only tenant 0's read, whatever a region entry says (R36, R213). -/
def operatorView (addr : Nat) : Bool :=
  let o := addr % 2 ^ 34
  addr / 2 ^ 34 == 2 &&
    ((decide (o < 0x800000) && ((decide (0x2000 ≤ o % 0x20000) && decide (o % 0x20000 < 0x3000)) || decide (0x10000 ≤ o % 0x20000))) ||
      (decide (0x1000000 ≤ o) && decide (o < 0x1200000)))

/-- The checks of authority on one word (R27, R28 items 1, 3 and 4). -/
def State.authority (s : State) (w : Who) (addr : Nat) (write : Bool) : List Sub :=
  let blk := addr / 2 ^ 34
  if blk = 0 ∨ 0x11 < blk then [deny 5]
  else
    match w.kind with
    | .prompter z => denyIf (write || !prompterReads z addr) 1
    | .system => []
    | .script =>
      let t := w.tenant
      if t = 0 then []
      else if operatorOnly addr then denyIf (write || !(addr == Reg.Aut.EN.addr [t] || addr == Reg.Aut.TICKETS_HELD.addr [t])) 2
      else if operatorView addr then [deny 2]
      else
        let own := tagOf s t addr == t
        denyIf (!own && (write || !s.publicRead addr)) 2 ++
          denyIf (!write && own && (match counterWord addr with | some n => s.mixedGroup (n / 8192) | none => false)) 2

/-- Whether an object word lies in external memory's segment space (R441). -/
def segAddr (addr : Nat) : Bool := addr / 2 ^ 34 == 0x0C && decide (addr % 2 ^ 34 < 0x3C0000000)

/-- What external memory refuses of a word: everything before `MEM_OPEN` (R436), and words past the layout (R441). -/
def State.memoryRefuses (s : State) (addr : Nat) : List Sub :=
  denyIf (segAddr addr && (!s.flag Reg.Mem.MEM_OPEN [] || decide (s.segWords ≤ addr % 2 ^ 34))) 6 ++
    denyIf ((match counterWord addr with | some n => decide (131072 ≤ n) | none => false) && !s.flag Reg.Mem.MEM_OPEN []) 6

/-! ### Which fields a write changes (R7) -/

/-- Fields that read as RO in some indexes or states. -/
def State.readOnlyNow (s : State) (f : Field) (ix : List Nat) : Bool :=
  let a := ix.getD 0 0
  let b := ix.getD 1 0
  if f == Reg.Aut.EN || f == Reg.Aut.VF then a == 0
  else if f == Reg.Aut.OPKEY || f == Reg.Aut.OPKEY_VALID || f == Reg.Aut.OPKEY_LOCK then s.flag Reg.Aut.OPKEY_LOCK [a]
  else if f == Reg.Cue.ALLOC_ID || f == Reg.Cue.TERM then decide (b ≤ 1019) && !s.isEpon a
  else if f == Reg.Pon.VALID then b == 1020
  else if f == Reg.Que.PARENT then decide (a ≤ 2)
  else if f == Reg.Tim.ONE_STEP then a == 32
  else if f == Reg.Lan.FEC_SEL then decide (4 ≤ s.rd Reg.Lan.UL_MODE [a])
  else if f == Reg.Cnt.TENANT then a == 13 || a == 14 || a == 15
  else false

/-- Acts that every accepted write of their field sets off, whatever the value: presets (R136) and the time-of-day latch (R413). -/
def Act.always : Act → Bool
  | .preset | .tod => true
  | _ => false

/-- Acts of write-only fields for which 0 is a value like any other. -/
def Act.zeroToo : Act → Bool
  | .ofsIn | .tsPop | .switchD | .selfEnd | .wdogKick | .lcToken | .snap => true
  | _ => false

/-- Whether a write of value `v` changes or sets off a field (R7). -/
def State.takesPart (s : State) (w : Who) (f : Field) (ix : List Nat) (v : Nat) : Bool :=
  match f.acc with
  | .ro => false
  | .rc => false
  | .w1c => v != 0
  | .wo => v != 0 || f.act.zeroToo
  | .rw => !s.readOnlyNow f ix && (f.act.always || s.view w f ix != v)

/-- Whether a store of the pairing word chooses the mode (R232): a store that leaves `PAIR_WAIT` as it is does, even of the value `PAIR_SEL` holds, so that
the first chooses it and a later one is refused. -/
def State.choosesPair (s : State) (f : Field) (v : Nat) : Bool :=
  f.act == .pairSel && v / 8 % 2 ^ 16 == s.rd Reg.Twn.PAIR_WAIT []

/-- The bits of a word that belong to a field. -/
def fieldBits (l : List Slot') : Nat := l.foldl (fun m x => m ||| ((2 ^ x.1.w - 1) * 2 ^ x.1.lo)) 0

/-- The fields that a store of `v` takes part in. -/
def State.changes (s : State) (w : Who) (l : List Slot') (v : Nat) : List Chg :=
  l.filterMap (fun x =>
    let n := v / 2 ^ x.1.lo % 2 ^ x.1.w
    if s.takesPart w x.1 x.2 n || s.choosesPair x.1 v then some (Chg.mk x.1 x.2 n) else none)

/-! ### Raw stores -/

/-- Acts whose own operation stores the field. -/
def Act.owns : Act → Bool
  | .portWord | .ulMode | .ulEn | .power | .slewPpm | .evMask | .owner | .shares | .creqWord | .selfRes0 | .selfRes1 | .holderW | .pairSel | .state => true
  | _ => false

/-- Stores a changed field as its access code says. -/
def State.rawStore (s : State) (c : Chg) : State :=
  match c.f.acc with
  | .w1c => s.wr c.f c.ix (s.rd c.f c.ix &&& ((2 ^ c.f.w - 1) ^^^ c.v))
  | .wo => if c.f.act == .lcToken then s.wr c.f c.ix c.v else s
  | _ => s.wr c.f c.ix c.v

/-- The state that a write's values would give, before any of its effects: what the checks of several fields judge together. -/
def State.stored (s : State) (cs : List Chg) : State := cs.foldl State.rawStore s

/-! ### What a field refuses (R8 and the rules of its block) -/

/-- Whether another tenant than `t` is bound to a virtual function (R32). -/
def State.vfTaken (s : State) (t vf : Nat) : Bool := vf != 0 && (List.range 64).any (fun u => u != t && u != 0 && s.rd Reg.Aut.VF [u] == vf)

/-- The limits of a tree's ranging words (R158, R160, R181): windows in order, and no terminal whose window they would move. -/
def State.rngLimitsOk (old s : State) (z : Nat) : Bool :=
  let lo := s.rd Reg.Rng.L_MIN [z]
  let hi := s.rd Reg.Rng.L_MAX [z]
  let e := s.rd Reg.Rng.EQD_ZERO [z]
  decide (lo ≤ hi) && decide (hi - lo ≤ 400) && decide (rHi hi ≤ e) && decide (e ≤ 3657830) &&
    (e == old.rd Reg.Rng.EQD_ZERO [z] || (List.range 1020).all (fun t => !(decide (1 ≤ s.term z t) && decide (s.term z t ≤ 4)))) &&
    (lo == old.rd Reg.Rng.L_MIN [z] || (List.range 1020).all (fun t => s.term z t != stRANGING))

/-- Whether another record of the tree holds a serial number; (0, 0) is none (R155). -/
def State.serialTaken (s : State) (z t : Nat) : Bool :=
  let hi := s.rd Reg.Rng.SN_HI [z, t]
  let lo := s.rd Reg.Rng.SN_LO [z, t]
  (hi, lo) != (0, 0) && (List.range 1020).any (fun u => u != t && s.rd Reg.Rng.SN_HI [z, u] == hi && s.rd Reg.Rng.SN_LO [z, u] == lo)

/-- Whether two enabled allocation records of a tree would hold one `ALLOC_ID` (R189). -/
def State.allocTwice (s : State) (z a : Nat) : Bool :=
  s.flag Reg.Cue.EN [z, a] && (s.listed Reg.Cue.EN [z]).any (fun b => b != a && s.flag Reg.Cue.EN [z, b] && s.rd Reg.Cue.ALLOC_ID [z, b] == s.rd Reg.Cue.ALLOC_ID [z, a])

/-- Whether an Alloc-ID or LLID lies in its mode's range (R188). -/
def State.allocIdOk (s : State) (z v : Nat) : Bool := if s.isEpon z then decide (v ≤ 0x7FFD) else decide (1024 ≤ v) && decide (v ≤ 16383)

/-- Whether two enabled flow records of a tree would hold one `FLOW_ID` (R308). -/
def State.flowTwice (s : State) (z f : Nat) : Bool :=
  s.flag Reg.Fwd.F_EN [z, f] && (s.listed Reg.Fwd.F_EN [z]).any (fun g => g != f && s.flag Reg.Fwd.F_EN [z, g] && s.rd Reg.Fwd.FLOW_ID [z, g] == s.rd Reg.Fwd.FLOW_ID [z, f])

/-- What a group word refuses (R332). -/
def State.groupRefuses (s : State) (g : Nat) : List Sub :=
  let base := s.rd Reg.Fwd.G_BASE [g]
  let n := s.rd Reg.Fwd.G_COUNT [g]
  let t := s.rd Reg.Fwd.G_TENANT [g]
  if 4096 < n ∨ 262144 < base + n then [deny 6]
  else
    let ms := (List.range n).map (fun i => base + i)
    denyIf (ms.any (fun m => decide (2 ≤ dKind (s.rd Reg.Fwd.M_DEST [m])))) 6 ++
      denyIf (ms.any (fun m => tagOf s 0 (Reg.Fwd.M_DEST.addr [m]) != t || !s.destAllowed t (s.rd Reg.Fwd.M_DEST [m]))) 2

/-- Whether a destination breaks rule 2 of R313 for a group whose list holds member entry `m` (R314). -/
def State.memberForeign (s : State) (m d : Nat) : Bool :=
  (s.listed Reg.Fwd.G_COUNT []).any (fun g =>
    let base := s.rd Reg.Fwd.G_BASE [g]
    decide (base ≤ m) && decide (m < base + s.rd Reg.Fwd.G_COUNT [g]) && !s.destAllowed (s.rd Reg.Fwd.G_TENANT [g]) d)

/-- What a binding of slot `n` refuses (R377, R391); `tenant` is that of the bound terminal's record, where there is one; `tx` that the slot is bound to transmit. -/
def State.bindRefuses (s : State) (n : Nat) (tenant : Option Nat) (tx : Bool) : List Sub :=
  denyIf ((decide (1 ≤ n) && decide (n ≤ 63)) || decide (147455 < n)) 6 ++
    denyIf (match tenant with | some t => n != 0 && s.rd Reg.Key.TENANT [n] != 0 && s.rd Reg.Key.TENANT [n] != t | none => false) 2 ++
    denyIf (tx && n != 0 && s.pairing != 0 && s.flag Reg.Hid.TWIN_BOUND [n] && (s.rd Reg.Key.MODE [n]) ∈ [6, 8, 10, 12, 14]) 6

/-- The tenant a context runs for, as owner of a buffer (R352, R355). -/
def State.ownerTenant (s : State) (o : Nat) : Option Nat :=
  let k := o / 2 ^ 26
  let core := o % 2 ^ 26 / 64
  let ctx := o % 64
  if k = 1 then
    if 72 ≤ core ∧ core ≤ 79 ∧ 1 ≤ ctx ∧ ctx ≤ 15 then (match s.ctx? ⟨core, ctx⟩ with | some c => some c.tenant | none => none) else none
  else if k = 2 then (if o % 2 ^ 26 < 1024 then some (o % 2 ^ 26 / 16) else none)
  else if k = 3 then (if o % 2 ^ 26 = 0 then some 0 else none)
  else none

/-- The owner word and function by which a requester holds buffers (R352). The system context of either unit is the owner of kind 3; a prompter or script of the
twin (R363) owns no buffer of this unit, bit 28 setting its word apart from that of this unit's context (DEDUCED, log 133). -/
def State.issuerOf (s : State) (w : Who) : Nat × Nat :=
  if w.kind == .system then (ownerSystem, 0)
  else if w.remote then (2 ^ 28 + ownerCtx w.cx.core w.cx.ctx, 16)
  else (ownerCtx w.cx.core w.cx.ctx, match s.own w with | some c => (match c.job with | some j => j.func | none => 0) | none => 0)

/-- What a store to `OWNER` refuses (R355). -/
def State.ownerRefuses (s : State) (w : Who) (ix : List Nat) (v : Nat) : List Sub :=
  match s.bufView ix with
  | none => [deny 6]
  | some b =>
    let (issuer, func) := s.issuerOf w
    let may := b.inUse && (ownerMatches issuer func b.owner || w.kind == .system || (w.operator && b.tenant == 0))
    match s.ownerTenant v with
    | none => [deny 6]
    | some t => denyIf (!may) 6 ++ denyIf (t != b.tenant && !w.operator) 2

/-- The granules that the four on-die pools take (R346). -/
def State.granSum (s : State) : Nat := ((List.range 4).map (fun p => s.rd Reg.Buf.GRAN [p])).sum

/-- The highest `TH_INDEX` of a signal (R460). -/
def signalMax (kind : Nat) : Nat := [0, 262143, 131071, 65535, 63, 255, 4, 96, 0, 0, 0, 0, 0].getD kind 0

/-- Whether setting group `g`'s tenant to `t` would mix tenants (R454). -/
def State.wouldMix (s : State) (g t : Nat) : Bool := decide (16 ≤ g) && decide (1 ≤ t) && (s.wr Reg.Cnt.TENANT [g] t).mixedGroup g

/-- What a changed field refuses. `s` is the state before the write and `n` that of the values stored together. `SEAL_LEAD` is judged against the declared cycles of
the loaded image; an accepted image that still waits for its boundary does not count (R58; DESIGN CHOICE, log 128). -/
def State.refuses (s n : State) (w : Who) (c : Chg) : List Sub :=
  let a := c.ix.getD 0 0
  let b := c.ix.getD 1 0
  let v := c.v
  match c.f.act with
  | .none | .tenEn | .selfRes0 | .selfRes1 | .admin | .disable | .rogueHeld | .preset | .tkoFail | .creqWord | .snap | .slewPpm
  | .prbsInv | .ppsEn | .twLanes | .thEn | .evBucket | .trMode | .eRate | .anEn | .txTap | .evMask | .trFreeze | .trClear | .lcReq | .lcToken => []
  | .tenVf => denyIf (s.vfTaken a v) 6
  | .minVersion => denyIf (decide (v < s.rd Reg.Aut.MIN_VERSION [a])) 6
  | .selfEnd => denyIf (!(completionCodes.contains v)) 6
  | .portWord => denyIf (!s.portOk a (n.rd Reg.Pon.MODE [a]) (n.rd Reg.Pon.UP_RATE [a]) (n.rd Reg.Pon.ROLE [a]) (n.rd Reg.Pon.BOND [a])) 6
  | .light => denyIf (s.pairing == 2 && s.head a) 6
  | .limits => denyIf (!(decide (n.rd Reg.Pon.SF_LIM [a] < n.rd Reg.Pon.SD_LIM [a]))) 6
  | .i2cGo => denyIf (s.flag Reg.Pon.I2C_BUSY [a]) 6
  | .rngLimits => denyIf (!s.rngLimitsOk n a) 6
  | .state => if 5 < v then [deny 6] else [(0x70, 0)]
  | .pwrCmd => denyIf (s.flag Reg.Rng.PWR_BUSY [a, b] || s.isEpon a) 6
  | .rereg => denyIf (s.isEpon a) 6
  | .serial => denyIf ((s.term a b != stIDLE && s.term a b != stDISABLED) || n.serialTaken a b) 6
  | .mapLead => denyIf (!s.changeOk a) 6
  | .gateCycle => denyIf (!s.changeOk a || (!s.isEpon a && v != 1)) 6
  | .sealLead => denyIf (s.flag Reg.Cue.LOADED [a] && decide (budgetOf (n.cycleN a) v < s.rd Reg.Cue.DECLARED [a])) 6
  | .allocId => denyIf (n.allocTwice a b || !s.allocIdOk a v) 6
  | .allocEn => denyIf (n.allocTwice a b) 6
  | .pairSel => denyIf (w.kind != .system) 1 ++ denyIf (s.flag Reg.Twn.PAIR_SET [] || v == 3) 6
  | .holderW => if v = 3 then [deny 6] else [(0x70, 0)]
  | .deltaCfg => denyIf (decide (497664 < (signed 32 v).natAbs)) 6
  | .mirrorDest => denyIf (!((decide (64 ≤ v) && decide (v ≤ 95)) || v == 127)) 6
  | .mirrorTrunc => denyIf (!(v == 0 || (decide (64 ≤ v) && decide (v ≤ 10240)))) 6
  | .flow => denyIf (n.flowTwice a b || (s.isEpon a && decide (0x7FFD < n.rd Reg.Fwd.FLOW_ID [a, b]))) 6
  | .flowQueue => denyIf (!n.queueFits a b v) 6 ++ denyIf (s.rd Reg.Que.N_TENANT [4, v] != n.rd Reg.Fwd.TENANT [a, b]) 2
  | .upPol | .dnPol => denyIf (v != 0 && s.rd Reg.Fwd.P_TENANT [v] != n.rd Reg.Fwd.TENANT [a, b]) 2
  | .upDest | .dnDest => denyIf (!s.destOk v) 6 ++ denyIf (!s.destAllowed (n.rd Reg.Fwd.S_TENANT [a]) v) 2
  | .bcGroup => denyIf (v != 0 && s.rd Reg.Fwd.G_TENANT [v] != n.rd Reg.Fwd.S_TENANT [a]) 2
  | .group => n.groupRefuses a
  | .member => denyIf (decide (2 ≤ dKind v) || !s.destOk v) 6 ++ denyIf (s.memberForeign a v) 2
  | .pir => denyIf (decide (v < s.rd Reg.Fwd.CIR [a])) 6
  | .node_ => denyIf (!n.nodeAdmissible a b) 6
  | .parent => denyIf (s.flag Reg.Que.N_EN [a, b] || s.nodeHolds a b || decide (levelCount (a - 1) ≤ v) || !n.nodeAdmissible a b) 6
  | .yLimit => denyIf (decide (n.rd Reg.Que.QLIMIT [a, b] < v)) 6
  | .bufOpen => denyIf (v == 0) 6
  | .gran => denyIf (s.flag Reg.Buf.BUF_OPEN [] || decide (3062 < n.granSum) || n.rd Reg.Buf.GRAN [3] == 0) 6
  | .eUnits => denyIf (s.flag Reg.Buf.BUF_OPEN [] || s.flag Reg.Mem.MEM_OPEN []) 6
  | .marks => denyIf (!(decide (n.rd Reg.Buf.WM_LOW [a] < n.rd Reg.Buf.WM_HIGH [a])) || decide (s.poolCount a < n.rd Reg.Buf.WM_HIGH [a])) 6
  | .owner => s.ownerRefuses w c.ix v
  | .shares => [deny 6]
  | .scaOff => denyIf (s.lifecycle != 0) 4
  | .keyTenant => denyIf (s.rd Reg.Key.STATE [a] != 0) 6
  | .bindTerm => s.bindRefuses v (some (s.rd Reg.Rng.TENANT [a, b])) (c.f == Reg.Key.DN_SLOT || (c.f == Reg.Key.UP_SLOT && s.tail a))
  | .bindTx => s.bindRefuses v none true
  | .bindRx => s.bindRefuses v none false
  | .rekeyGo => denyIf (s.isEpon a || s.flag Reg.Key.REKEY_BUSY [a, b]) 6
  | .cgo => denyIf (w.remote || s.flag Reg.Hid.CREQ_BUSY [ctxNo w.cx] || !s.ctxReqOk w.cx) 6
  | .ofsIn => []
  | .stepApply | .stepDrop => denyIf (!s.flag Reg.Tim.PEND [a]) 6
  | .switchD => denyIf (!s.flag Reg.Tim.VALID [v]) 6
  | .tsPop => denyIf (!s.tsPopOk a b v) 6
  | .tod => denyIf (!n.todOk a v) 6
  | .ulMode => denyIf (s.flag Reg.Lan.MEMBER [a] || !s.ulModeOk a v || (decide (v ≤ 3) && !fecOk v (n.rd Reg.Lan.FEC_SEL [a]))) 6
  | .ulEn => denyIf (s.flag Reg.Lan.MEMBER [a]) 6
  | .fecMode => denyIf (s.flag Reg.Lan.MEMBER [a] || !fecOk (n.rd Reg.Lan.UL_MODE [a]) v) 6
  | .power => denyIf (!s.powerOk a (s.rd c.f c.ix) v) 6
  | .ctle => denyIf (!(decide (n.rd Reg.Lan.CTLE_MIN [a] ≤ n.rd Reg.Lan.CTLE_MAX [a]))) 6
  | .exps => denyIf (!(decide (n.rd Reg.Lan.SF_EXP [a] < n.rd Reg.Lan.SD_EXP [a]))) 6
  | .prbsGen | .prbsChk => denyIf (!s.prbsOk a (s.rd c.f c.ix) v) 6
  | .memCfg => denyIf (s.flag Reg.Mem.MEM_OPEN []) 6
  | .memOpen => denyIf (v == 0 || s.rd Reg.Mem.MEM_TRAINED [] != 0xFFFF || !n.layoutFits) 6
  | .pbTerm => denyIf (b == 31 && decide (2 ^ 28 ≤ v)) 6
  | .cntTenant => denyIf (s.wouldMix a v) 2
  | .threshold => denyIf (decide (signalMax (n.rd Reg.Cnt.TH_KIND [a]) < n.rd Reg.Cnt.TH_INDEX [a])) 6
  | .lcGo => denyIf (w.kind != .system) 1 ++ denyIf (!s.flag Reg.Hid.LC_ASKED [0]) 6
  | .mfgTest => denyIf (w.kind != .system) 1 ++ denyIf (!s.mfgOk) 4
  | .darkGo => denyIf (s.flag Reg.Pon.LIT [a]) 6
  | .vcore => denyIf (!(decide (n.rd Reg.Pwr.VCORE_MIN [] ≤ n.rd Reg.Pwr.VCORE_MAX []))) 6
  | .wdogEn => denyIf (v == 0 && s.lifecycle != 0 && s.lifecycle != 3) 4
  | .wdogKick => denyIf (v != 0xA5C3 || w.kind != .system) 1
  | .rollbackBurn => denyIf (w.kind != .system) 1 ++ denyIf (!s.rollbackOk) 6

/-- What every changed field is held to: operator authority (R27) and the range its map gives (R8). -/
def fieldRefuses (w : Who) (c : Chg) : List Sub :=
  denyIf (c.f.op && !w.operator) 3 ++ denyIf (decide (c.v < c.f.vmin) || decide (c.f.vmax < c.v)) 6

/-! ### Shared and mirrored objects (R214, R231, R233, R266) -/

/-- Objects of which a grafted pair holds one copy (R233): block 0x10, services, groups, members and policers, queue nodes, key slots. -/
def sharedObj (addr : Nat) : Bool :=
  let o := addr % 2 ^ 34
  match addr / 2 ^ 34 with
  | 0x10 => true
  | 0x05 => decide (0x2000000 ≤ o) && decide (o < 0x5000000)
  | 0x06 => decide (0x1000 ≤ o)
  | 0x08 => decide (0x1000000 ≤ o) && decide (o < 0x2000000)
  | _ => false

/-- The tree of an object that graft-understudy mode holds once per tree, written by the unit that lights it (R214, R233). -/
def mirroredTree (addr : Nat) : Option Nat :=
  let o := addr % 2 ^ 34
  match addr / 2 ^ 34 with
  | 0x03 => if o < 0x400000 ∧ 0x1000 ≤ o % 0x10000 then some (o / 0x10000) else none
  | 0x02 => if o < 0x800000 ∧ (o % 0x20000 = 0 ∨ (0x1000 ≤ o % 0x20000 ∧ o % 0x20000 < 0x2000)) then some (o / 0x20000) else none
  | 0x08 => if 0x2000000 ≤ o ∧ o < 0x2400000 then some ((o - 0x2000000) / 0x10000) else none
  | _ => none

/-- Writes that the pairing mode turns away as a whole: the twin's objects in solo mode, per-tree twin objects in graft-wide mode (R231, R269), a
tree's mirrored objects on the unit that does not light it (R214, R265, log 87). -/
def State.pairingRefuses (s : State) (addr : Nat) : List Sub :=
  denyIf (s.dormant addr || (match mirroredTree addr with | some z => s.understudy z && s.head z | none => false)) 6

end Sys2Proof.Machine
end

