-- ==== Sys2Proof/Machine/Writes.lean ====
section
/-! DEFINITION. What an accepted write does, and the four object accesses every command goes through: load, store, atomic, and the write of one field. -/

namespace Sys2Proof.Machine

/-- Software wrote the words of a terminal's preset: its bursts in the arming queue lose their writeback (R136), whichever preset armed them. -/
def State.presetWritten (s : State) (z t : Nat) : State :=
  s.modTree z (fun tr => { tr with wins := tr.wins.map (fun w =>
    if w.armed.isSome && w.kind != .disc && w.term == t then { w with swWrote := true } else w) })

/-- The bursts whose presets have reached the arming queue hold them as they stood before a write of a preset (R135). -/
def State.armBefore (s : State) (cs : List Chg) : State :=
  cs.foldl (fun t c => if c.f.act == .preset then t.armDue (c.ix.getD 0 0) else t) s

/-- What has run at a rate up to now is settled at that rate before a write changes it: the tenants' event buckets (R468) and pool E's (R350). -/
def State.settleBefore (s : State) (c : Chg) : State :=
  match c.f.act with
  | .evBucket =>
    let b := s.rd Reg.Cnt.EV_TENANT_BURST []
    s.settleBuckets b (if c.f == Reg.Cnt.EV_TENANT_BURST then c.v else b)
  | .eRate => s.settleE
  | _ => s

/-- The pool counts that a partition gives (R346). -/
def State.partition (s : State) (p : Nat) : State :=
  let n := s.rd Reg.Buf.GRAN [p] * 65536 / poolSize p
  ((((s.wr Reg.Buf.COUNT [p] n).wr Reg.Buf.FREE [p] n).wr Reg.Buf.FREE_MIN [p] n).wr Reg.Hid.LOW_READ [p] 0).wr Reg.Buf.RESERVE_GRAN [] (3072 - s.granSum)

/-- Pool E's count. -/
def State.partitionE (s : State) : State :=
  let n := s.rd Reg.Buf.E_UNITS [] * 65536
  (((s.wr Reg.Buf.E_COUNT [] n).wr Reg.Buf.FREE [4] n).wr Reg.Buf.FREE_MIN [4] n).wr Reg.Hid.LOW_READ [4] 0

/-- A store to `OWNER` (R355): the buffer passes to its new owner, and to that owner's tenant. -/
def State.setOwner (s : State) (ix : List Nat) (v : Nat) : State :=
  let k := bufKey (ix.getD 0 0) (ix.getD 1 0)
  { s with bufs := s.bufs.upd k (fun b => { b with
      owner := v
      tenant := (s.ownerTenant v).getD b.tenant }) }

/-- In graft-wide mode the twin learns the tag and the downstream policer of a flow of this unit, which it delivers to (R313, R318). -/
def State.tellFlow (s : State) (z f : Nat) : State :=
  if s.pairing = 1 then s.emit (.twin 4 [0xF0, z, f, s.rd Reg.Fwd.TENANT [z, f], s.rd Reg.Fwd.DN_POL [z, f]]) else s

/-- The twin learns the tag and the policer of every flow of this unit that has one, as the pair forms (R267, R313, R342). -/
def State.tellFlows (s : State) : State :=
  if s.pairing ≠ 1 then s
  else upTo (fun z s => ((s.listed Reg.Fwd.TENANT [z] ++ s.listed Reg.Fwd.DN_POL [z]).eraseDups).foldl (fun s f => s.tellFlow z f) s) 64 s

/-- In a graft mode the twin learns that this unit binds a slot to transmit, or that nothing here transmits under it any longer (R391). `f`: the binding field of tree or
uplink `a`; a shadowed tree's bindings are the twin's. -/
def State.tellBinding (s : State) (f : Field) (a old new : Nat) : State :=
  if s.pairing = 0 ∨ !(f == Reg.Key.DN_SLOT || f == Reg.Key.BC_SLOT || f == Reg.Key.TX_SLOT) ∨ (f != Reg.Key.TX_SLOT && s.understudy a) then s
  else
    let s := if old = 0 ∨ s.bindsHere old then s else s.emit (.twin 4 [0x4B, old, 0])
    if new = 0 then s else s.emit (.twin 4 [0x4B, new, 1])

/-- The first of slot, source and destination of a context's request that the checks of R28 deny it (R385): source words are read, the others written. -/
def State.ctxDenial (s : State) (w : Who) : Option Nat :=
  let x := s.ctxRanges w.cx
  let words := fun (r : Nat × Nat) => (List.range r.2).map (fun i => 0x0C * 2 ^ 34 + r.1 + i)
  let denied := fun (write : Bool) (a : Nat) => (firstSub (s.authority w a write ++ s.memoryRefuses a)).isSome
  ([slotObj (s.rd Reg.Hid.CREQ [ctxNo w.cx, 0] % 2 ^ 18)].find? (denied true)).or (((words x.1).find? (denied false)).or ((words x.2).find? (denied true)))

/-- `TR_CLEAR` (R470): the trace is emptied and records again, but for a retired pair's, which stays frozen until the pair joins the wings (DEDUCED,
log 141). -/
def State.clearTrace (s : State) (core : Nat) : State :=
  if s.isRetired core then s.emptyTrace core else (s.emptyTrace core).thawTrace core

/-- The bits of an event mask word that may be set: codes of severity 4 cannot be masked (R466). -/
def maskable (k v : Nat) : Nat := ((List.range 32).map (fun i => if v.testBit i && severity (32 * k + i) != 4 then 2 ^ i else 0)).sum

/-- A script's result word (R109). -/
def State.setResult (s : State) (w : Who) (second : Bool) (v : Nat) : State :=
  match s.own w with
  | none => s
  | some c =>
    if !w.isScript then s
    else s.putCtx w.cx (if second then { c with res1 := BitVec.ofNat 40 v } else { c with res0 := BitVec.ofNat 40 v })

/-- A script ends itself (R100); a system context has no script to end (log 21). -/
def State.selfEnd (s : State) (w : Who) (v : Nat) : State :=
  match s.own w with
  | none => s
  | some c => if w.isScript && c.ended.isNone then s.endScript w.cx c v 0 else s

/-- What a changed field sets off once the plain fields of its word are stored. `o` is the state before the write, `n` that of all its values. -/
def State.runAct (o n : State) (w : Who) (s : State) (c : Chg) : State :=
  let a := c.ix.getD 0 0
  let b := c.ix.getD 1 0
  let v := c.v
  match c.f.act with
  | .rngLimits => if c.f == Reg.Rng.L_MAX then s else s.wr Reg.Hid.DPRE_DUE [a] 1
  | .none | .minVersion | .light | .limits | .serial | .mapLead | .sealLead | .gateCycle | .allocId | .allocEn | .deltaCfg | .mirrorDest
  | .mirrorTrunc | .flowQueue | .upPol | .upDest | .dnDest | .bcGroup | .group | .member | .pir | .node_ | .parent | .yLimit | .bufOpen | .marks
  | .shares | .evBucket | .eRate | .scaOff | .keyTenant | .ctle | .exps | .memCfg | .memOpen | .pbTerm | .threshold | .lcToken | .vcore | .holderW | .state => s
  | .tenEn => if v = 0 then s.stopTenant a else s
  | .tenVf | .cntTenant => s.recheckPages
  | .flow => s.recheckPages.tellFlow a b
  | .dnPol => s.tellFlow a b
  | .selfRes0 => s.setResult w false v
  | .selfRes1 => s.setResult w true v
  | .selfEnd => s.selfEnd w v
  | .portWord => s.changePort a (n.rd Reg.Pon.MODE [a]) (n.rd Reg.Pon.UP_RATE [a]) (n.rd Reg.Pon.ROLE [a]) (n.rd Reg.Pon.BOND [a])
  | .preset => s.presetWritten a b
  | .i2cGo => s.i2cStart a
  | .admin => if v = 0 then s.adminCleared a b else s
  | .disable => s.disableWritten a b v
  | .rogueHeld => if o.flag Reg.Rng.ROGUE_HELD [a, b] then s.heldCleared a b else s
  | .pwrCmd => s.changePower a b v
  | .rereg => s.ploam a .requestReg b []
  | .pairSel => s.pairSelected v
  | .tkoFail => s.setPen a 6 false
  | .gran => s.partition a
  | .eUnits => s.partitionE
  | .owner => s.setOwner c.ix v
  | .bindTerm | .bindTx | .bindRx => s.tellBinding c.f a (o.rd c.f c.ix) v
  | .rekeyGo => s.rekey a b
  | .creqWord => if w.remote then s else s.wr Reg.Hid.CREQ [ctxNo w.cx, a] v
  | .cgo => s.cgo w.cx w.tenant (s.ctxDenial w)
  | .ofsIn => s.ofsIn a v
  | .stepApply => s.stepApply a
  | .stepDrop => s.stepDrop a
  | .switchD => if v = s.rd Reg.Tim.OUT_DOM [] then s else s.switchDom v 0
  | .tsPop => s.tsPop a b
  | .snap => if w.remote then s else s.snap w.cx
  | .tod => s.armTod a v
  | .slewPpm => (s.setCarry (s.carryAtTime s.ext)).wr Reg.Tim.SLEW_PPM [] v
  | .ulMode => (s.setUlMode a v).advertise a
  | .fecMode => s.advertise a
  | .txTap => s.tapWritten a
  | .ulEn => s.setUlEn a v
  | .power => State.powerSet (s.setPower a (n.rd Reg.Lan.PWR_TX [a]) (n.rd Reg.Lan.PWR_RX [a])) a
  | .prbsGen => s
  | .prbsChk | .prbsInv => (s.wr Reg.Lan.PRBS_LOCK [a] 0).wr Reg.Hid.PRBS_RUN [a] 0
  | .ppsEn => if v = 0 then s.emit (.pin .ppsOut 0 0 s.ext) else s
  | .twLanes => s.lanesWritten
  | .thEn => s.wr Reg.Cnt.TH_ABOVE [a] (bit (s.above a))
  | .trMode => if v = 2 ∧ s.flag Reg.Cnt.TR_FULL [a] then s.freezeTrace a 4 else s
  | .anEn => if v = 0 then s.untrain a else s.advertise a
  | .evMask => s.wr Reg.Cnt.EV_MASK [a] (maskable a v)
  | .trFreeze => s.freezeTrace a 1
  | .trClear => s.clearTrace a
  | .lcReq => s.wr Reg.Hid.LC_ASKED [0] 1
  | .lcGo => s.lcGo
  | .mfgTest => s.mfgTest
  | .darkGo => s.wr Reg.Reh.DARK_BUSY [a] 1
  | .wdogEn => if v = 1 then s.wr Reg.Hid.WDOG_AT [0] s.ext else s
  | .wdogKick => s.wr Reg.Hid.WDOG_AT [0] s.ext
  | .rollbackBurn => s.rollbackBurn

/-- Acts that several fields of a word set off once. -/
def Act.once : Act → Bool
  | .portWord | .power | .preset | .flow => true
  | _ => false

/-- The changes of a word with each shared act kept once. -/
def onceEach : List Chg → List Chg
  | [] => []
  | c :: t => c :: (onceEach t).filter (fun d => !(c.f.act.once && d.f.act == c.f.act && d.ix == c.ix))

/-- Applies the changes of an accepted write. -/
def State.apply (s : State) (w : Who) (cs : List Chg) : State :=
  let s := cs.foldl State.settleBefore (s.armBefore cs)
  let n := s.stored cs
  (onceEach cs).foldl (fun t c => s.runAct n w t c) (s.stored (cs.filter (fun c => !c.f.act.owns)))

/-- The refusal of a set of changes to the word at `addr`, if any (R28, R253, R266). -/
def State.judge (s : State) (w : Who) (addr : Nat) (cs : List Chg) (extra : List Sub) : Option Sub :=
  let n := s.stored cs
  firstSub (s.authority w addr true ++ extra ++ s.pairingRefuses addr ++ cs.flatMap (fun c => fieldRefuses w c ++ s.refuses n w c) ++
    (if (s.pairing ≠ 0 ∧ sharedObj addr ∧ !s.pairOk) ∨ (s.pairing = 2 ∧ (mirroredTree addr).isSome ∧ !s.flag Reg.Twn.LANES_UP []) then [(0x7E, 4)] else []))

/-- A denied access (R28): the issuing tenant's counter, and the event at most once per millisecond per context. -/
def State.deniedTo (s : State) (w : Who) (addr : Nat) : State :=
  s.deniedBy w.cx w.remote w.tenant addr

/-- What a refused write leaves behind: the count and the event of a denial, the event of a conflict (R177, R268), the count of a mirrored write that
the pair's state turned away. -/
def State.refused (s : State) (w : Who) (addr : Nat) (cs : List Chg) (x : Sub) : State :=
  if x.1 = 0x7F then s.deniedTo w addr
  else if x.1 = 0x70 then
    cs.foldl (fun t c => if c.f.act == .state || c.f.act == .holderW then t.raise 0x70 addr [s.view w c.f c.ix, c.v] else t) s
  else if x.1 = 0x7E then s.addTo Reg.Twn.MIRROR_FAULTS [] 1
  else s

/-- Whether a write of an object is serialised at the twin: a shared object's, on unit 1 (R266). -/
def State.atUnit0 (s : State) (addr : Nat) : Bool := s.pairing != 0 && s.env.unit == 1 && sharedObj addr && s.pairOk

/-- Whether a write of an object has a copy on the twin to change: a shared object's, or that of a tree's mirrored object (R265, R266). -/
def State.mirrorsOut (s : State) (addr : Nat) : Bool := s.pairing != 0 && (sharedObj addr || (s.pairing == 2 && (mirroredTree addr).isSome && s.flag Reg.Twn.LANES_UP []))

/-- Whether an earlier write of an object is still under way to unit 0, so that this unit's copy does not show its value yet (R266). -/
def State.inFlight (s : State) (addr : Nat) : Bool := s.atUnit0 addr && s.unacked.any (fun m => m.cls == 4 && m.addr.toNat == addr)

/-- A word write goes to the twin; a posted store of a context of this unit waits for it (R46, R265). -/
def State.mirrorWrite (s : State) (w : Who) (addr : Nat) (instr value : Word) : State :=
  s.sendTwin 4 w.cx (BitVec.ofNat 40 addr) instr [addr, value.toNat] (if w.remote then .nothing else .store)

/-- Changes to the word at `addr`: refused as a whole, or applied here and then on the twin (R265). A write of a shared object on unit 1 is judged here, leaves for
unit 0, and changes this unit's copy when unit 0 sends it back (R266). Answers code and subcause. -/
def State.writeFields (s : State) (w : Who) (addr : Nat) (instr value : Word) (cs : List Chg) (extra : List Sub) : Sub × State :=
  match s.judge w addr cs extra with
  | some x => (x, s.refused w addr cs x)
  | none =>
    if cs.isEmpty && !s.inFlight addr then ((0, 0), s)
    else if s.atUnit0 addr then ((0, 0), s.mirrorWrite w addr instr value)
    else
      let t := s.apply w cs
      ((0, 0), if s.mirrorsOut addr then t.mirrorWrite w addr instr value else t)

/-- What a store of a word would be refused with (R28). -/
def State.storeCheck (s : State) (w : Who) (addr : Nat) (value : Word) : Option Sub :=
  if segAddr addr then firstSub (s.authority w addr true ++ s.memoryRefuses addr)
  else
    let l := slotsAt addr
    let v := value.toNat
    s.judge w addr (s.changes w l v) (s.memoryRefuses addr ++ denyIf (v ||| fieldBits l != fieldBits l) 6)

/-- A store of a word (R7, R8, R28). -/
def State.storeWord (s : State) (w : Who) (addr : Nat) (instr value : Word) : Sub × State :=
  if segAddr addr then
    match firstSub (s.authority w addr true ++ s.memoryRefuses addr) with
    | some x => (x, s.refused w addr [] x)
    | none => ((0, 0), s.segWrite (addr % 2 ^ 34) value)
  else
    let l := slotsAt addr
    let v := value.toNat
    s.writeFields w addr instr value (s.changes w l v) (s.memoryRefuses addr ++ denyIf (v ||| fieldBits l != fieldBits l) 6)

/-- Whether an object word is a rule's view whose row fails parity (R287). -/
def State.ruleParity (s : State) (addr : Nat) : Bool :=
  let o := addr % 2 ^ 34
  addr / 2 ^ 34 == 4 && decide (0x100000000 ≤ o) && decide (o < 0x200000000) &&
    (match s.ruleAt ((o - 0x100000000) / 64) with | some r => !s.ruleOk r | none => false)

/-- The parity check of a read by handle (R287), of the rule that the word shows. -/
def State.checkRead (s : State) (addr : Nat) : State :=
  let o := addr % 2 ^ 34
  if addr / 2 ^ 34 = 4 ∧ 0x100000000 ≤ o ∧ o < 0x200000000 then (match s.ruleAt ((o - 0x100000000) / 64) with | some r => s.checkRule r | none => s) else s

/-- A load of a word (R7, R28): code and subcause, the data, the state after it. -/
def State.loadWord (s : State) (w : Who) (addr : Nat) : Sub × Word × State :=
  match firstSub (s.authority w addr false ++ s.memoryRefuses addr) with
  | some x => (x, 0, s.refused w addr [] x)
  | none =>
    if segAddr addr then
      match s.segRead (addr % 2 ^ 34) with
      | (some v, s) => ((0, 0), v, s)
      | (none, s) => ((0x31, 0), 0, s)
    else
      let s := s.checkRead addr
      if s.ruleParity addr then ((0x31, 0), 0, s) else ((0, 0), s.wordRead w addr, s.afterRead addr)

/-- The value an atomic writes (R73); none where it writes nothing. -/
def atomicValue (k : AccKind) (old b c : Word) : Option Word :=
  match k with
  | .load => none
  | .add => some (old + b)
  | .swap => some b
  | .set => some (old ||| b)
  | .clr => some (old &&& ~~~b)
  | .cas => if old = b then some c else none

/-- The buffer share word at an object address, if it is one. -/
def sharesAt (addr : Nat) : Option (List Nat) := Reg.Buf.SHARES.at? addr

/-- `OADD` on `SHARES` (R356): takes a share and answers the count before. -/
def State.shareAdd (s : State) (w : Who) (addr : Nat) (ix : List Nat) (k : AccKind) (b : Word) : Sub × Word × State :=
  let key := bufKey (ix.getD 0 0) (ix.getD 1 0)
  match firstSub (s.authority w addr true) with
  | some x => (x, 0, s.refused w addr [] x)
  | none =>
    if k ≠ .add ∨ b ≠ 1 then (deny 6, 0, s.deniedTo w addr)
    else
      match s.bufView ix with
      | none => ((0x10, 0), 0, s.bufMisuse 0x10 (s.issuerOf w).1 w.tenant addr)
      | some x =>
        if !x.inUse then ((0x10, 0), 0, s.bufMisuse 0x10 (s.issuerOf w).1 w.tenant addr)
        else if 65535 ≤ x.shares then (deny 6, 0, s.deniedTo w addr)
        else ((0, 0), BitVec.ofNat 40 x.shares, { s with bufs := s.bufs.upd key (fun x => { x with shares := x.shares + 1 }) })

/-- An atomic on a word (R73): the old value, and the new one written as a store writes it. A read-to-clear field is read (log 22);
a rule whose row fails parity answers `TABLE_PARITY` (R287). -/
def State.atomicWord (s : State) (w : Who) (addr : Nat) (instr : Word) (k : AccKind) (b c : Word) : Sub × Word × State :=
  match sharesAt addr with
  | some ix => s.shareAdd w addr ix k b
  | none =>
    match firstSub (s.authority w addr true ++ s.memoryRefuses addr) with
    | some x => (x, 0, s.refused w addr [] x)
    | none =>
      let s := s.checkRead addr
      match (if segAddr addr then s.segRead (addr % 2 ^ 34) else if s.ruleParity addr then (none, s) else (some (s.wordRead w addr), s)) with
      | (none, s) => ((0x31, 0), 0, s)
      | (some old, s) =>
        match atomicValue k old b c with
        | none => ((0, 0), old, if segAddr addr then s else s.afterRead addr)
        | some new =>
          match s.storeWord w addr instr new with
          | ((0, _), t) => ((0, 0), old, if segAddr addr then t else t.afterRead addr)
          | (x, t) => (x, 0, t)

/-- A load or an atomic (R38, R73). -/
def State.access (s : State) (w : Who) (addr : Nat) (instr : Word) (k : AccKind) (b c : Word) : Sub × Word × State :=
  match k with
  | .load => s.loadWord w addr
  | _ => s.atomicWord w addr instr k b c

end Sys2Proof.Machine
end

