-- ==== Sys2Proof/Machine/Access.lean ====
section
/-! DEFINITION. The memory and waiting instructions of Erten: local and object accesses (R70–R73), ordering (R46, R47), tickets waited for (R43), time (R76),
`YIELD` (R24, R25) and `TRAP` (R52), with the returns that end a blocked instruction (R38, R39). -/

namespace Sys2Proof.Machine

/-- Base register plus sign-extended 18-bit immediate (R70). -/
def addrI (c : Ctx) (f : Fields) : Word := c.a f + f.sext
/-- Base register plus sign-extended 13-bit immediate (R70). -/
def addrC (c : Ctx) (f : Fields) : Word := c.a f + f.sext13

/-- Adds cycles to a context's count (R65). -/
def Ctx.spend (c : Ctx) (n : Nat) : Ctx := { c with cycles := c.cycles + n }

/-- A context is blocked, and has been since `t`: a stagehand switches to another (R24). -/
def State.blockSince (s : State) (cx : Cx) (c : Ctx) (b : Block) (t : Nat) : State := (s.putCtx cx { c with block := b, since := t }).switch cx.core cx.ctx

/-- A context blocks from now on. -/
def State.blockOn (s : State) (cx : Cx) (c : Ctx) (b : Block) : State := s.blockSince cx c b s.ext

/-- Whether an object address names a block of the twin in a graft mode (R18). -/
def State.toTwin (s : State) (a : Word) : Bool := s.pairing != 0 && decide (0x21 ≤ a.toNat / 2 ^ 34) && decide (a.toNat / 2 ^ 34 ≤ 0x31)

/-! ### `LD` and `ST` (R71) -/

/-- The cycles a local load takes beyond its first two (R71): one more in the state window; the 138 at least that a context waits for an external segment count
where blocked cycles count (R59, R65): not for a script or the system, unless the load raises an exception. -/
def localWait (c : Ctx) (a : Nat) (raises : Bool) : Nat := match c.place a with | .window _ _ => 1 | .seg _ | .raw _ => if raises then 138 else 0 | _ => 0

/-- A word of an external segment has been waited for: the stagehand runs another context, if one is ready (R24). -/
def State.afterLocal (s : State) (cx : Cx) (c : Ctx) (a : Nat) : State :=
  match c.place a with | .seg _ | .raw _ => s.switchOver cx.core cx.ctx | _ => s

/-- A local word is read; a denial is counted and reported (R28). -/
def State.getLocal (s : State) (cx : Cx) (c : Ctx) (a : Nat) : Except Sub Word × State :=
  match s.localRead cx c a with
  | (.error x, s) => (.error x, if x.1 = 0x7F then s.denied cx c a else s)
  | r => r

/-- A local word is written; a denial is counted and reported (R28). -/
def State.putLocal (s : State) (cx : Cx) (c : Ctx) (a : Nat) (v : Word) : Option Sub × State :=
  match s.localWrite cx c a v with
  | (some x, s) => (some x, if x.1 = 0x7F then s.denied cx c a else s)
  | r => r

/-- `LD` (R71): wd := local[wa + sext(imm18)]. -/
def execLd (cx : Cx) (f : Fields) (s : State) : Out' :=
  .next (erten 0x38 { wd := true, wa := true, mask := 0x3FFFF } 2 cx f (fun c s =>
    let a := addrI c f
    match s.getLocal cx c a.toNat with
    | (.ok v, s) => (s.putCtx cx (((c.spend (localWait c a.toNat false)).setReg f.wd.toNat v).advance)).afterLocal cx c a.toNat
    | (.error (code, sub), s) => s.raiseAt cx (c.spend (localWait c a.toNat true)) code sub a (ertenWord 0x38 f)) s)

/-- `ST` (R71): local[wa + sext(imm18)] := wb. -/
def execSt (cx : Cx) (f : Fields) (s : State) : Out' :=
  .next (erten 0x39 { wa := true, wb := true, mask := 0x3FFFF } 1 cx f (fun c s =>
    let a := addrI c f
    match s.putLocal cx c a.toNat (c.b f) with
    | (none, s) => s.putCtx cx c.advance
    | (some (code, sub), s) => s.raiseAt cx c code sub a (ertenWord 0x39 f)) s)

/-! ### Object loads and atomics (R38, R72, R73) -/

/-- The cycles an object access takes at least (R72): the executing prompter's own tree, the twin, external memory, any other block. The first is the one it
executes in, the others it is blocked for (log 106). -/
def State.objectWait (s : State) (c : Ctx) (a : Word) : Nat :=
  if s.toTwin a then 900
  else if segAddr a.toNat || (match counterWord a.toNat with | some n => decide (131072 ≤ n) | none => false) then 140
  else
    match c.kind with
    | .prompter z => if a.toNat / 2 ^ 34 ≤ 3 && prompterReads z a.toNat then 12 else 24
    | _ => 24

/-- Whether unit 0 makes an access of unit 1: an atomic on a shared object (R266). -/
def State.madeAtUnit0 (s : State) (x : Access) : Bool := x.kind != .load && s.atUnit0 x.addr.toNat

/-- A load or an atomic starts: it leaves for the owning block, or for the twin with the context's tenant and type (R31, R40), and the context blocks. An atomic on
a shared object leaves unit 1 for unit 0 (R266). One that finds the twin out of reach is lost, whatever the pair does before it returns (R40). The cycles behind `ORDER`
count with those of the access (R65). -/
def State.startAccess (s : State) (cx : Cx) (c : Ctx) (x : Access) : State :=
  let since := match c.block with | .heldAccess _ => c.since | _ => s.ext
  let s := s.blockSince cx { c with order := false } (.access { x with lost := s.toTwin x.addr && !s.pairOk }) since
  if (s.toTwin x.addr && s.pairOk) || s.madeAtUnit0 x then
    s.sendTwin (if s.toTwin x.addr then 5 else 4) cx x.addr x.instr [accCode x.kind, x.addr.toNat % 2 ^ 39, x.b.toNat, x.c.toNat, c.tenant, ctxCode c.kind] .access
  else s

/-- Whether the first access after `ORDER` must wait (R46). -/
def State.heldByOrder (s : State) (cx : Cx) (c : Ctx) : Bool := c.order && !(s.opsDone cx && c.refused.all (·.returned))

/-- An object load or atomic executes: it starts, or waits behind `ORDER`. -/
def accessOp (cx : Cx) (op : Nat) (f : Fields) (k : AccKind) (a : Ctx → Word) (third : Ctx → Word) (c : Ctx) (s : State) : State :=
  let x : Access := { kind := k, addr := a c, wd := f.wd.toNat, b := c.b f, c := third c, instr := ertenWord op f }
  if s.heldByOrder cx c then s.blockOn cx c (.heldAccess x) else s.startAccess cx c x

/-- The fields of an atomic (R73): `wc` only in `OCAS`. -/
def useAtomic (cas : Bool) : Use := { wd := true, wa := true, wb := true, mask := if cas then 0x3FFFF else 0x1FFF }

/-- `OLD` (R72): an object load. -/
def execOld (cx : Cx) (f : Fields) (s : State) : Out' :=
  .next (erten 0x3A { wd := true, wa := true, mask := 0x3FFFF } 1 cx f (accessOp cx 0x3A f .load (fun c => addrI c f) (fun _ => 0)) s)

/-- `OADD` (R73): an atomic add. -/
def execOadd (cx : Cx) (f : Fields) (s : State) : Out' :=
  .next (erten 0x3C (useAtomic false) 1 cx f (accessOp cx 0x3C f .add (fun c => addrC c f) (fun _ => 0)) s)

/-- `OSWAP` (R73): an atomic exchange. -/
def execOswap (cx : Cx) (f : Fields) (s : State) : Out' :=
  .next (erten 0x3D (useAtomic false) 1 cx f (accessOp cx 0x3D f .swap (fun c => addrC c f) (fun _ => 0)) s)

/-- `OSET` (R73): an atomic OR. -/
def execOset (cx : Cx) (f : Fields) (s : State) : Out' :=
  .next (erten 0x3E (useAtomic false) 1 cx f (accessOp cx 0x3E f .set (fun c => addrC c f) (fun _ => 0)) s)

/-- `OCLR` (R73): an atomic AND with not wb. -/
def execOclr (cx : Cx) (f : Fields) (s : State) : Out' :=
  .next (erten 0x3F (useAtomic false) 1 cx f (accessOp cx 0x3F f .clr (fun c => addrC c f) (fun _ => 0)) s)

/-- `OCAS` (R73): an atomic compare and swap. -/
def execOcas (cx : Cx) (f : Fields) (s : State) : Out' :=
  .next (erten 0x40 (useAtomic true) 1 cx f (accessOp cx 0x40 f .cas (fun c => addrC c f) (fun c => c.c3 f)) s)

/-- Whether an earlier store of the context to the same object is still on its way through unit 0 (R45, R266). -/
def State.storeAhead (s : State) (cx : Cx) (x : Access) : Bool := s.unacked.any (fun m => m.cls == 4 && m.cx == cx && m.addr == x.addr && m.done == .store)

/-- What a blocked access of a context to its own block gives: none while a load of `CSTAT` waits for its request (R385), and behind an earlier store to the object
that unit 0 has not sent back yet (R45). -/
def State.answer (s : State) (cx : Cx) (c : Ctx) (x : Access) : Option (Sub × Word × State) :=
  if (x.addr.toNat = Reg.Key.CSTAT.addr [] && s.flag Reg.Hid.CREQ_BUSY [ctxNo cx]) || s.storeAhead cx x then none
  else some (s.access (whoOf cx c) x.addr.toNat x.instr x.kind x.b x.c)

/-- The message that carries a context's access to the twin needs no acknowledgement any more. -/
def State.answered (s : State) (cx : Cx) (x : Access) : State :=
  match s.unacked.find? (fun m => m.cx == cx && m.addr == x.addr && m.instr == x.instr && m.done == .access) with
  | some m => { s with unacked := s.unacked.filter (fun x => x.seq != m.seq) }
  | none => s

/-- The boundary after an instruction that a context was blocked in: a refusal that returned meanwhile is taken there (R39). -/
def State.takeReturned (s : State) (cx : Cx) : State :=
  match s.ctx? cx with
  | some c => if c.block == .none && c.refused.any (·.returned) then s.resume cx c else s
  | none => s

/-- A load or atomic has its outcome (R38, R39): the data goes to `wd` and the context goes on, or zero does and the exception is taken. -/
def State.finishAccess (s : State) (cx : Cx) (c : Ctx) (x : Access) (r : Sub) (data : Word) : State :=
  let c := s.waited c (s.objectWait c x.addr - 1) (decide (r ≠ (0, 0)))
  if r = (0, 0) then s.resume cx ((c.setReg x.wd data).advance)
  else
    let c := c.setReg x.wd 0
    if c.kill.isSome then s.resume cx c
    else ((s.takeException cx { c with block := .none } r.1 r.2 c.pc x.addr x.instr false).wake cx).takeReturned cx

/-- Whether the twin makes a blocked access: one with bit 39 set (R40), or one that unit 0 makes for unit 1 (R266). -/
def State.madeByTwin (s : State) (cx : Cx) (x : Access) : Bool := s.toTwin x.addr || s.unacked.any (fun m => m.cx == cx && m.addr == x.addr && m.done == .access)

/-- Whether the twin's copy of an atomic made here is still to be acknowledged. -/
def State.copyOut (s : State) (cx : Cx) : Bool := s.unacked.any (fun m => m.cx == cx && m.done == .made)

/-- `OBJECT_ACCESS_RETURN` (R38, R40): the outcome of a context's blocked load or atomic comes back. `tw` is the twin's answer to an access with bit 39 set, or to one
that unit 0 makes; it faults while `PAIR_OK` is 0 (R235) and when the lanes have gone down under it; outside the graft modes bit 39 belongs to a reserved block (R18).
An atomic on an object that the twin holds a copy of returns once the twin has acknowledged its copy (R265, R266). One that ends its own script (R100) has no one to
return to. -/
def execObjectAccessReturn (cx : Cx) (tw : Option TwinReply) (s : State) : Out' :=
  .next (match s.ctx? cx with
  | none => s
  | some c =>
    match c.block with
    | .access x =>
      if x.lost then (s.answered cx x).finishAccess cx c x (0x7E, 4) 0
      else if let some d := x.made then (if s.copyOut cx then s else s.finishAccess cx c x (0, 0) d)
      else if s.madeByTwin cx x then
        if !s.pairOk then (s.answered cx x).finishAccess cx c x (0x7E, 4) 0
        else
          match tw with
          | none => s
          | some r => (s.answered cx x).finishAccess cx c x (r.code, r.sub) r.word
      else
        match s.answer cx c x with
        | none => s
        | some (r, d, t) =>
          match t.ctx? cx with
          | none => t
          | some c =>
            if c.ended.isSome then t
            else if x.kind ≠ .load ∧ r = (0, 0) ∧ t.sentSince s then (t.lastFor .made).putCtx cx { c with block := .access { x with made := some d } }
            else t.finishAccess cx c x r d
    | _ => s)

/-! ### Object stores (R38, R39) -/

/-- A posted store leaves the context and reaches its block (R38), or the twin with the context's tenant and type (R31, R40, R235). -/
def State.post (s : State) (cx : Cx) (c : Ctx) (addr value instr : Word) : State :=
  if s.toTwin addr then
    if s.pairOk then s.sendTwin 5 cx addr instr [6, addr.toNat % 2 ^ 39, value.toNat, c.tenant, ctxCode c.kind] .store
    else s.refuseStore cx (0x7E, 4) addr instr
  else
    match s.storeWord (whoOf cx c) addr.toNat instr value with
    | ((0, _), t) => t
    | (x, t) => t.refuseStore cx x addr instr

/-- `OST` (R72): a posted object store: the context goes on at once, and the store is judged when its block accepts it (R29). -/
def execOst (cx : Cx) (f : Fields) (s : State) : Out' :=
  .next (erten 0x3B { wa := true, wb := true, mask := 0x3FFFF } 1 cx f (fun c s =>
    let a := addrI c f
    if s.heldByOrder cx c then s.blockOn cx c (.heldStore a (c.b f) (ertenWord 0x3B f))
    else (s.putCtx cx { c.advance with order := false }).post cx c a (c.b f) (ertenWord 0x3B f)) s)

/-- The refusal that returns first: of a store here, or of message `seq` with the twin's code and subcause. -/
def State.returning (s : State) (cx : Cx) (c : Ctx) (tw : Option (Nat × Nat × Nat)) : Option (Refused × Ctx × State) :=
  match tw with
  | none => match c.refused with | r :: rest => some (r, { c with refused := rest }, s) | [] => none
  | some (seq, code, sub) =>
    match s.unacked.find? (fun m => m.seq == seq && m.cls == 5 && m.cx == cx) with
    | some m => some ({ code := code, sub := sub, instr := m.instr, addr := m.addr, returned := false }, c, { s with unacked := s.unacked.filter (fun x => x.seq != seq) })
    | none => none

/-- `REFUSED_STORE_EXCEPTION` (R39): the refusal of a posted store returns. A running context takes the exception at this boundary, a blocked one when its blocking
instruction completes, one at its final `FENCE` there; a stopped script takes none (R30, R51, R59). DESIGN CHOICE: a refusal that returns while a prompter is between
runs is dropped, and a new run starts with none pending (log 107). `tw` is a refusal from the twin: sequence number, code and subcause. -/
def execRefusedStoreException (cx : Cx) (tw : Option (Nat × Nat × Nat)) (s : State) : Out' :=
  .next (match s.ctx? cx with
  | none => s
  | some c =>
    match s.returning cx c tw with
    | none => s
    | some (r, c, s) =>
      match c.block with
      | .none => s.takeException cx c r.code r.sub c.pc r.addr r.instr true
      | .ending =>
        match c.kill with
        | some (code, sub) => s.stopScript cx c code sub
        | none => (s.takeException cx { c with ended := none, block := .none } r.code r.sub c.pc r.addr r.instr true).wake cx
      | .idle | .stopped => s.putCtx cx c
      | _ => s.putCtx cx { c with refused := c.refused ++ [{ r with returned := true }] })

/-! ### Tickets (R43, R44) -/

/-- `WAIT` (R43): blocks until the named ticket has completed, and collects it. -/
def execWait (cx : Cx) (f : Fields) (s : State) : Out' :=
  .next (erten 0x49 { wd := true, wa := true } 2 cx f (fun c s =>
    match s.viewTicket cx c (c.a f) with
    | .invalid => s.raiseFree cx c 0x7E 5 (ertenWord 0x49 f)
    | .running => s.blockOn cx c (.wait (c.a f) f.wd.toNat)
    | .done w e =>
      let s := match e with | some e => s.collect e | none => s
      s.putCtx cx ((c.setReg f.wd.toNat w).advance)) s)

/-- `WAIT_RESUME` (R43): the ticket a context waits for has completed. -/
def execWaitResume (cx : Cx) (s : State) : Out' :=
  .next (match s.ctx? cx with
  | none => s
  | some c =>
    match c.block with
    | .wait t wd =>
      match s.viewTicket cx c t with
      | .done w e =>
        let s := match e with | some e => s.collect e | none => s
        s.resume cx (((s.waited c 0 false).setReg wd w).advance)
      | _ => s
    | _ => s)

/-- `POLL` (R43): the completion word of a ticket, which it collects, or 0. -/
def execPoll (cx : Cx) (f : Fields) (s : State) : Out' :=
  .next (erten 0x4A { wd := true, wa := true } 2 cx f (fun c s =>
    match s.viewTicket cx c (c.a f) with
    | .invalid => s.raiseFree cx c 0x7E 5 (ertenWord 0x4A f)
    | .running => s.putCtx cx ((c.setReg f.wd.toNat 0).advance)
    | .done w e =>
      let s := match e with | some e => s.collect e | none => s
      s.putCtx cx ((c.setReg f.wd.toNat w).advance)) s)

/-! ### Ordering (R46, R47) -/

/-- `ORDER` (R46): the context goes on; its next object access or `ISSUE` waits. -/
def execOrder (cx : Cx) (f : Fields) (s : State) : Out' :=
  .next (erten 0x4B {} 1 cx f (fun c s => s.putCtx cx { c.advance with order := true }) s)

/-- Whether everything a context has issued is complete and every store answered (R46, R47). -/
def State.settled (s : State) (cx : Cx) (c : Ctx) : Bool := s.opsDone cx && c.refused.all (·.returned)

/-- `FENCE` (R47): blocks until every operation issued and store made has completed. -/
def execFence (cx : Cx) (f : Fields) (s : State) : Out' :=
  .next (erten 0x4C {} 1 cx f (fun c s => if s.settled cx c then s.putCtx cx c.advance else s.blockOn cx c .fence) s)

/-- `FENCE_RELEASE` (R47): the condition of a `FENCE` holds, or that of a script's final one, and the script's completion follows. -/
def execFenceRelease (cx : Cx) (s : State) : Out' :=
  .next (match s.ctx? cx with
  | none => s
  | some c =>
    if !s.settled cx c then s
    else
      match c.block, c.ended with
      | .fence, _ => s.resume cx (s.waited c 0 false).advance
      | .ending, some (code, sub) => if c.refused.isEmpty then s.finishScript cx c code sub else s
      | .stopped, some (code, sub) => s.finishScript cx { c with refused := [] } code sub
      | _, _ => s)

/-! ### Time (R76) -/

/-- `NOW` (R76): wd := stage time. -/
def execNow (cx : Cx) (f : Fields) (s : State) : Out' :=
  .next (erten 0x50 { wd := true } 1 cx f (fun c s => writeReg cx f (fun _ => s.nowW) c s) s)

/-- `WAITUNTIL` (R76): the lateness at once when the time has passed, else the context blocks. -/
def execWaitUntil (cx : Cx) (f : Fields) (s : State) : Out' :=
  .next (erten 0x51 { wd := true, wa := true } 2 cx f (fun c s =>
    let t := c.a f
    if sdiff t s.nowW ≤ 0 then s.putCtx cx ((c.setReg f.wd.toNat (s.nowW - t)).advance)
    else s.blockOn cx c (.untilTime t f.wd.toNat)) s)

/-- The first `CUE` cycle that begins at or after an extended stage time (R502): cycles begin at multiples of 8. -/
def cueCycle (t : Nat) : Nat := (t + 7) / 8 * 8

/-- `WAITUNTIL_RESUME` (R76, R502): stage time reaches the first cycle at or after the awaited time; wd is the overrun, 0 to 7 ticks. -/
def execWaitUntilResume (cx : Cx) (s : State) : Out' :=
  .next (match s.ctx? cx with
  | none => s
  | some c =>
    match c.block with
    | .untilTime t wd =>
      let due := s.extOf t
      let s := s.advanceTo (cueCycle due)
      s.resume cx (((s.waited c 0 false).setReg wd (BitVec.ofNat 40 (cueCycle due - due))).advance)
    | _ => s)

/-! ### `YIELD` and `TRAP` (R24, R25, R52) -/

/-- `YIELD` (R24, R25): ends a prompter's run, or gives up the core. -/
def execYield (cx : Cx) (f : Fields) (s : State) : Out' :=
  .next (erten 0x60 {} 1 cx f (fun c s =>
    let s := s.trace cx.core 4 c.pc 0 cx.ctx
    match c.kind with
    | .prompter _ => s.putCtx cx { c.advance with block := .idle }
    | _ => (s.putCtx cx c.advance).switch cx.core cx.ctx) s)

/-- `TRAP` (R52): `FAULT` subcause 0x08, with the immediate in `EADDR`. -/
def execTrap (cx : Cx) (f : Fields) (s : State) : Out' :=
  .next (erten 0x61 { mask := 0x3FFFF } 6 cx f (fun c s =>
    let vec := if s.dataWord cx 5 = 0 then (s.dataWord cx 0).toNat % 2 ^ 17 else 0
    (s.trace cx.core 6 c.pc vec cx.ctx).raiseAt cx c 0x7E 8 f.zext (ertenWord 0x61 f)) s)

end Sys2Proof.Machine
end

