-- ==== Sys2Proof/Machine/Alu.lean ====
section
/-! DEFINITION. Arithmetic, logic, comparison and constants (R65–R68): one definition per instruction, over `erten` and `writeReg`. -/

namespace Sys2Proof.Machine

/-- The fields of a three-register instruction. -/
def useR : Use := { wd := true, wa := true, wb := true }
/-- The fields of a register and 18-bit immediate instruction. -/
def useI : Use := { wd := true, wa := true, mask := 0x3FFFF }
/-- The fields of a shift by an immediate: imm18[17:6] is reserved. -/
def useSh : Use := { wd := true, wa := true, mask := 0x3F }

/-- A truth value as a word. -/
def wbit (b : Bool) : Word := if b then 1 else 0
/-- A shift amount: bits [39:6] are ignored (R66). -/
def amount (w : Word) : Nat := w.toNat % 64
/-- Leading zero bits of the low `n` bits. -/
def clzFrom (w : Word) : Nat → Nat
  | 0 => 0
  | n + 1 => if w.getLsbD n then 0 else clzFrom w n + 1
/-- Set bits among the low `n` bits. -/
def popFrom (w : Word) : Nat → Nat
  | 0 => 0
  | n + 1 => popFrom w n + bit (w.getLsbD n)

/-- `ADD` (R66): wd := wa + wb. -/
def execAdd (cx : Cx) (f : Fields) (s : State) : Host.Outcome State Fault Refusal :=
  .next (erten 0x01 useR 1 cx f (writeReg cx f fun c => c.a f + c.b f) s)

/-- `SUB` (R66): wd := wa − wb. -/
def execSub (cx : Cx) (f : Fields) (s : State) : Host.Outcome State Fault Refusal :=
  .next (erten 0x02 useR 1 cx f (writeReg cx f fun c => c.a f - c.b f) s)

/-- `AND` (R66): wd := wa and wb. -/
def execAnd (cx : Cx) (f : Fields) (s : State) : Host.Outcome State Fault Refusal :=
  .next (erten 0x03 useR 1 cx f (writeReg cx f fun c => c.a f &&& c.b f) s)

/-- `OR` (R66): wd := wa or wb. -/
def execOr (cx : Cx) (f : Fields) (s : State) : Host.Outcome State Fault Refusal :=
  .next (erten 0x04 useR 1 cx f (writeReg cx f fun c => c.a f ||| c.b f) s)

/-- `XOR` (R66): wd := wa xor wb. -/
def execXor (cx : Cx) (f : Fields) (s : State) : Host.Outcome State Fault Refusal :=
  .next (erten 0x05 useR 1 cx f (writeReg cx f fun c => c.a f ^^^ c.b f) s)

/-- `SHL` (R66): wd := wa shifted left by wb[5:0]. -/
def execShl (cx : Cx) (f : Fields) (s : State) : Host.Outcome State Fault Refusal :=
  .next (erten 0x06 useR 1 cx f (writeReg cx f fun c => c.a f <<< amount (c.b f)) s)

/-- `SHR` (R66): wd := wa shifted right by wb[5:0], zero fill. -/
def execShr (cx : Cx) (f : Fields) (s : State) : Host.Outcome State Fault Refusal :=
  .next (erten 0x07 useR 1 cx f (writeReg cx f fun c => c.a f >>> amount (c.b f)) s)

/-- `SAR` (R66): wd := wa shifted right by wb[5:0], sign fill. -/
def execSar (cx : Cx) (f : Fields) (s : State) : Host.Outcome State Fault Refusal :=
  .next (erten 0x08 useR 1 cx f (writeReg cx f fun c => (c.a f).sshiftRight (amount (c.b f))) s)

/-- `MUL` (R66): wd := (wa × wb) mod 2^40. -/
def execMul (cx : Cx) (f : Fields) (s : State) : Host.Outcome State Fault Refusal :=
  .next (erten 0x09 useR 3 cx f (writeReg cx f fun c => c.a f * c.b f) s)

/-- `MULHU` (R66): wd := the high 40 bits of the unsigned product. -/
def execMulhu (cx : Cx) (f : Fields) (s : State) : Host.Outcome State Fault Refusal :=
  .next (erten 0x0A useR 3 cx f (writeReg cx f fun c => BitVec.ofNat 40 ((c.a f).toNat * (c.b f).toNat / 2 ^ 40)) s)

/-- `DIVU` (R66): unsigned quotient; all ones if wb = 0. -/
def execDivu (cx : Cx) (f : Fields) (s : State) : Host.Outcome State Fault Refusal :=
  .next (erten 0x0B useR 24 cx f (writeReg cx f fun c => if c.b f = 0 then BitVec.allOnes 40 else c.a f / c.b f) s)

/-- `REMU` (R66): unsigned remainder; wa if wb = 0. -/
def execRemu (cx : Cx) (f : Fields) (s : State) : Host.Outcome State Fault Refusal :=
  .next (erten 0x0C useR 24 cx f (writeReg cx f fun c => if c.b f = 0 then c.a f else c.a f % c.b f) s)

/-- `SLT` (R66): wd := 1 if wa < wb signed, else 0. -/
def execSlt (cx : Cx) (f : Fields) (s : State) : Host.Outcome State Fault Refusal :=
  .next (erten 0x0D useR 1 cx f (writeReg cx f fun c => wbit ((c.a f).slt (c.b f))) s)

/-- `SLTU` (R66): wd := 1 if wa < wb unsigned, else 0. -/
def execSltu (cx : Cx) (f : Fields) (s : State) : Host.Outcome State Fault Refusal :=
  .next (erten 0x0E useR 1 cx f (writeReg cx f fun c => wbit ((c.a f).ult (c.b f))) s)

/-- `SAFT` (R68): wd := 1 if sdiff(wa, wb) > 0, else 0. -/
def execSaft (cx : Cx) (f : Fields) (s : State) : Host.Outcome State Fault Refusal :=
  .next (erten 0x0F useR 1 cx f (writeReg cx f fun c => wbit (decide (0 < sdiff (c.a f) (c.b f)))) s)

/-- `MINU` (R66): wd := unsigned minimum. -/
def execMinu (cx : Cx) (f : Fields) (s : State) : Host.Outcome State Fault Refusal :=
  .next (erten 0x10 useR 1 cx f (writeReg cx f fun c => if (c.a f).ult (c.b f) then c.a f else c.b f) s)

/-- `MAXU` (R66): wd := unsigned maximum. -/
def execMaxu (cx : Cx) (f : Fields) (s : State) : Host.Outcome State Fault Refusal :=
  .next (erten 0x11 useR 1 cx f (writeReg cx f fun c => if (c.a f).ult (c.b f) then c.b f else c.a f) s)

/-- `CLZ` (R66): wd := leading zero bits of wa. -/
def execClz (cx : Cx) (f : Fields) (s : State) : Host.Outcome State Fault Refusal :=
  .next (erten 0x12 { wd := true, wa := true } 1 cx f (writeReg cx f fun c => BitVec.ofNat 40 (clzFrom (c.a f) 40)) s)

/-- `POPC` (R66): wd := set bits of wa. -/
def execPopc (cx : Cx) (f : Fields) (s : State) : Host.Outcome State Fault Refusal :=
  .next (erten 0x13 { wd := true, wa := true } 1 cx f (writeReg cx f fun c => BitVec.ofNat 40 (popFrom (c.a f) 40)) s)

/-- `ADDI` (R66): wd := wa + sext(imm18). -/
def execAddi (cx : Cx) (f : Fields) (s : State) : Host.Outcome State Fault Refusal :=
  .next (erten 0x18 useI 1 cx f (writeReg cx f fun c => c.a f + f.sext) s)

/-- `ANDI` (R66): wd := wa and zext(imm18). -/
def execAndi (cx : Cx) (f : Fields) (s : State) : Host.Outcome State Fault Refusal :=
  .next (erten 0x19 useI 1 cx f (writeReg cx f fun c => c.a f &&& f.zext) s)

/-- `ORI` (R66): wd := wa or zext(imm18). -/
def execOri (cx : Cx) (f : Fields) (s : State) : Host.Outcome State Fault Refusal :=
  .next (erten 0x1A useI 1 cx f (writeReg cx f fun c => c.a f ||| f.zext) s)

/-- `XORI` (R66): wd := wa xor zext(imm18). -/
def execXori (cx : Cx) (f : Fields) (s : State) : Host.Outcome State Fault Refusal :=
  .next (erten 0x1B useI 1 cx f (writeReg cx f fun c => c.a f ^^^ f.zext) s)

/-- `SHLI` (R66): as SHL, amount imm18[5:0]. -/
def execShli (cx : Cx) (f : Fields) (s : State) : Host.Outcome State Fault Refusal :=
  .next (erten 0x1C useSh 1 cx f (writeReg cx f fun c => c.a f <<< amount f.zext) s)

/-- `SHRI` (R66): as SHR, amount imm18[5:0]. -/
def execShri (cx : Cx) (f : Fields) (s : State) : Host.Outcome State Fault Refusal :=
  .next (erten 0x1D useSh 1 cx f (writeReg cx f fun c => c.a f >>> amount f.zext) s)

/-- `SARI` (R66): as SAR, amount imm18[5:0]. -/
def execSari (cx : Cx) (f : Fields) (s : State) : Host.Outcome State Fault Refusal :=
  .next (erten 0x1E useSh 1 cx f (writeReg cx f fun c => (c.a f).sshiftRight (amount f.zext)) s)

/-- `SLTI` (R66): wd := 1 if wa < sext(imm18) signed, else 0. -/
def execSlti (cx : Cx) (f : Fields) (s : State) : Host.Outcome State Fault Refusal :=
  .next (erten 0x1F useI 1 cx f (writeReg cx f fun c => wbit ((c.a f).slt f.sext)) s)

/-- `LI` (R67): wd := sext(imm18). -/
def execLi (cx : Cx) (f : Fields) (s : State) : Host.Outcome State Fault Refusal :=
  .next (erten 0x20 { wd := true, mask := 0x3FFFF } 1 cx f (writeReg cx f fun _ => f.sext) s)

/-- `LIM` (R67): wd := (wa × 2^18 + zext(imm18)) mod 2^40. -/
def execLim (cx : Cx) (f : Fields) (s : State) : Host.Outcome State Fault Refusal :=
  .next (erten 0x21 useI 1 cx f (writeReg cx f fun c => c.a f <<< 18 ||| f.zext) s)

end Sys2Proof.Machine
end

