-- ==== Sys2Proof/Machine/Issue.lean ====
section
/-! DEFINITION. `ISSUE` and the asynchronous operations (R74, R75, R83–R91): descriptors, their checks, and what each operation does. -/

namespace Sys2Proof.Machine

/-! ### Descriptors (R83, R84) -/

/-- The types that R84 defines. -/
def knownTypes : List Nat := [0x01, 0x02, 0x03, 0x10, 0x11, 0x20, 0x21, 0x30, 0x31, 0x40, 0x50, 0x51, 0x60]

/-- A word of a descriptor as a number. -/
def dword (ws : List Word) (i : Nat) : Nat := (ws.getD i 0).toNat

/-- Bits `[lo + n − 1 : lo]` of a word of a descriptor. -/
def dbits (ws : List Word) (i lo n : Nat) : Nat := dword ws i / 2 ^ lo % 2 ^ n

/-- The length that a type's layout gives the descriptor (R84). -/
def layoutLen (ty : Nat) (ws : List Word) : Nat :=
  match ty with
  | 0x01 => 3 + dbits ws 2 0 4 + dbits ws 2 4 4
  | 0x02 => if dbits ws 0 14 1 = 1 then 3 + dbits ws 2 0 4 else 3
  | 0x03 => 4
  | 0x10 => if dbits ws 2 19 1 = 1 then 11 else 8
  | 0x11 => 2
  | 0x20 => 4
  | 0x21 => 6
  | 0x30 => 2
  | 0x31 => 2
  | 0x40 => 5
  | 0x50 => 3
  | 0x51 => 2
  | _ => 3

/-- The bits of word 0 that a type gives a meaning, beside `TYPE` and `LEN`. -/
def flagMask (ty : Nat) : Nat := match ty with | 0x02 => 2 ^ 14 | 0x10 => 2 ^ 14 | 0x20 => 2 ^ 14 + 2 ^ 15 | 0x40 => 2 ^ 14 | 0x60 => 2 ^ 14 | _ => 0

/-- How many low bits of each further word a type gives a meaning; 40 where it names the whole word. -/
def wordWidth (ty : Nat) (ws : List Word) (i : Nat) : Nat :=
  match ty, i with
  | 0x01, 2 => 8
  | 0x02, 2 => if dbits ws 0 14 1 = 1 then 4 else 31
  | 0x03, 2 => 31
  | 0x10, 2 => 32
  | 0x20, 3 => 28
  | 0x21, 1 => 27
  | 0x21, 5 => 24
  | 0x40, 4 => 37
  | 0x50, 2 => 16
  | 0x60, 2 => 22
  | _, _ => 40

/-- Whether a descriptor has its type's length, and no reserved bit is set (R74); the unused bytes of a wrapped key are zero. -/
def layoutOk (ty : Nat) (ws : List Word) : Bool :=
  decide (ty ∈ knownTypes) && ws.length == layoutLen ty ws &&
    (dword ws 0 / 2 ^ 13 * 2 ^ 13 ||| flagMask ty) == flagMask ty &&
    (List.range ws.length).all (fun i => decide (dword ws i < 2 ^ wordWidth ty ws i)) &&
    (ty != 0x10 || dword ws (ws.length - 1) % 2 ^ (if dbits ws 2 19 1 = 1 then 0 else 8) == 0)

/-- Reads consecutive local words; the first that fails gives its code and subcause, a denial counted (R28). -/
def State.readLocals (s : State) (cx : Cx) (c : Ctx) (a : Nat) : Nat → Except Sub (List Word) × State
  | 0 => (.ok [], s)
  | n + 1 =>
    match s.readLocals cx c a n with
    | (.error x, s) => (.error x, s)
    | (.ok ws, s) =>
      match s.getLocal cx c (a + n) with
      | (.ok w, s) => (.ok (ws ++ [w]), s)
      | (.error x, s) => (.error x, s)

/-- Writes consecutive local words; the first that fails gives its code and subcause, a denial counted (R28). -/
def State.writeLocals (s : State) (cx : Cx) (c : Ctx) (a : Nat) : List Word → Option Sub × State
  | [] => (none, s)
  | v :: t =>
    match s.putLocal cx c a v with
    | (none, s) => s.writeLocals cx c (a + 1) t
    | (some x, s) => (some x, s)

/-- An operation under way: the context, its live record, who it is, the ticket, the descriptor, and the twin's answer to it if it names the twin (R40). -/
structure Op where
  cx : Cx
  c : Ctx
  w : Who
  e : Nat
  g : Nat
  ws : List Word
  tw : Option TwinReply

/-- The operation completes with a code and `RESULT` (R75). -/
def Op.done (o : Op) (code result : Nat) (s : State) : State := s.finishTicket o.e o.g (cplWord code result)

/-- The operation completes as refused: the denial is counted and reported (R28). -/
def Op.denied (o : Op) (sub addr : Nat) (s : State) : State := o.done 0x7F sub (s.deniedTo o.w addr)

/-- The operation completes with the outcome of a check. -/
def Op.refuse (o : Op) (x : Sub) (addr : Nat) (s : State) : State := if x.1 = 0x7F then o.denied x.2 addr s else o.done x.1 x.2 s

/-- The completion word of the twin's answer: `DENIED` and `FAULT` carry the subcause, any other code the result (R75). -/
def twinCpl (r : TwinReply) : Word := cplWord r.code (if r.code = 0x7E ∨ r.code = 0x7F then r.sub else r.result)

/-- The twin answers an operation (R40): its words go to local memory where the operation reads, and its ticket completes. A curtain that unit 0 accepts stays
pending until it switches (R306). -/
def State.replied (s : State) (q : Nat) (r : TwinReply) : State :=
  match s.unacked.find? (fun m => m.seq == q) with
  | none => s
  | some m =>
    let gone := { s with unacked := s.unacked.filter (fun x => x.seq != q) }
    match m.done with
    | .answer e g word dest =>
      let w := if r.code = 0 then word.getD (twinCpl r) else twinCpl r
      match dest, s.ctx? m.cx with
      | some d, some c =>
        match gone.writeLocals m.cx c d (if r.code = 0 then r.words else []) with
        | (none, t) => t.finishTicket e g w
        | (some x, t) => t.finishTicket e g (cplWord x.1 x.2)
      | _, _ => gone.finishTicket e g w
    | .curtain e g => if r.code = 0 then s else gone.finishTicket e g (twinCpl r)
    | _ => s

/-- The descriptor leaves for the twin with the context's tenant and type (R31); `tw`, where it is there, is the twin's answer. -/
def Op.ask (o : Op) (cls : Nat) (more : List Nat) (done : AckFor) (s : State) : State :=
  let s := s.sendTwin cls o.cx (o.ws.getD 1 0) 0 ([7, o.e, o.w.tenant, ctxCode o.w.kind] ++ o.ws.map BitVec.toNat ++ more) done
  match o.tw with
  | some r => s.replied (s.rd Reg.Hid.TW_SEQ [0]) r
  | none => s

/-- An operation that names the twin: it faults while `PAIR_OK` is 0 (R235), and completes with the twin's answer, whose words go to `dest`, at once or when the
answer comes (R40). -/
def Op.remote (o : Op) (dest : Option Nat) (s : State) : State :=
  if !s.pairOk then o.done 0x7E 4 s else o.ask 5 [] (.answer o.e o.g none dest) s

/-- Whether an operation of unit 1 changes an object that the pair shares, and so is serialised at unit 0 (R266, R306). -/
def State.issuesAtUnit0 (s : State) (ty : Nat) : Bool := s.pairing != 0 && s.env.unit == 1 && s.pairOk && decide (ty ∈ [0x01, 0x02, 0x10, 0x11, 0x50, 0x51])

/-- An operation made here is complete once the twin holds the result too (R265, R266): at once where nothing went there. `b` is the state before it. -/
def Op.doneBoth (o : Op) (b : State) (code result : Nat) (s : State) : State :=
  if s.sentSince b then s.lastFor (.ticket o.e o.g (cplWord code result)) else o.done code result s

/-- A shared object's operation while the pair is apart (R266, R306): `FAULT` subcause 0x04, counted. -/
def State.apart (s : State) : Bool := s.pairing != 0 && !s.pairOk

/-- The operation faults because the pair is apart. -/
def Op.apart (o : Op) (s : State) : State := o.done 0x7E 4 (s.addTo Reg.Twn.MIRROR_FAULTS [] 1)

/-! ### `TABLE.*` (R85, R86, R320–R325) -/

/-- What an operation answers to an object address that names no object of its kind: the checks of R28 on that address, the field value last. -/
def Op.misnamed (o : Op) (a : Nat) (s : State) : Option Sub := firstSub (s.authority o.w a true ++ [deny 6])

/-- What every table operation checks of `TABLE` (R28, R84). -/
def Op.table (o : Op) (s : State) : Option Sub := if dword o.ws 1 = fwdTable then none else o.misnamed (dword o.ws 1) s

/-- `TABLE.INSERT` (R86, R323). -/
def Op.tableInsert (o : Op) (s : State) : State :=
  let kw := dbits o.ws 2 0 4
  let dw := dbits o.ws 2 4 4
  match o.table s with
  | some x => o.refuse x (dword o.ws 1) s
  | none =>
    if kw ≠ 2 ∨ dw ≠ 1 then o.denied 6 (dword o.ws 1) s
    else if s.apart then o.apart s
    else
      match s.tableInsert o.w.tenant (dword o.ws 3) (dword o.ws 4) (dword o.ws 5) with
      | (0x7F, sub, s) => o.denied sub (dword o.ws 1) s
      | (code, r, t) => o.doneBoth s code r (s.shareTable t)

/-- `TABLE.DELETE` (R85, R325). -/
def Op.tableDelete (o : Op) (s : State) : State :=
  let byKey := dbits o.ws 0 14 1 = 1
  match o.table s with
  | some x => o.refuse x (dword o.ws 1) s
  | none =>
    if byKey ∧ (dbits o.ws 2 0 4 ≠ 2 ∨ !fwdKeyOk (dword o.ws 3) (dword o.ws 4)) then o.denied 6 (dword o.ws 1) s
    else if s.apart then o.apart s
    else
      let s := if byKey then s.checkKey (dword o.ws 3 % 2 ^ 18) (fwdMac (dword o.ws 3) (dword o.ws 4)) else s.checkHandle (dword o.ws 2)
      let found := if byKey then s.entOf (dword o.ws 3 % 2 ^ 18) (fwdMac (dword o.ws 3) (dword o.ws 4)) else s.entAt (dword o.ws 2)
      match s.tableDelete o.w.tenant found byKey with
      | (0x7F, sub, s) => o.denied sub (dword o.ws 1) s
      | (code, r, t) => o.doneBoth s code r (s.shareTable t)

/-- `TABLE.READ` (R86). -/
def Op.tableRead (o : Op) (s : State) : State :=
  let d := dword o.ws 3
  match o.table s with
  | some x => o.refuse x (dword o.ws 1) s
  | none =>
    let s := s.checkHandle (dword o.ws 2)
    match s.tableRead o.w.tenant (dword o.ws 2) with
    | (0x7F, sub, _) => o.denied sub (dword o.ws 1) s
    | (code, r, vs) =>
      if !o.c.covers d 3 then o.done 0x7E 2 s
      else
        match s.writeLocals o.cx o.c d vs with
        | (none, s) => o.done code r s
        | (some x, s) => o.done x.1 x.2 s

/-! ### `KEY.*` (R366–R374) -/

/-- The slot that `SLOT` names: the address of a slot's first word. -/
def keySlotAt (a : Nat) : Option Nat :=
  match Reg.Key.MODE.at? a with
  | some [n] => some n
  | _ => none

/-- The authority checks of a key operation (R28, R367 item 1). -/
def Op.keyAuthority (o : Op) (n : Nat) (s : State) : Option Sub :=
  match o.w.kind with
  | .prompter _ => some (deny 1)
  | .system => none
  | .script =>
    if n = 0 then some (deny 1)
    else if o.w.tenant = 0 then none
    else if n ≤ 63 then some (deny 3)
    else if s.rd Reg.Key.TENANT [n] ≠ o.w.tenant then some (deny 2) else none

/-- The wrapped key's bytes (R84). -/
def wrappedBytes (ws : List Word) (n : Nat) : List Nat :=
  (List.range n).map (fun k => dword ws (3 + k / 5) / 2 ^ (32 - 8 * (k % 5)) % 256)

/-- `KEY.WRITE` (R367). -/
def Op.keyWrite (o : Op) (s : State) : State :=
  let a := dword o.ws 1
  match keySlotAt a with
  | none => o.refuse ((o.misnamed a s).getD (deny 6)) a s
  | some n =>
    match o.keyAuthority n s with
    | some x => o.refuse x a s
    | none =>
      if 147455 < dbits o.ws 2 0 18 then o.denied 6 a s
      else
        let k256 := dbits o.ws 2 19 1 = 1
        let b : Bank := { mode := dbits o.ws 2 28 4, k256 := k256, keyIdx := dbits o.ws 2 20 8, succ := dbits o.ws 2 0 18, succV := dbits o.ws 2 18 1 = 1, key := 0 }
        if !b.fits n || (s.wrappingKey n).isNone then o.denied 6 a s
        else
          let s := if s.pairing = 0 ∨ s.apart then s else s.sendTwin 4 o.cx (o.ws.getD 1 0) 0 (0x10 :: n :: (o.ws.drop 2).map BitVec.toNat) (.key n o.e o.g)
          s.keyWrite o.e o.g n b (wrappedBytes o.ws (if k256 then 40 else 24)) (dbits o.ws 0 14 1 = 1)

/-- `KEY.ERASE` (R374). -/
def Op.keyErase (o : Op) (s : State) : State :=
  let a := dword o.ws 1
  match keySlotAt a with
  | none => o.refuse ((o.misnamed a s).getD (deny 6)) a s
  | some n =>
    match o.keyAuthority n s with
    | some x => o.refuse x a s
    | none => (if s.pairing = 0 ∨ s.apart then s else s.sendTwin 4 o.cx (o.ws.getD 1 0) 0 [0x11, n] (.key n o.e o.g)).keyErase o.e o.g n

/-! ### `MEM.COPY` (R88) -/

/-- A word of a copy's source, at a local or an object address. -/
def Op.getWord (o : Op) (isLocal : Bool) (a : Nat) (s : State) : Except Sub Word × State :=
  if isLocal then s.getLocal o.cx o.c a
  else
    match s.loadWord o.w a with
    | ((0, _), v, s) => (.ok v, s)
    | (x, _, s) => (.error x, s)

/-- A word of a copy's destination, at a local or an object address. -/
def Op.putWord (o : Op) (isLocal : Bool) (a : Nat) (v : Word) (s : State) : Option Sub × State :=
  if isLocal then s.putLocal o.cx o.c a v
  else
    match s.storeWord o.w a 0 v with
    | ((0, _), s) => (none, s)
    | (x, s) => (some x, s)

/-- One word of a copy: from a local or an object address to a local or an object address. -/
def Op.copyWord (o : Op) (srcLocal dstLocal : Bool) (src dst : Nat) (s : State) : Option Sub × State :=
  match o.getWord srcLocal src s with
  | (.error x, s) => (some x, s)
  | (.ok v, s) => o.putWord dstLocal dst v s

/-- The words of a copy in its order; answers the refusal that stopped it, if any, and the words copied. -/
def Op.copyWords (o : Op) (srcLocal dstLocal : Bool) (src dst : Nat) (order : List Nat) (s : State) : Option Sub × Nat × State :=
  match order with
  | [] => (none, 0, s)
  | i :: t =>
    match o.copyWord srcLocal dstLocal (src + i) (dst + i) s with
    | (some x, s) => (some x, 0, s)
    | (none, s) =>
      match o.copyWords srcLocal dstLocal src dst t s with
      | (x, n, s) => (x, n + 1, s)

/-- The checks of R28 on the first and the last word of a source that is an object range, made at `ISSUE`. -/
def Op.sourceChecks (o : Op) (a n : Nat) (s : State) : List Sub :=
  [a, a + n - 1].flatMap (fun a => s.authority o.w a false ++ s.memoryRefuses a)

/-- The checks of R28 on the first and the last word of a destination that is an object range, made at `ISSUE`: with the words `vs` gives for them, where the source
can be read there, down to operator fields and field values. -/
def Op.destChecks (o : Op) (a n : Nat) (vs : Nat → Option Word) (s : State) : List Sub :=
  [0, n - 1].flatMap (fun i => match vs i with
    | some v => (s.storeCheck o.w (a + i) v).toList.filter (fun x => x.1 == 0x7F)
    | none => s.authority o.w (a + i) true ++ s.memoryRefuses (a + i))

/-- What a word of a copy's source holds, without reading it: no read takes effect before the checks have passed. -/
def Op.peek (o : Op) (isLocal : Bool) (a : Nat) (s : State) : Option Word :=
  if isLocal then (s.localRead o.cx o.c a).1.toOption
  else if segAddr a then (s.segRead (a % 2 ^ 34)).1
  else some (s.wordRead o.w a)

/-- `RESULT` of a copy that stopped (R88): the subcause and the blocks of 32 words copied. -/
def copyResult (sub n : Nat) : Nat := sub + n / 32 * 256

/-- Words written in order to consecutive addresses of this unit; answers the refusal that stopped them, if any, and the words written. -/
def Op.putWords (o : Op) (dstLocal : Bool) (dst : Nat) (s : State) : List Word → Option Sub × Nat × State
  | [] => (none, 0, s)
  | v :: t =>
    match o.putWord dstLocal dst v s with
    | (some x, s) => (some x, 0, s)
    | (none, s) =>
      match o.putWords dstLocal (dst + 1) s t with
      | (x, n, s) => (x, n + 1, s)

/-- Words read in order from consecutive addresses of this unit, up to the first that is refused. -/
def Op.getWords (o : Op) (srcLocal : Bool) (src : Nat) (s : State) : Nat → Option Sub × List Word × State
  | 0 => (none, [], s)
  | n + 1 =>
    match o.getWord srcLocal src s with
    | (.error x, s) => (some x, [], s)
    | (.ok v, s) =>
      match o.getWords srcLocal (src + 1) s n with
      | (x, vs, s) => (x, v :: vs, s)

/-- How a copy completes that a refusal on this unit or the twin's answer ended after `k` of its `n` words (R88). -/
def Op.copyEnd (o : Op) (near : Option Sub) (r : TwinReply) (k n : Nat) (s : State) : State :=
  match near with
  | some x => o.done x.1 (copyResult x.2 k) s
  | none => if r.code = 0 then o.done 0 n s else o.done r.code (copyResult r.sub k) s

/-- A copy's descriptor and words leave for the twin, whose answer comes with the same command. -/
def Op.ask' (o : Op) (more : List Nat) (s : State) : State :=
  let s := s.sendTwin 5 o.cx (o.ws.getD 1 0) 0 ([7, o.e, o.w.tenant, ctxCode o.w.kind] ++ o.ws.map BitVec.toNat ++ more) .nothing
  { s with unacked := s.unacked.dropLast }

/-- The number in the usable capacity of a word that a copy names, where it lies in external memory (R441). -/
def Op.extWord (o : Op) (isLocal : Bool) (a : Nat) (s : State) : Option Nat :=
  if !isLocal then (if segAddr a then some (s.segBase / 8 + a % 2 ^ 34) else none)
  else
    match o.c.place a with
    | .seg w => some (s.segBase / 8 + w)
    | .raw w => some w
    | _ => none

/-- Where a word of a copy lies, as a number that is one for all names of it: a word of external memory by its number there, other local words past the object space. -/
def Op.lies (o : Op) (isLocal : Bool) (a : Nat) (s : State) : Nat :=
  match o.extWord isLocal a s with
  | some w => 2 ^ 42 + w
  | none => if isLocal then 2 ^ 40 + a else a

/-- Words that a copy has written cover units whole (R438). -/
def Op.healed (o : Op) (isLocal : Bool) (dst : Nat) (is : List Nat) (s : State) : State := s.heal (is.filterMap (fun i => o.extWord isLocal (dst + i) s))

/-- A copy with an end on the twin (R40, R88). The words of a source on the twin come with its answer and are written here one by one; those of a source here are
read one by one and leave with the request, and the answer's `RESULT` says how many of them the twin stored before it stopped. -/
def Op.copyTwin (o : Op) (srcTwin dstTwin srcLocal dstLocal : Bool) (src dst n : Nat) (s : State) : State :=
  let none' : TwinReply := { code := 0x7E, sub := 4, word := 0, result := 0, words := [] }
  let r := o.tw.getD none'
  if !s.pairOk then o.done 0x7E (copyResult 4 0) s
  else if srcTwin && dstTwin then o.copyEnd none r (min r.result n) n (o.ask' [] s)
  else if srcTwin then
    match o.putWords dstLocal dst (o.ask' [] s) (r.words.take n) with
    | (x, k, s) => o.copyEnd x r k n (o.healed dstLocal dst (List.range k) s)
  else
    match o.getWords srcLocal src s n with
    | (x, vs, s) => o.copyEnd (if r.code = 0 then x else none) r (if r.code = 0 then vs.length else min r.result vs.length) n (o.ask' (vs.map BitVec.toNat) s)

/-- A range of a copy in its stretches of consecutive places, as first word, place of that word, and word after the last: a local range that goes from one segment
into the next has two. -/
def Op.stretches (o : Op) (isLocal : Bool) (a n : Nat) (s : State) : List (Nat × Nat × Nat) :=
  let k := 0x10000000 - (a - 0x100000000) % 0x10000000
  match isLocal, o.c.place a with
  | true, .seg _ | true, .raw _ => if n ≤ k then [(0, o.lies true a s, n)] else [(0, o.lies true a s, k), (k, o.lies true (a + k) s, n)]
  | _, _ => [(0, o.lies isLocal a s, n)]

/-- Whether word i of one range lies where a later word of the other does, for some i: a copy that writes the first and reads the second in ascending order would
read what it had written. -/
def meetsLater (ws rs : List (Nat × Nat × Nat)) : Bool :=
  ws.any (fun p => rs.any (fun q =>
    -- word i of stretch p lies where word i + d of stretch q does
    let d : Int := (p.2.1 : Int) - p.1 - ((q.2.1 : Int) - q.1)
    decide (0 < d) && decide (max (p.1 : Int) (q.1 - d) < min (p.2.2 : Int) (q.2.2 - d))))

/-- The order of a copy (R88): ascending, or descending where the destination overlaps the source from above. -/
def Op.order (o : Op) (sl dl : Bool) (src dst n : Nat) (s : State) : List Nat :=
  if meetsLater (o.stretches dl dst n s) (o.stretches sl src n s) then (List.range n).reverse else List.range n

/-- `MEM.COPY` (R88). -/
def Op.memCopy (o : Op) (s : State) : State :=
  let sl := dbits o.ws 0 14 1 == 1
  let dl := dbits o.ws 0 15 1 == 1
  let src := dword o.ws 1
  let dst := dword o.ws 2
  let n := dword o.ws 3
  let st := !sl && s.toTwin (BitVec.ofNat 40 src)
  let dt := !dl && s.toTwin (BitVec.ofNat 40 dst)
  let vs := fun i => if st then none else o.peek sl (src + i) s
  match firstSub ((if sl || st then [] else o.sourceChecks src (max 1 n) s) ++ (if dl || dt then [] else o.destChecks dst (max 1 n) vs s) ++ denyIf (n == 0) 6) with
  | some x => o.refuse x (if sl then dst else src) s
  | none =>
    if (sl ∧ !o.c.covers src n) ∨ (dl ∧ !o.c.covers dst n) then o.done 0x7E 2 s
    else if st || dt then o.copyTwin st dt sl dl src dst n s
    else
      let is := o.order sl dl src dst n s
      match o.copyWords sl dl src dst is s with
      | (none, k, t) => o.doneBoth s 0 k (o.healed dl dst is t)
      | (some x, k, s) => o.done x.1 (copyResult x.2 k) (o.healed dl dst (is.take k) s)

/-- `MEM.COPY` of a context of the twin, whose descriptor and, where its source is there, whose words have come here (R31, R40, R88): the ends with bit 39 set are this
unit's, are judged here, and answer their words. -/
def Op.copyServed (o : Op) (number : Nat) (s : State) : State :=
  let src := dword o.ws 1 % 2 ^ 39
  let dst := dword o.ws 2 % 2 ^ 39
  let n := dword o.ws 3
  let st := dbits o.ws 0 14 1 == 0 && dbits o.ws 1 39 1 == 1
  let dt := dbits o.ws 0 15 1 == 0 && dbits o.ws 2 39 1 == 1
  let vs := fun i => if st then o.peek false (src + i) s else o.ws[4 + i]?
  match firstSub ((if st then o.sourceChecks src (max 1 n) s else []) ++ (if dt then o.destChecks dst (max 1 n) vs s else []) ++ denyIf (n == 0) 6) with
  | some x => o.refuse x (if st then src else dst) s
  | none =>
    if st && dt then
      let is := o.order false false src dst n s
      match o.copyWords false false src dst is s with
      | (none, k, t) => o.doneBoth s 0 k (o.healed false dst is t)
      | (some x, k, s) => o.done x.1 (copyResult x.2 k) (o.healed false dst (is.take k) s)
    else if st then
      match o.getWords false src s n with
      | (x, ws, t) =>
        let t := t.emit (.twin 5 (number :: ws.map BitVec.toNat))
        match x with
        | none => o.done 0 n t
        | some x => o.done x.1 (copyResult x.2 ws.length) t
    else
      match o.putWords false dst s ((o.ws.drop 4).take n) with
      | (none, k, t) => o.doneBoth s 0 k (o.healed false dst (List.range k) t)
      | (some x, k, s) => o.done x.1 (copyResult x.2 k) (o.healed false dst (List.range k) s)

/-! ### `PB.QUERY` (R89, R447) -/

/-- `PB.QUERY`. -/
def Op.pbQuery (o : Op) (s : State) : State :=
  let q : PbQuery :=
  { lo := dbits o.ws 1 0 7, hi := dbits o.ws 1 7 7, term := dbits o.ws 1 14 10, kinds := dbits o.ws 1 24 3,
    tFrom := o.ws.getD 2 0, tTo := o.ws.getD 3 0, max := dword o.ws 5 }
  let d := dword o.ws 4
  let a := Reg.Mem.PB_WPTR.addr []
  match o.w.kind with
  | .prompter _ => o.denied 1 a s
  | _ =>
    if (1019 < q.term ∧ q.term ≠ 0x3FF) ∨ !s.flag Reg.Mem.MEM_OPEN [] then o.denied 6 a s
    else
      let (vs, r, t) := s.pbQuery q o.w.tenant
      if !o.c.covers d (max 1 vs.length) then o.done 0x7E 2 s
      else
        match t.writeLocals o.cx o.c d vs with
        | (none, s) => o.done 0 r s
        | (some x, s) => o.done x.1 x.2 s

/-! ### `BUF.FREE` and `BUF.RELEASE` (R358) -/

/-- The checks of R28 on a buffer reference: authority over it, and that it names a buffer's view. -/
def Op.bufChecks (o : Op) (s : State) : Option Sub :=
  let a := dword o.ws 1
  firstSub (s.authority o.w a true ++ denyIf (refKey a).isNone 6)

/-- `BUF.FREE`. -/
def Op.bufFree (o : Op) (s : State) : State :=
  let a := dword o.ws 1
  match o.bufChecks s with
  | some x => o.refuse x a s
  | none =>
    let (code, s) := s.bufFree a (s.issuerOf o.w).1 (s.issuerOf o.w).2 o.w.tenant
    o.done code 0 s

/-- `BUF.RELEASE`. -/
def Op.bufRelease (o : Op) (s : State) : State :=
  let a := dword o.ws 1
  match o.bufChecks s with
  | some x => o.refuse x a s
  | none =>
    match s.bufRelease a (s.issuerOf o.w).1 (s.issuerOf o.w).2 o.w.tenant with
    | (0x7F, sub, s) => o.denied sub a s
    | (code, sub, s) => o.done code sub s

/-! ### Cues (R396–R399) -/

/-- The store of a firing cue (R399): judged when its target accepts it; the ticket completes with `OK` or `LATE`, or with the refusal; that
of a store on the twin with the twin's answer (R40). -/
def State.fireCue (s : State) (q : Cue) (tw : Option TwinReply) : State :=
  let orphan : Bool := match s.cpu.tickets.get? q.entry with | some t => t.orphan | none => true
  let w : Who := { cx := q.cx, kind := q.kind, tenant := q.tenant, remote := orphan }
  let ok := match q.late with | none => cplWord 0 0 | some x => cplWord 1 x
  if s.toTwin q.target then
    if !s.pairOk then s.finishTicket q.entry q.gen (cplWord 0x7E 4)
    else
      let s := s.sendTwin 5 q.cx q.target 0 [6, q.target.toNat % 2 ^ 39, q.value.toNat, q.tenant, ctxCode q.kind] (.answer q.entry q.gen (some ok) none)
      match tw with
      | some r => s.replied (s.rd Reg.Hid.TW_SEQ [0]) r
      | none => s
  else
    match s.storeWord w q.target.toNat 0 q.value with
    | ((0, _), t) => if t.sentSince s then t.lastFor (.ticket q.entry q.gen ok) else t.finishTicket q.entry q.gen ok
    | (x, s) => s.finishTicket q.entry q.gen (cplWord x.1 x.2)

/-- The cycle a timed cue fires in: cycles of `CUE` begin at multiples of 8 (R396). -/
def Cue.firesAt (q : Cue) : Nat := cueCycle q.due

/-- The pending cues of a list fire, in its order; what the twin answers to their stores comes later. -/
def State.fireCues (s : State) (l : List Cue) : State :=
  l.foldl (fun s q => s.fireCue q none) { s with ptp := { s.ptp with cues := s.ptp.cues.filter (fun q => !l.contains q) } }

/-- The timed cues whose cycles have come, in the order in which they fire: by cycle, those of one cycle as the cue unit accepted them (R399). -/
def State.cuesDue (s : State) : List Cue :=
  sortBy (fun a b => decide (a.firesAt ≤ b.firesAt)) (s.ptp.cues.filter (fun q => q.port.isNone && decide (q.firesAt ≤ s.ext)))

/-- `CUE.AT` (R396–R399): a cue waits, fires at once, behind those that were due before it, or is discarded. -/
def Op.cueAt (o : Op) (s : State) : State :=
  let bound := dbits o.ws 0 14 1 = 1
  let t := o.ws.getD 1 0
  let target := o.ws.getD 2 0
  let port := dbits o.ws 4 31 6
  let win := if dbits o.ws 4 0 31 = 0 then 777600 else dbits o.ws 4 0 31
  let y := sdiff t s.nowW
  let x := (s.nowW - t).toNat
  let q : Cue :=
  { entry := o.e, gen := o.g, cx := o.cx, kind := o.w.kind, tenant := o.w.tenant, due := s.extOf t, port := (if bound then some port else none),
    late := (if y < 0 then some x else none), target := target, value := o.ws.getD 3 0 }
  match firstSub (match o.w.kind with
    | .prompter _ => [deny 1]
    | _ => (if s.toTwin target then [] else s.authority o.w target.toNat true) ++ denyIf (bound && s.mode port == 0) 6) with
  | some z => o.refuse z target.toNat s
  | none =>
    if (y < 0 ∧ win < x) ∨ (bound ∧ s.tail port ∧ s.rd Reg.Pon.TAIL_SYNC [port] ≠ 2) then o.done 2 0 s
    else if bound then
      { s with ptp := { s.ptp with cues := s.ptp.cues ++ [{ q with due := (if y < 0 then s.ext + 1 else q.due) }] } }
    else if 0 < y then { s with ptp := { s.ptp with cues := s.ptp.cues ++ [q] } }
    else (s.fireCues s.cuesDue).fireCue q o.tw

/-- Whether a pending cue is next to fire: a timed one when none fires before it (R399); one bound to a tail-role port at that port's boundary, the first bit of a frame it
receives in `SYNC`, at or after the cue's time, and after those accepted before it that are due there too (R398). One bound to a head-role port fires with that port's
`FRAME_BOUNDARY`. -/
def State.cueReady (s : State) (before : List Cue) (q : Cue) (after : List Cue) : Bool :=
  match q.port with
  | some p => s.tailSynced p && decide (q.due ≤ s.ext) && before.all (fun r => r.port != some p || decide (s.ext < r.due))
  | none => before.all (fun r => r.port.isSome || decide (q.firesAt < r.firesAt)) && after.all (fun r => r.port.isSome || decide (q.firesAt ≤ r.firesAt))

/-- `CUE_FIRE` (R396, R398, R399): the cue of ticket entry `e` reaches its time or its boundary; `tw` answers a store on the twin. -/
def execCueFire (e : Nat) (tw : Option TwinReply) (s : State) : Out' :=
  .next (match s.ptp.cues.span (fun q => q.entry != e) with
  | (before, q :: after) =>
    if !s.cueReady before q after then s
    else
      let s := { s with ptp := { s.ptp with cues := before ++ after } }
      (if q.port.isSome then s else s.advanceTo q.firesAt).fireCue q tw
  | (_, []) => s)

/-! ### `STAGE`, `CURTAIN` and `COUNTER.FLUSH` (R90, R296, R303–R306, R458) -/

/-- Reads `n` change records from a local address on; each names its own length in its first word (R295). -/
def State.readChanges (s : State) (cx : Cx) (c : Ctx) (a : Nat) : Nat → Except Sub (List (List Word)) × State
  | 0 => (.ok [], s)
  | n + 1 =>
    if c.place a = .outside then (.error (0x7E, 2), s)
    else
      match s.getLocal cx c a with
      | (.error x, s) => (.error x, s)
      | (.ok w, s) =>
        let len := max 1 (bitsOf w 4 6)
        if !c.covers a len then (.error (0x7E, 2), s)
        else
          match s.readLocals cx c a len with
          | (.error x, s) => (.error x, s)
          | (.ok r, s) =>
            match s.readChanges cx c (a + len) n with
            | (.error x, s) => (.error x, s)
            | (.ok rs, s) => (.ok (r :: rs), s)

/-- `STAGE` (R296, R297, R305, R306): held while a curtain is pending, else checked and applied to the staged set; on unit 1 of a pair it leaves for unit 0. -/
def Op.stage (o : Op) (s : State) : State :=
  let a := Reg.Sve.STAGED.addr []
  match o.w.kind with
  | .prompter _ => o.denied 1 a s
  | _ =>
    if dword o.ws 2 = 0 then o.denied 6 a s
    else
      match s.readChanges o.cx o.c (dword o.ws 1) (dword o.ws 2) with
      | (.error x, s) => o.done x.1 x.2 s
      | (.ok recs, s) =>
        if s.apart then o.apart s
        else if s.issuesAtUnit0 0x50 && !o.w.remote then o.ask 4 (recs.flatten.map BitVec.toNat) (.answer o.e o.g none none) s
        else s.stageNow { entry := o.e, gen := o.g, cx := o.cx, remote := o.w.remote, tenant := o.w.tenant, recs := recs }

/-- `CURTAIN` (R90, R303, R305, R306). -/
def Op.curtain (o : Op) (s : State) : State :=
  let a := Reg.Sve.V_CUR.addr []
  match o.w.kind with
  | .prompter _ => o.denied 1 a s
  | _ =>
    if !o.w.operator then o.denied 3 a s
    else if s.sieve.curtain.isSome then o.denied 6 a s
    else if s.apart then o.apart s
    else if s.issuesAtUnit0 0x51 && !o.w.remote then o.ask 4 [] (.curtain o.e o.g) s
    else
      let due := s.curtainTime (o.ws.getD 1 0)
      let s := if s.pairing = 0 then s else s.sendTwin 4 o.cx (BitVec.ofNat 40 a) 0 [0x51, due] .nothing
      s.curtain o.e o.g due

/-- The counter that an address of the `CNT` view names. -/
def cntAt (a : Nat) : Option Nat :=
  match Reg.Cnt.CNT.at? a with
  | some [n] => some n
  | _ => none

/-- The checks of a flush on every group its range touches (R458): authority to write each, and that groups 13 to 15 are the operator's. -/
def Op.flushChecks (o : Op) (first n : Nat) (s : State) : List Sub :=
  let groups := (List.range ((first + n - 1) / 8192 + 1 - first / 8192)).map (· + first / 8192)
  match o.w.kind with
  | .prompter _ => [deny 1]
  | .system => []
  | .script => denyIf (o.w.tenant != 0 && groups.any (fun g => decide (g < 272) && (g == 13 || g == 14 || g == 15 || s.rd Reg.Cnt.TENANT [g] != o.w.tenant))) 2

/-- `COUNTER.FLUSH` (R458, R459). -/
def Op.counterFlush (o : Op) (s : State) : State :=
  let a := dword o.ws 1
  let n := dword o.ws 2
  match cntAt a with
  | none => o.refuse ((o.misnamed a s).getD (deny 6)) a s
  | some k =>
    match firstSub (o.flushChecks k n s ++
      denyIf (n == 0 || decide (2097152 < n) || decide (2228224 < k + n) || (decide (131072 < k + n) && !s.flag Reg.Mem.MEM_OPEN [])) 6) with
    | some x => o.refuse x a s
    | none => o.done 0 n (s.flush k n (dbits o.ws 0 14 1 = 1))

/-! ### `ISSUE` (R74) -/

/-- The object addresses a descriptor names, for R121. -/
def descObjs (ty : Nat) (ws : List Word) : List Nat :=
  match ty with
  | 0x20 => (if dbits ws 0 14 1 = 1 then [] else [dword ws 1]) ++ (if dbits ws 0 15 1 = 1 then [] else [dword ws 2])
  | 0x40 => [dword ws 2]
  | 0x21 | 0x50 | 0x51 => []
  | _ => [dword ws 1]

/-- Whether an object address has a reserved block ID (R17, R18). -/
def State.reservedBlock (s : State) (a : Nat) : Bool :=
  a / 2 ^ 34 == 0 || (decide (0x11 < a / 2 ^ 34) && !s.toTwin (BitVec.ofNat 40 a))

/-- The operations that name one object address, in word 1. -/
def objectOps : List Nat := [0x01, 0x02, 0x03, 0x10, 0x11, 0x30, 0x31, 0x60]

/-- Whether an operation's object lies on the twin. -/
def Op.onTwin (o : Op) (ty : Nat) (s : State) : Bool := decide (ty ∈ objectOps) && s.toTwin (o.ws.getD 1 0)

/-- Starts the operation of a descriptor (R74): the encoding is judged first, then the prompter's one operation (R27), then the operation's own checks. -/
def Op.start (o : Op) (s : State) : State :=
  let ty := dbits o.ws 0 0 8
  let locals : Bool := ty == 0x20 && dbits o.ws 0 14 1 == 1 && dbits o.ws 0 15 1 == 1
  if !layoutOk ty o.ws then o.done 0x7E 1 s
  else if o.c.tree?.isSome && !locals then
    o.denied (if (descObjs ty o.ws).any s.reservedBlock then 5 else 1) ((descObjs ty o.ws).headD 0) s
  else if o.onTwin ty s then
    (if ty = 0x03 ∧ !o.c.covers (dword o.ws 3) 3 then o.done 0x7E 2 s else o.remote (if ty = 0x03 then some (dword o.ws 3) else none) s)
  else if decide (ty ∈ [0x01, 0x02, 0x10, 0x11]) && s.issuesAtUnit0 ty then o.ask 4 [] (.answer o.e o.g none none) s
  else
    match ty with
    | 0x01 => o.tableInsert s
    | 0x02 => o.tableDelete s
    | 0x03 => o.tableRead s
    | 0x10 => o.keyWrite s
    | 0x11 => o.keyErase s
    | 0x20 => o.memCopy s
    | 0x21 => o.pbQuery s
    | 0x30 => o.bufFree s
    | 0x31 => o.bufRelease s
    | 0x40 => o.cueAt s
    | 0x50 => o.stage s
    | 0x51 => o.curtain s
    | _ => o.counterFlush s

/-- No ticket entry is available (R42): a prompter gets the null ticket; a stagehand context blocks and executes the instruction again once one is freed, unless it
is to be stopped (R30, R51). -/
def State.noTicket (s : State) (cx : Cx) (c0 c : Ctx) (wd : Nat) : State :=
  match c.kind with
  | .prompter z => (s.addTo Reg.Cue.TICKETS_EXH [z] 1).putCtx cx ((c.setReg wd 0).advance)
  | _ =>
    match c0.kill with
    | some (code, sub) => s.stopScript cx c0 code sub
    | none => s.blockOn cx c0 .issue

/-- An `ISSUE` that no `ORDER` holds any more (R74). `c0` is the context before its cycles are counted; those it waited behind `ORDER` count for a prompter, and for an
`ISSUE` that raises an exception (R65). A refusal that returned while the `ISSUE` waited for a ticket entry is taken once it has one (R39). -/
def State.issueAt (s : State) (cx : Cx) (c0 : Ctx) (a : Word) (wd : Nat) (instr : Word) (tw : Option TwinReply) : State :=
  let behind := match c0.block with | .heldIssue .. => true | _ => false
  let cr := { (if behind then s.waited c0 0 true else c0) with block := .none }
  let c0 := { (if behind then s.waited c0 0 false else c0) with block := .none }
  match c0.place a.toNat with
  | .outside => s.raiseAt cx (cr.spend 3) 0x7E 2 a instr
  | _ =>
    match s.getLocal cx c0 a.toNat with
    | (.error x, s) => s.raiseAt cx (cr.spend 3) x.1 x.2 a instr
    | (.ok w0, s) =>
      let n := bitsOf w0 8 5
      let c := c0.spend (3 + n)
      if n = 0 ∨ !c.covers a.toNat n then s.raiseAt cx (cr.spend (3 + n)) 0x7E 2 a instr
      else
        match s.readLocals cx c a.toNat n with
        | (.error x, s) => s.raiseAt cx (cr.spend (3 + n)) x.1 x.2 a instr
        | (.ok ws, s) =>
          if !s.ticketFor cx c then s.noTicket cx c0 c wd
          else
            let ty := bitsOf w0 0 8
            let port := if ty = 0x40 ∧ dbits ws 0 14 1 = 1 then some (dbits ws 4 31 6) else none
            let (e, t, s) := s.takeTicket cx c (descObjs ty ws) port
            let c := { (c.setReg wd (ticketWord e t)).advance with order := false }
            let o : Op := { cx := cx, c := c, w := whoOf cx c, e := e, g := t.gen, ws := ws, tw := tw }
            (o.start (s.putCtx cx c)).takeReturned cx

/-- The `TYPE` and `LEN` of the descriptor an `ISSUE` names, where it lies in data memory or another readable place. -/
def State.descType (s : State) (cx : Cx) (f : Fields) : Option (Nat × Nat) :=
  match s.ctx? cx with
  | none => none
  | some c =>
    match (s.localRead cx c (addrI c f).toNat).1 with
    | .ok w => some (bitsOf w 0 8, bitsOf w 8 5)
    | .error _ => none

/-- The instruction `ISSUE` (R74): held behind `ORDER` (R46), or carried out. -/
def issue (cx : Cx) (f : Fields) (tw : Option TwinReply) (s : State) : State :=
  erten 0x48 { wd := true, wa := true, mask := 0x3FFFF, refusedCost := 3 } 0 cx f (fun c s =>
    if s.heldByOrder cx c then s.blockOn cx c (.heldIssue (addrI c f) f.wd.toNat (ertenWord 0x48 f) tw)
    else s.issueAt cx c (addrI c f) f.wd.toNat (ertenWord 0x48 f) tw) s

/-- An `ISSUE` of a descriptor of one type; a command that names the wrong type for what stands in memory is not this one, and changes nothing (log 18). -/
def issueOf (ty : Nat) (cx : Cx) (f : Fields) (tw : Option TwinReply) (s : State) : Out' :=
  .next (match s.descType cx f with
  | some (t, _) => if t = ty then issue cx f tw s else s
  | none => issue cx f tw s)

/-- `TABLE.INSERT` (R86, R323). -/
def execTableInsert (cx : Cx) (f : Fields) (tw : Option TwinReply) (s : State) : Out' := issueOf 0x01 cx f tw s
/-- `TABLE.DELETE` (R85). -/
def execTableDelete (cx : Cx) (f : Fields) (tw : Option TwinReply) (s : State) : Out' := issueOf 0x02 cx f tw s
/-- `TABLE.READ` (R86). -/
def execTableRead (cx : Cx) (f : Fields) (tw : Option TwinReply) (s : State) : Out' := issueOf 0x03 cx f tw s
/-- `KEY.WRITE` (R367). -/
def execKeyWrite (cx : Cx) (f : Fields) (tw : Option TwinReply) (s : State) : Out' := issueOf 0x10 cx f tw s
/-- `KEY.ERASE` (R374). -/
def execKeyErase (cx : Cx) (f : Fields) (tw : Option TwinReply) (s : State) : Out' := issueOf 0x11 cx f tw s
/-- `MEM.COPY` (R88). -/
def execMemCopy (cx : Cx) (f : Fields) (tw : Option TwinReply) (s : State) : Out' := issueOf 0x20 cx f tw s
/-- `PB.QUERY` (R447). -/
def execPbQuery (cx : Cx) (f : Fields) (tw : Option TwinReply) (s : State) : Out' := issueOf 0x21 cx f tw s
/-- `BUF.FREE` (R358). -/
def execBufFree (cx : Cx) (f : Fields) (tw : Option TwinReply) (s : State) : Out' := issueOf 0x30 cx f tw s
/-- `BUF.RELEASE` (R358). -/
def execBufRelease (cx : Cx) (f : Fields) (tw : Option TwinReply) (s : State) : Out' := issueOf 0x31 cx f tw s
/-- `CUE.AT` (R396). -/
def execCueAt (cx : Cx) (f : Fields) (tw : Option TwinReply) (s : State) : Out' := issueOf 0x40 cx f tw s
/-- `STAGE` (R296). -/
def execStage (cx : Cx) (f : Fields) (tw : Option TwinReply) (s : State) : Out' := issueOf 0x50 cx f tw s
/-- `CURTAIN` (R303). -/
def execCurtain (cx : Cx) (f : Fields) (tw : Option TwinReply) (s : State) : Out' := issueOf 0x51 cx f tw s
/-- `COUNTER.FLUSH` (R458). -/
def execCounterFlush (cx : Cx) (f : Fields) (tw : Option TwinReply) (s : State) : Out' := issueOf 0x60 cx f tw s

/-- `ISSUE` of a descriptor of undefined type or of length 0 (R74): a length of 0 faults at once, an undefined type completes its ticket with `FAULT`
subcause 0x01. A descriptor of a defined type has a command of its own. -/
def execIssue (cx : Cx) (f : Fields) (tw : Option TwinReply) (s : State) : Out' :=
  .next (match s.descType cx f with
  | some (t, n) => if t ∉ knownTypes ∨ n = 0 then issue cx f tw s else s
  | none => issue cx f tw s)

/-- `ORDER_RELEASE` (R46): what stood before `ORDER` is complete, and the held access, store or `ISSUE` starts. -/
def execOrderRelease (cx : Cx) (s : State) : Out' :=
  .next (match s.ctx? cx with
  | none => s
  | some c =>
    if !s.settled cx c then s
    else
      match c.block with
      | .heldAccess x => s.startAccess cx c x
      | .heldStore a v i =>
        let c := { (s.waited c 0 false).advance with order := false }
        let s := (s.putCtx cx c).post cx c a v i
        match s.ctx? cx with
        | some d => if d.block == .none then s.resume cx d else s
        | none => s
      | .heldIssue a wd i tw =>
        let c := { c with order := false }
        let s := s.issueAt cx c a wd i tw
        match s.ctx? cx with
        | some d => if d.block == .none then s.resume cx d else s
        | none => s
      | _ => s)

end Sys2Proof.Machine
end

