-- ==== Sys2Proof/Machine/Boundary.lean ====
section
/-! DEFINITION. The frame boundary of a port (R54, R122, R131, R184), with the cues bound to it (R398). -/

namespace Sys2Proof.Machine

/-- The frame-bound cues of a head-role port that are due at boundary `b` (R398), those of a bonded pair's odd port among them, whose boundaries are the pair's. -/
def State.boundDue (s : State) (z b : Nat) (q : Cue) : Bool :=
  match q.port with
  | some p => (p == z || (s.flag Reg.Pon.BOND [z] && p == z + 1)) && decide (q.due ≤ b)
  | none => false

/-- What fires in the first `CUE` cycle of boundary `b` (R398, R399): the frame-bound cues, and where there are any the timed ones of that cycle in their places among
them. -/
def State.fireBound (s : State) (z b : Nat) : State :=
  if s.ptp.cues.any (s.boundDue z b) then s.fireCues (s.ptp.cues.filter (fun q => s.boundDue z b q || (q.port.isNone && q.firesAt == cueCycle b))) else s

/-- Every effect of boundary `b` of a head-role port's tree, in order: the stores of its cues leave 1,200 cycles before its prompter is entered (R184, R398). -/
def State.boundary (s : State) (z b : Nat) (plain : Bool) : State :=
  let ran := s.flag Reg.Hid.F_RUN [z]
  let s := if ran && (s.tree z).fixed.isNone then s.fixSheet z else s
  let s := s.advanceTo b
  let s := if ran then s.endFrame z else s
  let wasLit := s.flag Reg.Pon.LIT [z]
  let s := s.footlights z b plain
  let s := if ran then s.releaseSheet z b wasLit else s
  let s := s.beginFrame z b
  let s := if s.flag Reg.Pon.LIT [z] then s.sendControl z b !wasLit else s
  (s.fireBound z b).enterRun z

/-- `FRAME_BOUNDARY` (R184, R131): a head-role port's next frame begins; a tail-role port's footlight stage follows `LIGHT`,
once training has ended (R122) and until manufacturing test (R488), and a burst being sent is cut where it goes dark (R147). -/
def execFrameBoundary (z : Nat) (plain : Bool) (s : State) : Out' :=
  if 64 ≤ z then .next s
  else if s.tail z then
    let want := s.flag Reg.Pon.LIGHT [z] && !s.flag Reg.Pon.TRAINING [z] && !s.flag Reg.Hid.MFG [0]
    .next ((if want then s.yieldDark z else s.cutBurst z).wr Reg.Pon.LIT [z] (bit want))
  else if !s.framing z || s.flag Reg.Pon.BOND_PARTNER [z] || !s.timeOn then .next s
  else .next (s.boundary z (s.nextBoundary z) plain)

end Sys2Proof.Machine
end

