-- ==== Sys2Proof/Machine/Branch.lean ====
section
/-! DEFINITION. Branches, jumps and calls (R69). -/

namespace Sys2Proof.Machine

/-- The pc-relative target (pc + sext(imm18)) mod 2^17. -/
def branchTarget (c : Ctx) (f : Fields) : Nat := (BitVec.ofNat 40 c.pc + f.sext).toNat % 2 ^ 17

/-- The context goes on at `t`, and the branch trace takes an entry of kind `k` (R470). -/
def goTo (cx : Cx) (k t : Nat) (c : Ctx) (s : State) : State :=
  (s.putCtx cx { c with pc := t }).trace cx.core k c.pc t cx.ctx

/-- A conditional branch: 1 cycle, and 1 more when it is taken. -/
def branchIf (cx : Cx) (f : Fields) (p : Ctx → Bool) (c : Ctx) (s : State) : State :=
  if p c then goTo cx 0 (branchTarget c f) { c with cycles := c.cycles + 1 } s else s.putCtx cx c.advance

/-- A jump through a register: a target beyond 17 bits faults at the instruction. -/
def jumpReg (cx : Cx) (op : Nat) (f : Fields) (link : Bool) (c : Ctx) (s : State) : State :=
  if 2 ^ 17 ≤ (c.a f).toNat then s.raiseAt cx c 0x7E 3 (c.a f) (ertenWord op f)
  else goTo cx 1 (c.a f).toNat (if link then c.setReg 31 (BitVec.ofNat 40 (c.pc + 1)) else c) s

/-- The fields of a conditional branch. -/
def useB : Use := { wa := true, wb := true, mask := 0x3FFFF }

/-- `BEQ` (R69): branches if wa = wb. -/
def execBeq (cx : Cx) (f : Fields) (s : State) : Host.Outcome State Fault Refusal :=
  .next (erten 0x28 useB 1 cx f (branchIf cx f fun c => c.a f == c.b f) s)

/-- `BNE` (R69): branches if wa ≠ wb. -/
def execBne (cx : Cx) (f : Fields) (s : State) : Host.Outcome State Fault Refusal :=
  .next (erten 0x29 useB 1 cx f (branchIf cx f fun c => c.a f != c.b f) s)

/-- `BLT` (R69): branches if wa < wb signed. -/
def execBlt (cx : Cx) (f : Fields) (s : State) : Host.Outcome State Fault Refusal :=
  .next (erten 0x2A useB 1 cx f (branchIf cx f fun c => (c.a f).slt (c.b f)) s)

/-- `BGE` (R69): branches if wa ≥ wb signed. -/
def execBge (cx : Cx) (f : Fields) (s : State) : Host.Outcome State Fault Refusal :=
  .next (erten 0x2B useB 1 cx f (branchIf cx f fun c => !(c.a f).slt (c.b f)) s)

/-- `BLTU` (R69): branches if wa < wb unsigned. -/
def execBltu (cx : Cx) (f : Fields) (s : State) : Host.Outcome State Fault Refusal :=
  .next (erten 0x2C useB 1 cx f (branchIf cx f fun c => (c.a f).ult (c.b f)) s)

/-- `BGEU` (R69): branches if wa ≥ wb unsigned. -/
def execBgeu (cx : Cx) (f : Fields) (s : State) : Host.Outcome State Fault Refusal :=
  .next (erten 0x2D useB 1 cx f (branchIf cx f fun c => !(c.a f).ult (c.b f)) s)

/-- `BAFT` (R69): branches if sdiff(wa, wb) > 0. -/
def execBaft (cx : Cx) (f : Fields) (s : State) : Host.Outcome State Fault Refusal :=
  .next (erten 0x2E useB 1 cx f (branchIf cx f fun c => decide (0 < sdiff (c.a f) (c.b f))) s)

/-- `BNAFT` (R69): branches if sdiff(wa, wb) ≤ 0. -/
def execBnaft (cx : Cx) (f : Fields) (s : State) : Host.Outcome State Fault Refusal :=
  .next (erten 0x2F useB 1 cx f (branchIf cx f fun c => decide (sdiff (c.a f) (c.b f) ≤ 0)) s)

/-- `J` (R69): pc := target. -/
def execJ (cx : Cx) (f : Fields) (s : State) : Host.Outcome State Fault Refusal :=
  .next (erten 0x30 { mask := 0x3FFFF } 2 cx f (fun c s => goTo cx 0 (branchTarget c f) c s) s)

/-- `CALL` (R69): w31 := pc + 1; pc := target. -/
def execCall (cx : Cx) (f : Fields) (s : State) : Host.Outcome State Fault Refusal :=
  .next (erten 0x31 { mask := 0x3FFFF } 2 cx f (fun c s => goTo cx 0 (branchTarget c f) (c.setReg 31 (BitVec.ofNat 40 (c.pc + 1))) s) s)

/-- `JR` (R69): pc := wa. -/
def execJr (cx : Cx) (f : Fields) (s : State) : Host.Outcome State Fault Refusal :=
  .next (erten 0x32 { wa := true } 3 cx f (jumpReg cx 0x32 f false) s)

/-- `CALLR` (R69): w31 := pc + 1; pc := wa. -/
def execCallr (cx : Cx) (f : Fields) (s : State) : Host.Outcome State Fault Refusal :=
  .next (erten 0x33 { wa := true } 3 cx f (jumpReg cx 0x33 f true) s)

end Sys2Proof.Machine
end

