-- ==== Sys2Proof/Machine/HostRead.lean ====
section
/-! DEFINITION. Reads by the host: BAR0 (R95, R96), the counter window BAR2 (R110–R112, R456, R462) and the prompt book window BAR4 (R113). The
opcode table has no row for a read; a read is an operand form of `REGISTER_WRITE` (log 23). -/

namespace Sys2Proof.Machine

/-- A BAR0 field as a read of function f finds it (R96). -/
def State.barField (s : State) (f : Nat) (x : Field) (ix : List Nat) : Nat :=
  if x.acc = .wo then 0
  else if x = Reg.Bar.STAGE_NOW then s.now
  else if x = Reg.Bar.CQ_STALL then bit (s.taking f == .stalled)
  else if x = Reg.Bar.IS_VF then (if f = 0 then 0 else 1)
  else if x = Reg.Bar.VFNUM then f
  else if x = Reg.Bar.TENANT then (s.bound f).getD 0x3F
  else if x = Reg.Bar.TENANT_EN then (match s.bound f with | some t => s.rd Reg.Aut.EN [t] | none => 0)
  else s.rd x ix

/-- The map's address of an offset of function f: the ring blocks lie per function, everything else is the PF's. -/
def barAddr (f off : Nat) : Nat := if 0x1000 ≤ off ∧ off < 0x2000 then f * 65536 + off else off

/-- The fields at an offset of a function's BAR0; the PF's own offsets read as zero in a VF (R96). -/
def barSlots (f off : Nat) : List Slot' :=
  if f ≠ 0 ∧ (off < 0x1000 ∨ (0x2000 ≤ off ∧ off < 0x3000)) then []
  else Reg.Bar.all.filterMap (fun x => (x.at? (barAddr f off)).map (fun ix => (x, ix)))

/-- The 64 bits at an offset. -/
def State.barWord (s : State) (f off : Nat) : Nat := ((barSlots f off).map (fun x => s.barField f x.1 x.2 * 2 ^ x.1.lo)).sum

/-- A read of BAR0 (R95): 8 bytes, or the addressed half. -/
def State.barRead (s : State) (f off size : Nat) : Nat :=
  let v := s.barWord f (off / 8 * 8)
  if size = 4 then (if off % 8 < 4 then v % 2 ^ 32 else v / 2 ^ 32) else v

/-- What a BAR0 read changes: the read-to-clear fields of the word (R7). A read of one half clears such a field whole, although it lies in both halves: the
spec does not say (DESIGN CHOICE, log 112). -/
def State.barAfter (s : State) (f off : Nat) : State :=
  (barSlots f (off / 8 * 8)).foldl (fun s x => if x.1.acc = .rc then s.wr x.1 x.2 0 else s) s

/-- A counter as BAR2 returns it (R112, R456). -/
def State.bar2Counter (s : State) (n : Nat) : Nat :=
  s.rd Reg.Cnt.CNT [n] + s.rd Reg.Cnt.WRAP [n] * 2 ^ 40 + s.ext / 256 % 2 ^ 22 * 2 ^ 42

/-- A read of BAR2 (R110–R112, R462): all ones unless naturally aligned and 8 bytes; zero from an unmapped page. -/
def State.bar2Read (s : State) (f off size : Nat) : Nat :=
  if size ≠ 8 ∨ off % 8 ≠ 0 then 2 ^ (8 * size) - 1
  else
    let p := off / 65536
    let e := off % 65536 / 8
    if f = 0 then
      if 255 < p || !s.flag Reg.Bar.VALID [p] then 0 else s.bar2Counter (s.rd Reg.Bar.GROUP [p] * 8192 + e)
    else if 15 < p || !s.flag Reg.Bar.VF_VALID [f, p] then 0
    else
      let g := s.rd Reg.Bar.VF_GROUP [f, p]
      if g = 15 then (match s.bound f with | some t => if e < 128 then s.bar2Counter (122880 + 128 * t + e) else 0 | none => 0)
      else s.bar2Counter (g * 8192 + e)

/-- A read of BAR4 (R113), least significant byte first; a read beyond the region returns zeros. -/
def State.bar4Read (s : State) (off len : Nat) : Nat :=
  ((List.range len).map (fun i =>
    let o := s.rd Reg.Bar.PB_WIN [] * 2 ^ 32 + off + i
    if o < s.pbBytes && s.flag Reg.Mem.MEM_OPEN [] then s.pbByte o * 256 ^ i else 0)).sum

/-- A read of BAR0 by the host, with its answer. -/
def State.hostBar0 (s : State) (f off size : Nat) : State :=
  if 16 ≤ f ∨ (size ≠ 8 ∧ size ≠ 4) then s else (s.barAfter f off).emit (.hostRead 0 f off (s.barRead f off size))

/-- A read of BAR2 by the host. -/
def State.hostBar2 (s : State) (f off size : Nat) : State := if 16 ≤ f then s else s.emit (.hostRead 2 f off (s.bar2Read f off size))

/-- A read of BAR4 by the host: naturally aligned, 8 to 512 bytes. -/
def State.hostBar4 (s : State) (off len : Nat) : State :=
  if len ∉ [8, 16, 32, 64, 128, 256, 512] ∨ off % len ≠ 0 then s else s.emit (.hostRead 4 0 off (s.bar4Read off len))

end Sys2Proof.Machine
end

