-- ==== Sys2Proof/Machine/Fields.lean ====
section
/-! DEFINITION. The rows of the opcode table that are a write of one field or one word: each is a posted store of a context (R38) that leaves the word's
other fields as they are, judged and applied like any other (R7, R8, R28, R29). -/

namespace Sys2Proof.Machine

/-- A field at indexes its map has, given a value that fits it. -/
def Chg.ok (d : Chg) : Bool := d.f.at? (d.f.addr d.ix) == some d.ix && fieldExists d.f d.ix && decide (d.v < 2 ^ d.f.w)

/-- The word that writes the changes and leaves the other fields as they are. -/
def State.wordWith (s : State) (w : Who) (addr : Nat) (cs : List Chg) : Word :=
  BitVec.ofNat 40 (((slotsAt addr).map (fun x =>
    (match cs.find? (fun d => d.f == x.1) with
      | some d => d.v
      | none => match x.1.acc with | .rw => s.view w x.1 x.2 | _ => 0) * 2 ^ x.1.lo)).sum)

/-- A context's store of fields of one word; the address is that of the first. -/
def State.fieldStore (s : State) (cx : Cx) (cs : List Chg) : State :=
  match s.ctx? cx, cs with
  | some c, d :: _ =>
    let addr := d.f.addr d.ix
    let w := whoOf cx c
    if !(cs.all (fun d => d.ok && d.f.addr d.ix == addr)) then s
    else
      let live := cs.filter (fun d => s.takesPart w d.f d.ix d.v || d.f.act == .pairSel)
      match s.writeFields w addr 0 (s.wordWith w addr cs) live (s.memoryRefuses addr) with
      | ((0, _), t) => t
      | (x, t) =>
        let (i, t) := t.freeWord
        t.refuseStore cx x (BitVec.ofNat 40 addr) i
  | _, _ => s

/-! ### Ports (R122, R123, R131, R153) -/

/-- `LIGHT` (R131): asks for the port to be lit or darkened at the next boundary. -/
def execLight (cx : Cx) (p v : Nat) (s : State) : Out' := .next (s.fieldStore cx [⟨Reg.Pon.LIGHT, [p], v⟩])
/-- `PORT_MODE_CHANGE` (R122): `MODE`, `UP_RATE` and `ROLE` of a port. -/
def execPortModeChange (cx : Cx) (p mode up role : Nat) (s : State) : Out' :=
  .next (s.fieldStore cx [⟨Reg.Pon.MODE, [p], mode⟩, ⟨Reg.Pon.UP_RATE, [p], up⟩, ⟨Reg.Pon.ROLE, [p], role⟩])
/-- `BOND` (R123). -/
def execBond (cx : Cx) (p v : Nat) (s : State) : Out' := .next (s.fieldStore cx [⟨Reg.Pon.BOND, [p], v⟩])
/-- `I2C_GO` (R153): starts the transaction that the master's word holds. -/
def execI2cGo (cx : Cx) (m : Nat) (s : State) : Out' := .next (s.fieldStore cx [⟨Reg.Pon.I2C_GO, [m], 1⟩])

/-! ### Terminals (R157, R172, R175, R177, R178) -/

/-- `ADMIN` (R178). -/
def execAdmin (cx : Cx) (z t v : Nat) (s : State) : Out' := .next (s.fieldStore cx [⟨Reg.Rng.ADMIN, [z, t], v⟩])
/-- `DISABLE` (R157). -/
def execDisable (cx : Cx) (z t v : Nat) (s : State) : Out' := .next (s.fieldStore cx [⟨Reg.Rng.DISABLE, [z, t], v⟩])
/-- `ROGUE_HELD_CLEAR` (R175): writes 1 to `ROGUE_HELD`. -/
def execRogueHeldClear (cx : Cx) (z t : Nat) (s : State) : Out' := .next (s.fieldStore cx [⟨Reg.Rng.ROGUE_HELD, [z, t], 1⟩])
/-- `STATE_WRITE` (R177). -/
def execStateWrite (cx : Cx) (z t v : Nat) (s : State) : Out' := .next (s.fieldStore cx [⟨Reg.Rng.STATE, [z, t], v⟩])
/-- `PWR_CMD` (R172). -/
def execPwrCmd (cx : Cx) (z t v : Nat) (s : State) : Out' := .next (s.fieldStore cx [⟨Reg.Rng.PWR_CMD, [z, t], v⟩])
/-- `RSSI_REQ` (R172). -/
def execRssiReq (cx : Cx) (z t : Nat) (s : State) : Out' := .next (s.fieldStore cx [⟨Reg.Rng.RSSI_REQ, [z, t], 1⟩])
/-- `REREG` (R157). -/
def execRereg (cx : Cx) (z t : Nat) (s : State) : Out' := .next (s.fieldStore cx [⟨Reg.Rng.REREG, [z, t], 1⟩])

/-! ### The pair (R232, R261, R268) -/

/-- `PAIR_SEL` (R232). -/
def execPairSel (cx : Cx) (m : Nat) (s : State) : Out' := .next (s.fieldStore cx [⟨Reg.Twn.PAIR_SEL, [], m⟩])
/-- `TKO_FAIL` (R261): writes 1. -/
def execTkoFail (cx : Cx) (z : Nat) (s : State) : Out' := .next (s.fieldStore cx [⟨Reg.Twn.TKO_FAIL, [z], 1⟩])
/-- `HOLDER` (R268). -/
def execHolder (cx : Cx) (z v : Nat) (s : State) : Out' := .next (s.fieldStore cx [⟨Reg.Twn.HOLDER, [z], v⟩])

/-! ### Buffers, keys and the context cipher (R347, R355, R378, R385) -/

/-- `OWNER` (R355): the owner word that a buffer reference names; an address that is no reference is no command of this row. -/
def execOwner (cx : Cx) (ref v : Nat) (s : State) : Out' :=
  .next (match Reg.Buf.OWNER.at? ref with
  | some ix => s.fieldStore cx [⟨Reg.Buf.OWNER, ix, v⟩]
  | none => s)
/-- `BUF_OPEN` (R347): writes 1. -/
def execBufOpen (cx : Cx) (s : State) : Out' := .next (s.fieldStore cx [⟨Reg.Buf.BUF_OPEN, [], 1⟩])
/-- `REKEY` (R378): writes 1. -/
def execRekey (cx : Cx) (z t : Nat) (s : State) : Out' := .next (s.fieldStore cx [⟨Reg.Key.REKEY, [z, t], 1⟩])
/-- `CGO` (R385): writes 1. -/
def execCgo (cx : Cx) (s : State) : Out' := .next (s.fieldStore cx [⟨Reg.Key.CGO, [], 1⟩])

/-! ### Time (R404, R406, R408, R411, R412, R413) -/

/-- `OFS_IN` (R404). -/
def execOfsIn (cx : Cx) (d v : Nat) (s : State) : Out' := .next (s.fieldStore cx [⟨Reg.Tim.OFS_IN, [d], v⟩])
/-- `STEP_APPLY` (R406): writes 1. -/
def execStepApply (cx : Cx) (d : Nat) (s : State) : Out' := .next (s.fieldStore cx [⟨Reg.Tim.STEP_APPLY, [d], 1⟩])
/-- `STEP_DROP` (R406): writes 1. -/
def execStepDrop (cx : Cx) (d : Nat) (s : State) : Out' := .next (s.fieldStore cx [⟨Reg.Tim.STEP_DROP, [d], 1⟩])
/-- `SWITCH` (R408): writes the number of a domain. -/
def execSwitch (cx : Cx) (d : Nat) (s : State) : Out' := .next (s.fieldStore cx [⟨Reg.Tim.SWITCH, [], d⟩])
/-- `TS_POP` (R411): queue `r` of timestamping port `q`. -/
def execTsPop (cx : Cx) (q r v : Nat) (s : State) : Out' := .next (s.fieldStore cx [⟨Reg.Tim.TS_POP, [q, r], v⟩])
/-- `SNAP` (R412): writes 1. -/
def execSnap (cx : Cx) (s : State) : Out' := .next (s.fieldStore cx [⟨Reg.Tim.SNAP, [], 1⟩])
/-- `TOD_SF_LO` (R413). -/
def execTodSfLo (cx : Cx) (z v : Nat) (s : State) : Out' := .next (s.fieldStore cx [⟨Reg.Tim.TOD_SF_LO, [z], v⟩])

/-! ### Lanes (R420, R422, R432, R434) -/

/-- `UL_MODE` (R420). -/
def execUlMode (cx : Cx) (u m : Nat) (s : State) : Out' := .next (s.fieldStore cx [⟨Reg.Lan.UL_MODE, [u], m⟩])
/-- `UL_EN` (R422). -/
def execUlEn (cx : Cx) (u v : Nat) (s : State) : Out' := .next (s.fieldStore cx [⟨Reg.Lan.UL_EN, [u], v⟩])
/-- `PRBS_START` (R432): the generator, or the checker, of a lane. -/
def execPrbsStart (cx : Cx) (l : Nat) (checker : Bool) (v : Nat) (s : State) : Out' :=
  .next (s.fieldStore cx [⟨if checker then Reg.Lan.PRBS_CHK else Reg.Lan.PRBS_GEN, [l], v⟩])
/-- `PWR_TX_RX` (R434). -/
def execPwrTxRx (cx : Cx) (l tx rx : Nat) (s : State) : Out' := .next (s.fieldStore cx [⟨Reg.Lan.PWR_TX, [l], tx⟩, ⟨Reg.Lan.PWR_RX, [l], rx⟩])

/-! ### Memory, traces, rehearsal, life cycle, supplies (R436, R470, R474, R475, R486, R488, R507, R511) -/

/-- `MEM_OPEN` (R436): writes 1. -/
def execMemOpen (cx : Cx) (s : State) : Out' := .next (s.fieldStore cx [⟨Reg.Mem.MEM_OPEN, [], 1⟩])
/-- `TR_FREEZE` (R470): writes 1. -/
def execTrFreeze (cx : Cx) (core : Nat) (s : State) : Out' := .next (s.fieldStore cx [⟨Reg.Cnt.TR_FREEZE, [core], 1⟩])
/-- `TR_CLEAR` (R470): writes 1. -/
def execTrClear (cx : Cx) (core : Nat) (s : State) : Out' := .next (s.fieldStore cx [⟨Reg.Cnt.TR_CLEAR, [core], 1⟩])
/-- `DARK_GO` (R486): writes 1. -/
def execDarkGo (cx : Cx) (z : Nat) (s : State) : Out' := .next (s.fieldStore cx [⟨Reg.Reh.DARK_GO, [z], 1⟩])
/-- `LC_REQ` (R474): writes 1. -/
def execLcReq (cx : Cx) (s : State) : Out' := .next (s.fieldStore cx [⟨Reg.Reh.LC_REQ, [], 1⟩])
/-- `LC_GO` (R475): writes 1. -/
def execLcGo (cx : Cx) (s : State) : Out' := .next (s.fieldStore cx [⟨Reg.Reh.LC_GO, [], 1⟩])
/-- `MFG_TEST` (R488): writes 1. -/
def execMfgTest (cx : Cx) (s : State) : Out' := .next (s.fieldStore cx [⟨Reg.Reh.MFG_TEST, [], 1⟩])
/-- `WDOG_KICK` (R507). -/
def execWdogKick (cx : Cx) (v : Nat) (s : State) : Out' := .next (s.fieldStore cx [⟨Reg.Pwr.WDOG_KICK, [], v⟩])
/-- `ROLLBACK_BURN` (R511): writes 1. -/
def execRollbackBurn (cx : Cx) (s : State) : Out' := .next (s.fieldStore cx [⟨Reg.Pwr.ROLLBACK_BURN, [], 1⟩])

/-! ### Scripts, tenants, and every other register (R8, R30, R100) -/

/-- `SELF_END` (R100): a script ends with a completion code. -/
def execSelfEnd (cx : Cx) (v : Nat) (s : State) : Out' := .next (s.fieldStore cx [⟨Reg.Hst.SELF_END, [], v⟩])
/-- `TENANT_DISABLE` (R30): tenant 0 clears a tenant's `EN`. -/
def execTenantDisable (cx : Cx) (t : Nat) (s : State) : Out' := .next (s.fieldStore cx [⟨Reg.Aut.EN, [t], 0⟩])

/-- `REGISTER_WRITE` (R8): a posted store of any object word, a write of a BAR0 register (R95), of an MSI-X mask bit (R108), or of SR-IOV VF Enable;
the host reads BAR0, BAR2 and BAR4 by it too (log 23). Clearing VF Enable changes `VFS_EN` and nothing else: the virtual functions' ring blocks keep their
values and go on being served, and their BARs answer whatever `VFS_EN` holds (DESIGN CHOICE, log 113). -/
def execRegisterWrite (target : RegTarget) (s : State) : Out' :=
  .next (match target with
  | .object cx addr value =>
    match s.ctx? cx with
    | none => s
    | some c =>
      let (i, s) := s.freeWord
      s.post cx c addr value i
  | .bar0 f off size v => s.hostWrite f off size v
  | .msixMask f v m => s.msixMask f v m
  | .vfEnable on => if s.flag Reg.Hst.LINK_UP [] then s.wr Reg.Hst.VFS_EN [] (bit on) else s
  | .bar0Read f off size => s.settleStalls.hostBar0 f off size
  | .bar2Read f off size => s.hostBar2 f off size
  | .bar4Read off len => s.hostBar4 off len)

end Sys2Proof.Machine
end

