-- ==== Sys2Proof/Machine/Pair.lean ====
section
/-! DEFINITION. What arrives from the twin of a pair (R40, R214, R265–R267, R429): mirrored writes, remote accesses, the copying of a forming pair, and the
resending of what the twin has not acknowledged. -/

namespace Sys2Proof.Machine

/-- The maker of a mirrored write: the unit that accepted it has judged it already (R265, R266). -/
def mirrorWho : Who := { cx := ⟨0, 0⟩, kind := .system, tenant := 0, remote := true }

/-- A change that software made to a mirrored word, on the twin's copy: stored as its access code says, with the effects that every unit has of its own. -/
def State.mirroredChange (s : State) (c : Chg) : State :=
  let s := s.rawStore c
  match c.f.act with
  | .tenEn | .tenVf | .flow => s.runAct s mirrorWho s c
  | _ => s

/-- A mirrored object word as software wrote it. -/
def State.mirroredWord (s : State) (addr : Nat) (v : Word) : State := (s.changes mirrorWho (slotsAt addr) v.toNat).foldl State.mirroredChange s

/-- A mirrored object word as the twin's copy holds it: every stored field, the hardware's own among them, but for the drift averages, which are each unit's own (R233). -/
def State.copiedWord (s : State) (addr : Nat) (v : Word) : State :=
  (slotsAt addr).foldl (fun s x => if x.1.view == .stored && x.1 != Reg.Rng.DRIFT_AVG && x.1 != Reg.Rng.DRIFT_CLAMPS then s.wr x.1 x.2 (v.toNat / 2 ^ x.1.lo % 2 ^ x.1.w) else s) s

/-- Whether a mirrored write may name an object: a shared one, or a per-tree one of a tree whose understudy this unit is (R233, R265). -/
def State.mirrors (s : State) (addr : Nat) : Bool :=
  sharedObj addr || (s.pairing == 2 && match mirroredTree addr with | some z => s.understudy z | none => false)

/-- The standing entries of a tree with one added or removed, as the lighting unit's list has it (R80, R214). -/
def standingCopy (l : List Standing) (t : Standing) (remove : Bool) : List Standing :=
  let known : Standing → Bool := fun o => o.alloc == t.alloc && o.start == t.start && o.gone.isNone
  if remove then l.map (fun o => if known o then { o with gone := some t.frame } else o) else if l.any known then l else l ++ [t]

/-- A key write that the twin accepted, on this unit's copy (R391); its ticket stands on the twin alone. -/
def State.mirroredKey (s : State) (n : Nat) (ctl : Word) (key : List Word) : State :=
  let v := ctl.toNat
  let k256 : Bool := (v / 2 ^ 19 % 2) == 1
  let b : Bank :=
  { mode := v / 2 ^ 28 % 16, k256 := k256, keyIdx := v / 2 ^ 20 % 256, succ := v % 2 ^ 18, succV := (v / 2 ^ 18 % 2) == 1, key := 0 }
  s.keyWrite 4096 0 n b (wrappedBytes (0 :: 0 :: ctl :: key) (if k256 then 40 else 24)) false

/-- A set as a list of change records builds it from another (R295): the twin has checked them. -/
def State.buildSet (s : State) (v : VSet) (recs : List (List Word)) : State :=
  ((recs.zipIdx).foldl (stageOne 0) { st := { s with sieve := { s.sieve with staged := v } }, subs := [], unfit := none, nodes := [] }).st

/-- The rules in force, the previous ones and those staged since become the twin's (R233, R267). -/
def State.mirroredRules (s : State) (vCur vPrev : Nat) (cur prev staged : List (List Word)) : State :=
  let empty := State.reset.sieve.cur
  let s : State := { s with sieve := { s.sieve with cur := empty, prev := empty, staged := empty } }
  let s := s.buildSet empty cur
  let s : State := { s with sieve := { s.sieve with cur := s.sieve.staged } }
  let s := s.buildSet empty prev
  let s : State := { s with sieve := { s.sieve with prev := s.sieve.staged } }
  let s := s.buildSet s.sieve.cur staged
  (((s.wr Reg.Sve.V_CUR [] vCur).wr Reg.Sve.V_PREV [] vPrev).wr Reg.Sve.STAGED [] staged.length).pruneBad

/-- An entry of the table as unit 0 has it: the same number, generation and place here (R319). -/
def State.entryCopied (s : State) (c : EntCopy) : State :=
  let s := s.wr Reg.Hid.FWD_GEN [c.no] c.gen
  if c.gone then s.dropEnt c.no
  else
    let e : FEnt :=
    { svc := c.key0 % 2 ^ 18, mac := fwdMac c.key0 c.key1, dest := c.data % 2 ^ 23, tenant := c.data / 2 ^ 23 % 64, static := c.data.testBit 29, bound := c.data.testBit 30,
      hit := c.data.testBit 31, age := c.data / 2 ^ 32 % 16, gen := c.gen, bucket := c.bucket, way := c.way, parity := false, struck := false }
    { s with fwd := { s.fwd with table := s.fwd.table.put c.no e } }

/-- One mirrored operation takes effect on this unit's copy (R265, R266, R306, R391). A curtain that this unit asked unit 0 for keeps its ticket here. -/
def State.mirrored (s : State) (m : MirrorOp) : State :=
  match m with
  | .word a v => if s.mirrors a then s.mirroredWord a v else s
  | .copy a v => if s.mirrors a then s.copiedWord a v else s
  | .entries l => l.foldl State.entryCopied s
  | .learn k0 k1 d t b moved =>
    let n := s.rd Reg.Fwd.MOVES []
    let s := s.publish { svc := k0 % 2 ^ 18, mac := fwdMac k0 k1, dest := d, tenant := t, bound := b }
    -- unit 1 has counted a move of its own
    if moved then s.wr Reg.Fwd.MOVES [] n else s
  | .raked ep es =>
    es.foldl (fun s x => match s.entOf (x.1 % 2 ^ 18) (fwdMac x.1 x.2.1) with
      | some (h, _) => if x.2.2 < 16 then s.modEnt h (fun e => { e with hit := false, age := x.2.2 }) else s.dropEnt h
      | none => s) (s.wr Reg.Fwd.EPOCH [] ep)
  | .stage t recs =>
    if s.sieve.curtain.isSome then
      { s with sieve := { s.sieve with held := s.sieve.held ++ [{ entry := 4096, gen := 0, cx := ⟨0, 0⟩, remote := true, tenant := t, recs := recs }] } }
    else (s.stage t recs).2.2
  | .rules a b c p t => s.mirroredRules a b c p t
  | .curtain due =>
    if s.sieve.curtain.isSome then s
    else
      match s.unacked.findSome? (fun m => match m.done with | .curtain e g => some (m.seq, e, g) | _ => none) with
      | some (q, e, g) => ({ s with unacked := s.unacked.filter (fun x => x.seq != q) } : State).curtain e g due
      | none => s.curtain 4096 0 due
  | .keyWrite n ctl key => if n < 147456 then s.mirroredKey n ctl key else s
  | .keyErase n => if n < 147456 then s.keyErase 4096 0 n else s
  | .keyLoad u z t i k l => s.keyLoaded u z t i k l
  | .standing z alloc start size period grid long remove =>
    if z < 64 ∧ s.understudy z then
      let t : Standing :=
      { alloc := alloc % 4096, start := start, size := size, period := max 1 period, frame := s.ownFrame z grid, gone := none, long := long }
      s.modTree z (fun tr => { tr with standing := standingCopy tr.standing t remove })
    else s

/-- Whether a mirrored operation concerns an object that the pair shares, and not one of a tree (R233). -/
def sharedOp (m : MirrorOp) : Bool :=
  match m with
  | .word a _ | .copy a _ => sharedObj a
  | .standing .. => false
  | _ => true

/-- A mirrored operation as a message carries it. -/
def mirrorPayload (m : MirrorOp) : List Nat :=
  match m with
  | .word a v => [a, v.toNat]
  | .copy a v => [0xC0, a, v.toNat]
  | .entries l => 0x01 :: (l.map EntCopy.words).flatten
  | .learn a b d t w m => [0x03, a, b, d, t, bit w, bit m]
  | .raked e l => 0x04 :: e :: (l.map (fun x => [x.1, x.2.1, x.2.2])).flatten
  | .stage t l => 0x50 :: t :: l.flatten.map BitVec.toNat
  | .rules a b c p t => 0x52 :: a :: b :: (c ++ p ++ t).flatten.map BitVec.toNat
  | .curtain t => [0x51, t]
  | .keyWrite n c k => 0x10 :: n :: (c :: k).map BitVec.toNat
  | .keyErase n => [0x11, n]
  | .keyLoad u z t i k l => 0x12 :: u :: z :: t :: i :: k :: l
  | .standing z a b c p g l r => [0x5B, z, a, b, c, p, g, bit l, bit r]

/-- `MIRRORED_WRITE` (R265, R266): a write mirrored by the twin arrives and is applied to this unit's copy. It is acknowledged once both copies hold it: at once on the
unit that holds the second copy, and for a shared object that unit 1 writes when unit 1 has acknowledged what unit 0 sends back. -/
def execMirroredWrite (seq : Nat) (m : MirrorOp) (s : State) : Out' :=
  .next (if s.pairing = 0 ∨ !s.flag Reg.Twn.LANES_UP [] then s
  else if s.env.unit = 0 ∧ m matches .learn .. then
    let t := s.shareTable (s.mirrored m)
    if t.sentSince s then t.lastFor (.send [0xAC, seq]) else t.emit (.twin 5 [0xAC, seq])
  else if s.env.unit = 0 ∧ sharedOp m then (s.mirrored m).sendTwin 4 ⟨127, 0⟩ 0 0 (mirrorPayload m) (.send [0xAC, seq])
  else (s.mirrored m).emit (.twin 5 [0xAC, seq]))

/-! ### Accesses from the twin (R31, R40) -/

/-- A context that stands for the twin's in an operation made here for it: it has no local memory on this unit. -/
def absentCtx (k : CtxKind) (tenant : Nat) : Ctx :=
  { kind := k, tenant := tenant, regs := [], pc := 0, icount := 0, dwords := 0, cycles := 0, limit := 0, block := .none, order := false,
    refused := [], ended := none, kill := none, job := none, res0 := 0, res1 := 0, segs := [] }

/-- The reply to a remote access, once this unit's other copy holds what it changed (R266). -/
def remoteReplyBoth (b : State) (x : Sub) (d : Word) (s : State) : State :=
  if s.sentSince b then s.lastFor (.send [x.1, x.2, d.toNat]) else s.emit (.twin 5 [x.1, x.2, d.toNat])

/-- The reply to a remote access: code, subcause and data. -/
def remoteReply (x : Sub) (d : Word) (s : State) : State := s.emit (.twin 5 [x.1, x.2, d.toNat])

/-- The change records that follow a `STAGE` from the twin, split by the lengths they name (R295). -/
def splitRecs (ws : List Word) : Nat → Option (List (List Word))
  | 0 => if ws.isEmpty then some [] else none
  | n + 1 =>
    match ws with
    | [] => none
    | w :: _ =>
      let len := max 1 (bitsOf w 4 6)
      if ws.length < len then none else (splitRecs (ws.drop len) n).map (ws.take len :: ·)

/-- An asynchronous operation that the twin's context starts on an object of this unit, which it names with bit 39 set (R18); its completion goes back under the number it
came with. A read of the forwarding table answers the entry's words as well. -/
def State.remoteIssue (s : State) (cx : Cx) (kind : CtxKind) (tenant : Nat) (number : Nat) (ws : List Word) : State :=
  let ws := if dbits ws 0 0 8 ∈ objectOps then ws.set 1 (BitVec.ofNat 40 (dword ws 1 % 2 ^ 39)) else ws
  let o : Op := { cx := cx, c := absentCtx kind tenant, w := { cx := cx, kind := kind, tenant := tenant, remote := true }, e := 4097 + number, g := 0, ws := ws, tw := none }
  let ty := dbits ws 0 0 8
  if !layoutOk ty (if ty = 0x50 then ws.take 3 else if ty = 0x20 then ws.take 4 else ws) then o.done 0x7E 1 s
  else if o.c.tree?.isSome then o.denied 1 (dword ws 1) s
  else
    match ty with
    | 0x01 => o.tableInsert s
    | 0x02 => o.tableDelete s
    | 0x03 =>
      match o.table s with
      | some x => o.refuse x (dword ws 1) s
      | none =>
        let s := s.checkHandle (dword ws 2)
        match s.tableRead tenant (dword ws 2) with
        | (0x7F, sub, _) => o.denied sub (dword ws 1) s
        | (code, r, vs) => o.done code r (s.emit (.twin 5 (number :: vs.map BitVec.toNat)))
    | 0x10 => o.keyWrite s
    | 0x11 => o.keyErase s
    | 0x20 => o.copyServed number s
    | 0x30 => o.bufFree s
    | 0x31 => o.bufRelease s
    | 0x50 => if dword ws 2 = 0 then o.denied 6 (Reg.Sve.STAGED.addr []) s else (match splitRecs (ws.drop 3) (dword ws 2) with
      | some recs => s.stageNow { entry := o.e, gen := 0, cx := cx, remote := true, tenant := tenant, recs := recs }
      | none => o.done 0x7E 2 s)
    | 0x51 => o.curtain s
    | 0x60 => o.counterFlush s
    | _ => o.done 0x7E 1 s

/-- `REMOTE_ACCESS` (R40): an access with bit 39 set arrives from the twin with the issuing context's type and tenant, is judged here against this unit's
objects (R31), and its outcome goes back; while `PAIR_OK` is 0 it faults (R235). -/
def execRemoteAccess (cx : Cx) (kind : CtxKind) (tenant : Nat) (op : RemoteOp) (s : State) : Out' :=
  let w : Who := { cx := cx, kind := kind, tenant := tenant, remote := true }
  .next (if s.pairing = 0 ∨ !s.flag Reg.Twn.LANES_UP [] then s
  else if !s.pairOk then remoteReply (0x7E, 4) 0 s
  else
    match op with
    | .load a =>
      match s.access w (a % 2 ^ 39) 0 .load 0 0 with
      | (x, d, t) => remoteReply x d t
    | .store a v =>
      match s.storeWord w (a % 2 ^ 39) 0 v with
      | (x, t) => remoteReplyBoth s x 0 t
    | .atomic k a b c =>
      match s.access w (a % 2 ^ 39) 0 k b c with
      | (x, d, t) => remoteReplyBoth s x d t
    | .issue n ws => s.remoteIssue cx kind tenant n ws)

/-! ### Forming (R262, R267) -/

/-- The trees each unit lights, counted. -/
def State.litCount (s : State) (twin : Bool) : Nat := ((List.range 64).filter (fun z => if twin then s.twinLit z else s.flag Reg.Pon.LIT [z])).length

/-- Whether the twin's copy of a differing shared object is the one kept: that of the unit lighting more trees, on a tie unit 0's. -/
def State.twinWins (s : State) : Bool :=
  let mine := s.litCount false
  let its := s.litCount true
  decide (mine < its) || (mine == its && s.env.unit == 1)

/-- Whether a word of the twin's copy replaces this unit's: a shared one where the twin's copy is kept, a per-tree one of a tree the twin lights. -/
def State.replaces (s : State) (addr : Nat) : Bool :=
  if sharedObj addr then s.twinWins
  else s.pairing == 2 && (match mirroredTree addr with | some z => s.twinLit z | none => false)

/-- An operation that carries the twin's copy of a shared structure over takes its place by the same rule. -/
def State.replacesOp (s : State) (m : MirrorOp) : Bool :=
  match m with
  | .word a _ => s.replaces a
  | .copy a _ => s.replaces a
  | .standing z .. => s.pairing == 2 && s.twinLit z
  | _ => s.twinWins

/-- What a copied object does on this unit while the pair is still apart. -/
def State.resynced (s : State) (m : MirrorOp) : State :=
  match m with
  | .word a v => s.mirroredWord a v
  | .copy a v => s.copiedWord a v
  | m => s.mirrored m

/-- `MIRROR_RESYNC` (R267, R262): the pair forms, or its lanes have returned: what differs in the twin's copies is taken over where the twin's copy is the one
kept, the replaced objects are counted and reported, and the pair is formed. A wait starts for every tree the twin lights. -/
def execMirrorResync (ms : List MirrorOp) (s : State) : Out' :=
  .next (if !s.pairLive || s.flag Reg.Hid.FORMED [0] then s
  else
    let taken := ms.filter s.replacesOp
    let s := s.wr Reg.Hid.FORMED [0] 1
    let s := (taken.foldl State.resynced s).raise 0xAA (Reg.Twn.PAIRING.addr []) [taken.length]
    if s.pairing = 2 then upTo (fun z s => if s.twinLit z then s.startWtr z else s) 64 s else s.tellFlows)

/-! ### Messages and resending (R429) -/

/-- A packet of cross traffic arrives (R318): it takes a buffer here, tagged with its ingress tenant (R352), and is queued without a second decision. A multicast
flow of this unit takes replicas only (R308, log 117). -/
def State.crossIn (s : State) (d t : Nat) (yellow replica : Bool) (b : List Nat) : State :=
  if s.multicastOnly d && !replica then s
  else
  match s.allocBuf (frameLen b) false (ownerHw 0x0A 0) t with
  | (none, s) => s
  | (some k, s) =>
    let q : QFrame := { buf := k, bytes := b, tree := dTree d, flow := dFlow d, yellow := yellow, share := false }
    match dKind d with
    | 0 => s.enqueue (dTree d) (dFlow d) q
    | 1 => s.enqueueUp (d % 32) q
    | _ => s.leave q

/-- `TWIN_MESSAGE_RX` (R424, R429): the blocks of a message have arrived; one that fails its checks, or is cut, is discarded and counted, as is one that finds channel 4's queue full of
waiting messages (R272, R273). While the direction is down every message is cut (R428); lost cross traffic is counted (R429). -/
def execTwinMessageRx (rx : TwinRx) (m : TwinMsg) (s : State) : Out' :=
  if s.pairing = 0 then .next s
  else if !s.flag Reg.Lan.RX_UP [] || !messageOk rx.wire then
    let s := s.addTo Reg.Lan.MSG_ERR [] 1
    .next (if m matches .cross .. then s.addTo Reg.Twn.CROSS_DROP [] 1 else s)
  else if chanDepth 4 ≤ rx.waiting ∧ !m matches .cross .. then .next (s.addTo Reg.Sve.CTRL_DROP [4] 1)
  else
    match m with
    | .ack q => .next (s.ackTwin q)
    | .reply q r => .next (s.replied q r)
    | .curtain t => .next (s.curtainTwin t)
    | .keyDone n e => .next (s.twinKeyDone (n % 147456) e)
    | .nextPn n pn => .next (s.putSlot (n % 147456) { s.slot (n % 147456) with twinPn := pn })
    | .keyBound n on => .next (s.wr Reg.Hid.TWIN_BOUND [n % 147456] (bit on))
    | .flowTag z f t p => if z < 64 ∧ f < 16384 then .next ((s.wr Reg.Hid.TWIN_FT [z, f] t).wr Reg.Hid.TWIN_DP [z, f] p) else .next s
    | .cross d t y r b => .next (s.crossIn d t y r b)
    | .portCfg z mode rate => if z < 64 then .next (((s.wr Reg.Hid.TWIN_MODE [z] mode).wr Reg.Hid.TWIN_RATE [z] rate).wr Reg.Hid.TWIN_CFG_V [z] 1) else .next s

/-- `TWIN_RETRANSMIT` (R429): a message has gone 20 µs without acknowledgement: it is sent again, at most three times. -/
def execTwinRetransmit (seq : Nat) (s : State) : Out' :=
  .next (match s.unacked.find? (fun m => m.seq == seq) with
  | none => s
  | some m =>
    if m.acked then s
    else
    let s := s.advanceTo (m.sent + usTicks 20)
    if m.tries < 3 then
      ({ s.addTo Reg.Lan.RETRANS [] 1 with unacked := s.unacked.map (fun x => if x.seq == seq then { x with tries := x.tries + 1, sent := s.ext } else x) } : State).emit
        (.twin m.cls (seq :: m.payload))
    else ({ s with unacked := s.unacked.filter (fun x => x.seq != seq) } : State).lostMessage m)

end Sys2Proof.Machine
end

