-- ==== Sys2Proof/Machine/Dispatch.lean ====
section
/-! DEFINITION. The meaning of every command: one direct call each. -/

namespace Sys2Proof.Machine

/-- A command's effect on everything but the queue. -/
def exec (i : Instr) (s : State) : Host.Outcome State Fault Refusal :=
  match i with
  | .add cx f => Sys2Proof.Machine.execAdd cx f s
  | .sub cx f => Sys2Proof.Machine.execSub cx f s
  | .andR cx f => Sys2Proof.Machine.execAnd cx f s
  | .orR cx f => Sys2Proof.Machine.execOr cx f s
  | .xorR cx f => Sys2Proof.Machine.execXor cx f s
  | .shl cx f => Sys2Proof.Machine.execShl cx f s
  | .shr cx f => Sys2Proof.Machine.execShr cx f s
  | .sar cx f => Sys2Proof.Machine.execSar cx f s
  | .mul cx f => Sys2Proof.Machine.execMul cx f s
  | .mulhu cx f => Sys2Proof.Machine.execMulhu cx f s
  | .divu cx f => Sys2Proof.Machine.execDivu cx f s
  | .remu cx f => Sys2Proof.Machine.execRemu cx f s
  | .slt cx f => Sys2Proof.Machine.execSlt cx f s
  | .sltu cx f => Sys2Proof.Machine.execSltu cx f s
  | .saft cx f => Sys2Proof.Machine.execSaft cx f s
  | .minu cx f => Sys2Proof.Machine.execMinu cx f s
  | .maxu cx f => Sys2Proof.Machine.execMaxu cx f s
  | .clz cx f => Sys2Proof.Machine.execClz cx f s
  | .popc cx f => Sys2Proof.Machine.execPopc cx f s
  | .addi cx f => Sys2Proof.Machine.execAddi cx f s
  | .andi cx f => Sys2Proof.Machine.execAndi cx f s
  | .ori cx f => Sys2Proof.Machine.execOri cx f s
  | .xori cx f => Sys2Proof.Machine.execXori cx f s
  | .shli cx f => Sys2Proof.Machine.execShli cx f s
  | .shri cx f => Sys2Proof.Machine.execShri cx f s
  | .sari cx f => Sys2Proof.Machine.execSari cx f s
  | .slti cx f => Sys2Proof.Machine.execSlti cx f s
  | .li cx f => Sys2Proof.Machine.execLi cx f s
  | .lim cx f => Sys2Proof.Machine.execLim cx f s
  | .beq cx f => Sys2Proof.Machine.execBeq cx f s
  | .bne cx f => Sys2Proof.Machine.execBne cx f s
  | .blt cx f => Sys2Proof.Machine.execBlt cx f s
  | .bge cx f => Sys2Proof.Machine.execBge cx f s
  | .bltu cx f => Sys2Proof.Machine.execBltu cx f s
  | .bgeu cx f => Sys2Proof.Machine.execBgeu cx f s
  | .baft cx f => Sys2Proof.Machine.execBaft cx f s
  | .bnaft cx f => Sys2Proof.Machine.execBnaft cx f s
  | .j cx f => Sys2Proof.Machine.execJ cx f s
  | .call cx f => Sys2Proof.Machine.execCall cx f s
  | .jr cx f => Sys2Proof.Machine.execJr cx f s
  | .callr cx f => Sys2Proof.Machine.execCallr cx f s
  | .ld cx f => Sys2Proof.Machine.execLd cx f s
  | .st cx f => Sys2Proof.Machine.execSt cx f s
  | .old cx f => Sys2Proof.Machine.execOld cx f s
  | .ost cx f => Sys2Proof.Machine.execOst cx f s
  | .oadd cx f => Sys2Proof.Machine.execOadd cx f s
  | .oswap cx f => Sys2Proof.Machine.execOswap cx f s
  | .oset cx f => Sys2Proof.Machine.execOset cx f s
  | .oclr cx f => Sys2Proof.Machine.execOclr cx f s
  | .ocas cx f => Sys2Proof.Machine.execOcas cx f s
  | .objectAccessReturn cx tw => Sys2Proof.Machine.execObjectAccessReturn cx tw s
  | .refusedStoreException cx tw => Sys2Proof.Machine.execRefusedStoreException cx tw s
  | .wait cx f => Sys2Proof.Machine.execWait cx f s
  | .waitResume cx => Sys2Proof.Machine.execWaitResume cx s
  | .poll cx f => Sys2Proof.Machine.execPoll cx f s
  | .order cx f => Sys2Proof.Machine.execOrder cx f s
  | .orderRelease cx => Sys2Proof.Machine.execOrderRelease cx s
  | .fence cx f => Sys2Proof.Machine.execFence cx f s
  | .fenceRelease cx => Sys2Proof.Machine.execFenceRelease cx s
  | .now cx f => Sys2Proof.Machine.execNow cx f s
  | .waitUntil cx f => Sys2Proof.Machine.execWaitUntil cx f s
  | .waitUntilResume cx => Sys2Proof.Machine.execWaitUntilResume cx s
  | .grant cx f => Sys2Proof.Machine.execGrant cx f s
  | .quiet cx f => Sys2Proof.Machine.execQuiet cx f s
  | .seal cx f => Sys2Proof.Machine.execSeal cx f s
  | .standing cx f => Sys2Proof.Machine.execStanding cx f s
  | .reportGet cx f => Sys2Proof.Machine.execReportGet cx f s
  | .yield cx f => Sys2Proof.Machine.execYield cx f s
  | .trap cx f => Sys2Proof.Machine.execTrap cx f s
  | .tableInsert cx f tw => Sys2Proof.Machine.execTableInsert cx f tw s
  | .tableDelete cx f tw => Sys2Proof.Machine.execTableDelete cx f tw s
  | .tableRead cx f tw => Sys2Proof.Machine.execTableRead cx f tw s
  | .keyWrite cx f tw => Sys2Proof.Machine.execKeyWrite cx f tw s
  | .keyErase cx f tw => Sys2Proof.Machine.execKeyErase cx f tw s
  | .keyEraseDone n => Sys2Proof.Machine.execKeyEraseDone n s
  | .keySwap n => Sys2Proof.Machine.execKeySwap n s
  | .memCopy cx f tw => Sys2Proof.Machine.execMemCopy cx f tw s
  | .pbQuery cx f tw => Sys2Proof.Machine.execPbQuery cx f tw s
  | .bufFree cx f tw => Sys2Proof.Machine.execBufFree cx f tw s
  | .bufRelease cx f tw => Sys2Proof.Machine.execBufRelease cx f tw s
  | .cueAt cx f tw => Sys2Proof.Machine.execCueAt cx f tw s
  | .cueFire e tw => Sys2Proof.Machine.execCueFire e tw s
  | .stage cx f tw => Sys2Proof.Machine.execStage cx f tw s
  | .curtain cx f tw => Sys2Proof.Machine.execCurtain cx f tw s
  | .curtainDue => Sys2Proof.Machine.execCurtainDue s
  | .curtainSwitch => Sys2Proof.Machine.execCurtainSwitch s
  | .curtainTimeout => Sys2Proof.Machine.execCurtainTimeout s
  | .counterFlush cx f tw => Sys2Proof.Machine.execCounterFlush cx f tw s
  | .run f e p => Sys2Proof.Machine.execRun f e p s
  | .runResident f e p => Sys2Proof.Machine.execRunResident f e p s
  | .loadResident f e p => Sys2Proof.Machine.execLoadResident f e p s
  | .unloadResident f e p => Sys2Proof.Machine.execUnloadResident f e p s
  | .loadPrompter f e p => Sys2Proof.Machine.execLoadPrompter f e p s
  | .nop f e p => Sys2Proof.Machine.execNop f e p s
  | .sqTail f v es => Sys2Proof.Machine.execSqTail f v es s
  | .sqTake p => Sys2Proof.Machine.execSqTake p s
  | .cqHead f v => Sys2Proof.Machine.execCqHead f v s
  | .eqHead f v => Sys2Proof.Machine.execEqHead f v s
  | .sqEn f on => Sys2Proof.Machine.execSqEn f on s
  | .cqEn f on => Sys2Proof.Machine.execCqEn f on s
  | .eqEn f on => Sys2Proof.Machine.execEqEn f on s
  | .selfEnd cx v => Sys2Proof.Machine.execSelfEnd cx v s
  | .coalUsExpiry f events => Sys2Proof.Machine.execCoalUsExpiry f events s
  | .scriptRunLimit cx => Sys2Proof.Machine.execScriptRunLimit cx s
  | .tenantDisable cx t => Sys2Proof.Machine.execTenantDisable cx t s
  | .devReset key b => Sys2Proof.Machine.execDevReset key b s
  | .resetAfterNotice b => Sys2Proof.Machine.execResetAfterNotice b s
  | .bootGo d trained => Sys2Proof.Machine.execBootGo d trained s
  | .functionLevelReset v => Sys2Proof.Machine.execFunctionLevelReset v s
  | .pfReset down => Sys2Proof.Machine.execPfReset down s
  | .perstN => Sys2Proof.Machine.execPerstN s
  | .registerWrite target => Sys2Proof.Machine.execRegisterWrite target s
  | .frameBoundary z plain => Sys2Proof.Machine.execFrameBoundary z plain s
  | .sheetDeadline z => Sys2Proof.Machine.execSheetDeadline z s
  | .lockstepMismatch z => Sys2Proof.Machine.execLockstepMismatch z s
  | .burstReceive z obs => Sys2Proof.Machine.execBurstReceive z obs s
  | .burstWindowMissed z => Sys2Proof.Machine.execBurstWindowMissed z s
  | .discoveryWindow z cs => Sys2Proof.Machine.execDiscoveryWindow z cs s
  | .burstDecoded z d => Sys2Proof.Machine.execBurstDecoded z d s
  | .energyDetected z => Sys2Proof.Machine.execEnergyDetected z s
  | .light cx p v => Sys2Proof.Machine.execLight cx p v s
  | .portModeChange cx p mode up role => Sys2Proof.Machine.execPortModeChange cx p mode up role s
  | .bond cx p v => Sys2Proof.Machine.execBond cx p v s
  | .trainingDone p => Sys2Proof.Machine.execTrainingDone p s
  | .i2cGo cx m => Sys2Proof.Machine.execI2cGo cx m s
  | .i2cDone m e => Sys2Proof.Machine.execI2cDone m e s
  | .tailSyncPattern p o => Sys2Proof.Machine.execTailSyncPattern p o s
  | .tailMapEntry p a start size frame => Sys2Proof.Machine.execTailMapEntry p a start size frame s
  | .tailBurstSend p ploam => Sys2Proof.Machine.execTailBurstSend p ploam s
  | .tailTxGuard p => Sys2Proof.Machine.execTailTxGuard p s
  | .tailTo2Expiry p => Sys2Proof.Machine.execTailTo2Expiry p s
  | .ponpLos p level => Sys2Proof.Machine.execPonpLos p level s
  | .portDefectInterval p o => Sys2Proof.Machine.execPortDefectInterval p o s
  | .serialNumberOnu z => Sys2Proof.Machine.execSerialNumberOnu z s
  | .rangingResponse z cs gain thr phase seed => Sys2Proof.Machine.execRangingResponse z cs gain thr phase seed s
  | .rangingWindowEnd z => Sys2Proof.Machine.execRangingWindowEnd z s
  | .registration z t id => Sys2Proof.Machine.execRegistration z t id s
  | .acknowledge z t k => Sys2Proof.Machine.execAcknowledge z t k s
  | .rangingTimeAckTimeout z t => Sys2Proof.Machine.execRangingTimeAckTimeout z t s
  | .registerReq z => Sys2Proof.Machine.execRegisterReq z s
  | .registerAck z t => Sys2Proof.Machine.execRegisterAck z t s
  | .report z rs => Sys2Proof.Machine.execReport z rs s
  | .lostToExpiry z t => Sys2Proof.Machine.execLostToExpiry z t s
  | .admin cx z t v => Sys2Proof.Machine.execAdmin cx z t v s
  | .disable cx z t v => Sys2Proof.Machine.execDisable cx z t v s
  | .rogueHeldClear cx z t => Sys2Proof.Machine.execRogueHeldClear cx z t s
  | .stateWrite cx z t v => Sys2Proof.Machine.execStateWrite cx z t v s
  | .pwrCmd cx z t v => Sys2Proof.Machine.execPwrCmd cx z t v s
  | .rssiReq cx z t => Sys2Proof.Machine.execRssiReq cx z t s
  | .rereg cx z t => Sys2Proof.Machine.execRereg cx z t s
  | .rogueWatchEnd z => Sys2Proof.Machine.execRogueWatchEnd z s
  | .burstProfile p preamble => Sys2Proof.Machine.execBurstProfile p preamble s
  | .assignOnuId p id vendor number => Sys2Proof.Machine.execAssignOnuId p id vendor number s
  | .rangingTime p id eqd => Sys2Proof.Machine.execRangingTime p id eqd s
  | .deactivateOnuId p id => Sys2Proof.Machine.execDeactivateOnuId p id s
  | .disableSerialNumber p vendor number enable => Sys2Proof.Machine.execDisableSerialNumber p vendor number enable s
  | .keyControl p id index => Sys2Proof.Machine.execKeyControl p id index s
  | .changePowerLevel p id => Sys2Proof.Machine.execChangePowerLevel p id s
  | .pairSel cx m => Sys2Proof.Machine.execPairSel cx m s
  | .alignmentProbe p => Sys2Proof.Machine.execAlignmentProbe p s
  | .pairWaitExpiry => Sys2Proof.Machine.execPairWaitExpiry s
  | .cueLightFrameTx => Sys2Proof.Machine.execCueLightFrameTx s
  | .cueLightFrameRx r => Sys2Proof.Machine.execCueLightFrameRx r s
  | .twinClaimLost => Sys2Proof.Machine.execTwinClaimLost s
  | .sealedSheetRx z m => Sys2Proof.Machine.execSealedSheetRx z m s
  | .sheetMissing z => Sys2Proof.Machine.execSheetMissing z s
  | .verificationEnd z => Sys2Proof.Machine.execVerificationEnd z s
  | .tkoFail cx z => Sys2Proof.Machine.execTkoFail cx z s
  | .wtrExpiry z => Sys2Proof.Machine.execWtrExpiry z s
  | .mirroredWrite seq m => Sys2Proof.Machine.execMirroredWrite seq m s
  | .remoteAccess cx kind tenant op => Sys2Proof.Machine.execRemoteAccess cx kind tenant op s
  | .mirrorResync ms => Sys2Proof.Machine.execMirrorResync ms s
  | .holder cx z v => Sys2Proof.Machine.execHolder cx z v s
  | .sievePacket p => Sys2Proof.Machine.execSievePacket p s
  | .recircPass => Sys2Proof.Machine.execRecircPass s
  | .puntInject cx action bytes full => Sys2Proof.Machine.execPuntInject cx action bytes full s
  | .parityScrub bank row bad => Sys2Proof.Machine.execParityScrub bank row bad s
  | .spareBankSwitch bank phys => Sys2Proof.Machine.execSpareBankSwitch bank phys s
  | .learn => Sys2Proof.Machine.execLearn s
  | .rakeVisit bucket bad twin => Sys2Proof.Machine.execRakeVisit bucket bad twin s
  | .queueSend z => Sys2Proof.Machine.execQueueSend z s
  | .owner cx ref v => Sys2Proof.Machine.execOwner cx ref v s
  | .bufOpen cx => Sys2Proof.Machine.execBufOpen cx s
  | .cipherRequest u => Sys2Proof.Machine.execCipherRequest u s
  | .cipherRequestDone u n ok => Sys2Proof.Machine.execCipherRequestDone u n ok s
  | .rekey cx z t => Sys2Proof.Machine.execRekey cx z t s
  | .keyReport z t idx frags => Sys2Proof.Machine.execKeyReport z t idx frags s
  | .rekeyTimeout z t => Sys2Proof.Machine.execRekeyTimeout z t s
  | .cgo cx => Sys2Proof.Machine.execCgo cx s
  | .entropySample ok => Sys2Proof.Machine.execEntropySample ok s
  | .ofsIn cx d v => Sys2Proof.Machine.execOfsIn cx d v s
  | .stepApply cx d => Sys2Proof.Machine.execStepApply cx d s
  | .stepDrop cx d => Sys2Proof.Machine.execStepDrop cx d s
  | .switch cx d => Sys2Proof.Machine.execSwitch cx d s
  | .holdEntryExpiry d => Sys2Proof.Machine.execHoldEntryExpiry d s
  | .ptpTimestamp m => Sys2Proof.Machine.execPtpTimestamp m s
  | .tsPop cx q r v => Sys2Proof.Machine.execTsPop cx q r v s
  | .snap cx => Sys2Proof.Machine.execSnap cx s
  | .todSfLo cx z v => Sys2Proof.Machine.execTodSfLo cx z v s
  | .todLatched z => Sys2Proof.Machine.execTodLatched z s
  | .ppsIn => Sys2Proof.Machine.execPpsIn s
  | .ppsOutEdge => Sys2Proof.Machine.execPpsOutEdge s
  | .stageWrap => Sys2Proof.Machine.execStageWrap s
  | .ulMode cx u m => Sys2Proof.Machine.execUlMode cx u m s
  | .ulEn cx u v => Sys2Proof.Machine.execUlEn cx u v s
  | .autoNegotiationDone u resolved => Sys2Proof.Machine.execAutoNegotiationDone u resolved s
  | .ulLink u up remote => Sys2Proof.Machine.execUlLink u up remote s
  | .alignmentMarker ms => Sys2Proof.Machine.execAlignmentMarker ms s
  | .twinReform l block => Sys2Proof.Machine.execTwinReform l block s
  | .twRestoreExpiry l => Sys2Proof.Machine.execTwRestoreExpiry l s
  | .twinMessageRx rx m => Sys2Proof.Machine.execTwinMessageRx rx m s
  | .twinRetransmit seq => Sys2Proof.Machine.execTwinRetransmit seq s
  | .eqUpdate l ctle taps => Sys2Proof.Machine.execEqUpdate l ctle taps s
  | .prbsStart cx l checker v => Sys2Proof.Machine.execPrbsStart cx l checker v s
  | .pwrTxRx cx l tx rx => Sys2Proof.Machine.execPwrTxRx cx l tx rx s
  | .laneDefectEval l o => Sys2Proof.Machine.execLaneDefectEval l o s
  | .memOpen cx => Sys2Proof.Machine.execMemOpen cx s
  | .patrolScrub unit outcome => Sys2Proof.Machine.execPatrolScrub unit outcome s
  | .thresholdSample j => Sys2Proof.Machine.execThresholdSample j s
  | .eventWindowClose code key => Sys2Proof.Machine.execEventWindowClose code key s
  | .eventDeliver => Sys2Proof.Machine.execEventDeliver s
  | .trFreeze cx core => Sys2Proof.Machine.execTrFreeze cx core s
  | .trClear cx core => Sys2Proof.Machine.execTrClear cx core s
  | .sliceStart e t => Sys2Proof.Machine.execSliceStart e t s
  | .sliceEnd e os whole => Sys2Proof.Machine.execSliceEnd e os whole s
  | .sliceYield e => Sys2Proof.Machine.execSliceYield e s
  | .darkGo cx z => Sys2Proof.Machine.execDarkGo cx z s
  | .lcReq cx => Sys2Proof.Machine.execLcReq cx s
  | .lcGo cx => Sys2Proof.Machine.execLcGo cx s
  | .mfgTest cx => Sys2Proof.Machine.execMfgTest cx s
  | .extest b => Sys2Proof.Machine.execExtest b s
  | .trstN => Sys2Proof.Machine.execTrstN s
  | .powerUp powerOn b => Sys2Proof.Machine.execPowerUp powerOn b s
  | .bootReady => Sys2Proof.Machine.execBootReady s
  | .dipStart vin => Sys2Proof.Machine.execDipStart vin s
  | .supplyDip low vin us => Sys2Proof.Machine.execSupplyDip low vin us s
  | .dipHoldExpiry => Sys2Proof.Machine.execDipHoldExpiry s
  | .vinReset low => Sys2Proof.Machine.execVinReset low s
  | .supplyOvWarn vin => Sys2Proof.Machine.execSupplyOvWarn vin s
  | .overVoltageShutdown vin => Sys2Proof.Machine.execOverVoltageShutdown vin s
  | .railOutOfRegulation r mv => Sys2Proof.Machine.execRailOutOfRegulation r mv s
  | .railCritical r mv critical => Sys2Proof.Machine.execRailCritical r mv critical s
  | .thermalWarn temp sensor => Sys2Proof.Machine.execThermalWarn temp sensor s
  | .thermalShutdown temp => Sys2Proof.Machine.execThermalShutdown temp s
  | .avsUpdate o => Sys2Proof.Machine.execAvsUpdate o s
  | .rootPllUnlock => Sys2Proof.Machine.execRootPllUnlock s
  | .fractionalPllUnlock j => Sys2Proof.Machine.execFractionalPllUnlock j s
  | .resetN => Sys2Proof.Machine.execResetN s
  | .watchdogExpiry b => Sys2Proof.Machine.execWatchdogExpiry b s
  | .wdogKick cx v => Sys2Proof.Machine.execWdogKick cx v s
  | .rollbackBurn cx => Sys2Proof.Machine.execRollbackBurn cx s
  | .uplinkFrameSend u => Sys2Proof.Machine.execUplinkFrameSend u s
  | .pcieLinkUp gts width => Sys2Proof.Machine.execPcieLinkUp gts width s
  | .rootPllLock b => Sys2Proof.Machine.execRootPllLock b s
  | .fractionalPllLock j => Sys2Proof.Machine.execFractionalPllLock j s
  | .resetNRelease b => Sys2Proof.Machine.execResetNRelease b s
  | .thermalShutdownRelease temp b => Sys2Proof.Machine.execThermalShutdownRelease temp b s
  | .cueLink => Sys2Proof.Machine.execCueLink s
  | .coverageCycleLate => Sys2Proof.Machine.execCoverageCycleLate s
  | .issue cx f tw => Sys2Proof.Machine.execIssue cx f tw s

end Sys2Proof.Machine
end

