-- ==== Sys2Proof/Safety.lean ====
section
/-! DEFINITION. The words in which claims about the device are stated: a context that executes, what an instruction leaves behind, the canonical form of stores,
the order of the life cycle. -/

namespace Sys2Proof.Machine

/-! ### Contexts that execute -/

/-- A context that executes the instruction at its program counter: it lives, nothing blocks it, its core runs it, and its fetch is sound: the address lies in its
image, the word there reads without an uncorrectable error, and its opcode is defined (R24, R36, R50, R64). -/
abbrev State.Runs (s : State) (cx : Cx) (c : Ctx) : Prop :=
  s.ctx? cx = some c ∧ c.runs = true ∧ s.onCore cx = true ∧ s.fetchFault cx c = none

/-- A context that waits on something. -/
abbrev State.Held (s : State) (cx : Cx) (c : Ctx) (b : Block) : Prop := s.ctx? cx = some c ∧ c.block = b

/-- The fields of `CLZ` and `POPC`. -/
def useOne : Use := { wd := true, wa := true }
/-- The fields of `LI`. -/
def useLi : Use := { wd := true, mask := 0x3FFFF }
/-- The fields of `J`, `CALL` and `TRAP`. -/
def useImm : Use := { mask := 0x3FFFF }
/-- The fields of `JR` and `CALLR`. -/
def useWa : Use := { wa := true }
/-- The fields of `NOW` and `SEAL`. -/
def useWd : Use := { wd := true }

/-- The fields of `GRANT` (R77). -/
def useGrant : Use := { wd := true, wa := true, wb := true, mask := 0x3E007, prompter := true }
/-- The fields of `QUIET` (R77): kind 3 is reserved. -/
def useQuiet : Use := { wd := true, wa := true, wb := true, mask := 0x3E003, bad := fun i => i % 4 == 3, prompter := true }
/-- The fields of `STANDING` (R80): an add has a period. -/
def useStanding : Use := { wd := true, wa := true, wb := true, mask := 0x3E3FF, bad := fun i => !i.testBit 8 && i % 256 == 0, prompter := true }

/-- The state after an instruction of `n` cycles that writes a word to `wd` and goes on. -/
def State.wrote (s : State) (cx : Cx) (c : Ctx) (n : Nat) (f : Fields) (v : Word) : State :=
  s.putCtx cx { (c.spend n).setReg f.wd.toNat v with pc := c.pc + 1, block := .none }

/-- (pc + sext(imm18)) mod 2^17 (R69). -/
def relTarget (c : Ctx) (f : Fields) : Nat := (((c.pc : Int) + f.imm.toInt) % 2 ^ 17).toNat

/-- The state after a jump to `t`, with the branch-trace entry of its kind (R470). -/
def State.jumped (s : State) (cx : Cx) (c : Ctx) (kind t : Nat) : State :=
  (s.putCtx cx { c with pc := t }).trace cx.core kind c.pc t cx.ctx

/-- The state after a conditional branch (R69). -/
def State.branched (s : State) (cx : Cx) (c : Ctx) (f : Fields) (taken : Bool) : State :=
  if taken then s.jumped cx (c.spend 2) 0 (relTarget c f) else s.putCtx cx { c.spend 1 with pc := c.pc + 1, block := .none }

/-- The state after an instruction of `n` cycles that writes no register and goes on. -/
def State.passed (s : State) (cx : Cx) (c : Ctx) (n : Nat) : State := s.putCtx cx { c.spend n with pc := c.pc + 1, block := .none }

/-- The state in which a posted store leaves its context (R38, R46). -/
def State.posted (s : State) (cx : Cx) (c : Ctx) : State := s.putCtx cx { c.spend 1 with pc := c.pc + 1, block := .none, order := false }

/-- The access that a load or an atomic sends (R72, R73). -/
def accessOf (k : AccKind) (a : Word) (f : Fields) (op : Nat) (b third : Word) : Access :=
  { kind := k, addr := a, wd := f.wd.toNat, b := b, c := third, instr := ertenWord op f }

/-! ### `ISSUE` (R74) -/

/-- Whether local memory reads as these words from an address on, and reading them changes nothing. -/
def State.holdsWords (s : State) (cx : Cx) (c : Ctx) (a : Nat) (ws : List Word) : Bool :=
  match s.readLocals cx c a ws.length with
  | (.ok vs, t) => vs == ws && decide (t = s)
  | (.error _, _) => false

/-- Whether a local word reads as `w`, and reading it changes nothing. -/
def State.holdsWord (s : State) (cx : Cx) (c : Ctx) (a : Nat) (w : Word) : Bool :=
  match s.localRead cx c a with
  | (.ok v, t) => v == w && decide (t = s)
  | (.error _, _) => false

/-- An `ISSUE` that starts: its descriptor `ws` lies in readable local memory with its length in word 0, no `ORDER` holds it, and a ticket entry is available. -/
abbrev State.Issues (s : State) (cx : Cx) (c : Ctx) (f : Fields) (ws : List Word) : Prop :=
  s.Runs cx c ∧ useI.ok f = true ∧ s.heldByOrder cx c = false ∧ ws ≠ [] ∧ dbits ws 0 8 5 = ws.length ∧ c.place (addrI c f).toNat ≠ .outside ∧
    c.covers (addrI c f).toNat ws.length = true ∧ s.holdsWord cx c (addrI c f).toNat (ws.getD 0 0) = true ∧
    s.holdsWords cx c (addrI c f).toNat ws = true ∧ s.ticketFor cx c = true

/-- The port of a frame-bound cue, against which its ticket is outstanding (R121). -/
def descPort (ws : List Word) : Option Nat := if dbits ws 0 0 8 = 0x40 ∧ dbits ws 0 14 1 = 1 then some (dbits ws 4 31 6) else none

/-- The ticket an `ISSUE` takes: entry, ticket, and the state with it held (R41). -/
def State.opTake (s : State) (cx : Cx) (c : Ctx) (ws : List Word) : Nat × Tix × State :=
  s.takeTicket cx (c.spend (3 + ws.length)) (descObjs (dbits ws 0 0 8) ws) (descPort ws)

/-- The context after an `ISSUE`: 3 + `LEN` cycles, the ticket in `wd`, the next instruction. -/
def State.opCtx (s : State) (cx : Cx) (c : Ctx) (ws : List Word) (f : Fields) : Ctx :=
  { (c.spend (3 + ws.length)).setReg f.wd.toNat (ticketWord (s.opTake cx c ws).1 (s.opTake cx c ws).2.1) with
    pc := c.pc + 1
    block := .none
    order := false }

/-- The state in which the operation of an `ISSUE` starts. -/
def State.opState (s : State) (cx : Cx) (c : Ctx) (ws : List Word) (f : Fields) : State :=
  (s.opTake cx c ws).2.2.putCtx cx (s.opCtx cx c ws f)

/-- The operation that an `ISSUE` starts. -/
def State.opOf (s : State) (cx : Cx) (c : Ctx) (f : Fields) (ws : List Word) (tw : Option TwinReply) : Op :=
  { cx := cx, c := s.opCtx cx c ws f, w := whoOf cx (s.opCtx cx c ws f), e := (s.opTake cx c ws).1, g := (s.opTake cx c ws).2.1.gen, ws := ws, tw := tw }

/-- A well-formed operation of a type, of no prompter, on this unit. -/
abbrev Op.Plain (o : Op) (ty : Nat) (u : State) : Prop :=
  dbits o.ws 0 0 8 = ty ∧ layoutOk ty o.ws = true ∧ o.c.tree? = none ∧ o.onTwin ty u = false ∧ u.issuesAtUnit0 ty = false

/-- An `ISSUE` that starts a well-formed operation of a type, of no prompter (R74). -/
abbrev State.Starts (s : State) (cx : Cx) (c : Ctx) (f : Fields) (ws : List Word) (ty : Nat) : Prop :=
  s.Issues cx c f ws ∧ dbits ws 0 0 8 = ty ∧ layoutOk ty ws = true ∧ c.tree? = none

/-- Whether the `n` change records of a `STAGE` at a local address read as these, and reading them changes nothing (R295). -/
def State.holdsRecords (s : State) (cx : Cx) (c : Ctx) (a n : Nat) (recs : List (List Word)) : Bool :=
  match s.readChanges cx c a n with
  | (.ok r, t) => r == recs && decide (t = s)
  | (.error _, _) => false

/-- Words written to consecutive words of a context's data memory. -/
def State.putWords (s : State) (cx : Cx) (a : Nat) : List Word → State
  | [] => s
  | v :: t => (s.setDataWord cx a v).putWords cx (a + 1) t

/-- The bank that a `KEY.WRITE` descriptor describes, before its key is unwrapped (R84). -/
def bankOf (ws : List Word) : Bank :=
  { mode := dbits ws 2 28 4, k256 := dbits ws 2 19 1 = 1, keyIdx := dbits ws 2 20 8, succ := dbits ws 2 0 18, succV := dbits ws 2 18 1 = 1, key := 0 }

/-- The query that a `PB.QUERY` descriptor describes (R84). -/
def queryOf (ws : List Word) : PbQuery :=
  { lo := dbits ws 1 0 7, hi := dbits ws 1 7 7, term := dbits ws 1 14 10, kinds := dbits ws 1 24 3, tFrom := ws.getD 2 0, tTo := ws.getD 3 0, max := dword ws 5 }

/-- The timed cue that a `CUE.AT` describes, late by `late` at acceptance (R396, R397). -/
def cueOf (o : Op) (s : State) (late : Option Nat) : Cue :=
  { entry := o.e, gen := o.g, cx := o.cx, kind := o.w.kind, tenant := o.w.tenant, due := s.extOf (o.ws.getD 1 0), port := none, late := late,
    target := o.ws.getD 2 0, value := o.ws.getD 3 0 }

/-- What a switch of versions leaves (R303): the staged set current, the current set previous, the next version number, no curtain and no staged change. -/
abbrev State.Switched (s t : State) : Prop :=
  t.sieve.cur = s.sieve.staged ∧ t.sieve.prev = s.sieve.cur ∧ t.sieve.staged = s.sieve.staged ∧ t.sieve.curtain = none ∧
    t.rd Reg.Sve.V_CUR [] = s.rd Reg.Sve.V_CUR [] % 65535 + 1 ∧ t.rd Reg.Sve.V_PREV [] = s.rd Reg.Sve.V_CUR [] ∧ t.rd Reg.Sve.STAGED [] = 0 ∧
    t.rd Reg.Sve.CURTAIN_PEND [] = 0

/-! ### The host (R98–R104) -/

/-- The state in which the host has written an entry at a function's tail and rung its doorbell (R98, R102), held entries counted (R103). -/
def State.entered (s : State) (f op : Nat) (e : SubEntry) : State :=
  let t := s.rd Reg.Bar.SQ_TAIL [f]
  ((s.writeSlot f t { e with op := op }).settleStalls.wr Reg.Bar.SQ_TAIL [f] ((t + 1) % s.ringSize f Reg.Bar.SQ_LOG2)).settleStalls

/-- An entry that the device takes as soon as its doorbell rings: the ring is empty, and nothing of R103 holds the entry. -/
abbrev State.TakesNext (s : State) (f op : Nat) (e : SubEntry) : Prop :=
  f < 16 ∧ (f = 0 → s.flag Reg.Bar.BOOT_WAIT [] = false) ∧ 2 ≤ s.ringSize f Reg.Bar.SQ_LOG2 ∧ s.ringSize f Reg.Bar.SQ_LOG2 ≤ 4096 ∧
    s.rd Reg.Bar.SQ_HEAD [f] = s.rd Reg.Bar.SQ_TAIL [f] ∧ s.rd Reg.Bar.SQ_TAIL [f] < s.ringSize f Reg.Bar.SQ_LOG2 ∧ (s.entered f op e).taking f = .ready ∧ (s.entered f op e).nextFunc = some f

/-- The submission that a function's entry at `SQ_HEAD` is answered as. -/
def State.jobOf (s : State) (f : Nat) : Job :=
  { func := f, tag := (s.headEntry f).tag, index := s.rd Reg.Bar.SQ_HEAD [f], noIrq := (s.headEntry f).flags / 2 % 2 == 1, discard := false, resident := 0 }

/-- The state in which a function's entry has been taken (R103, R104): `SQ_HEAD` is past it and it is in flight. -/
def State.taken (s : State) (f : Nat) : State :=
  let h := s.rd Reg.Bar.SQ_HEAD [f]
  let t := (s.wr Reg.Bar.SQ_HEAD [f] ((h + 1) % s.ringSize f Reg.Bar.SQ_LOG2)).wr Reg.Hid.INFLIGHT_F [f] (s.rd Reg.Hid.INFLIGHT_F [f] + 1)
  { t.wr Reg.Hid.RR_FUNC [0] f with host := { s.host with counted := s.host.counted.filter (· != f * 4096 + h) } }

/-- A refused BAR0 write (R95): `HOST_ERR` holds its offset and code, and is valid. -/
abbrev State.ErrNoted (t : State) (f off code sub : Nat) : Prop :=
  t.rd Reg.Bar.ERR_OFFSET [f] = off ∧ t.rd Reg.Bar.ERR_CODE [f] = code ∧ t.rd Reg.Bar.ERR_SUB [f] = sub ∧ t.rd Reg.Bar.ERR_VALID [f] = 1

/-- No ring of another function has changed, no context, and nothing has left the device. -/
abbrev State.SameRings (s t : State) (f : Nat) : Prop :=
  (∀ r ∈ [Reg.Bar.SQ_EN, Reg.Bar.SQ_HEAD, Reg.Bar.SQ_TAIL, Reg.Bar.CQ_EN, Reg.Bar.CQ_HEAD, Reg.Bar.CQ_TAIL, Reg.Bar.EQ_EN, Reg.Bar.EQ_HEAD, Reg.Bar.EQ_TAIL],
    ∀ g < 16, g ≠ f → t.rd r [g] = s.rd r [g]) ∧ t.cpu = s.cpu ∧ t.out = s.out

/-! ### Stores of fields (R7, R8, R28) -/

/-- A context's store of fields of one word that takes effect: each field exists and changes or sets something off, and no check of R28 refuses it. -/
abbrev State.Accepts (s : State) (cx : Cx) (c : Ctx) (cs : List Chg) (a : Nat) : Prop :=
  s.ctx? cx = some c ∧ cs ≠ [] ∧ (∀ d ∈ cs, d.ok = true ∧ d.f.addr d.ix = a ∧ s.takesPart (whoOf cx c) d.f d.ix d.v = true) ∧
    s.judge (whoOf cx c) a cs (s.memoryRefuses a) = none

/-- The state `t` after an accepted store of fields, and the write's copy on its way to the twin where the pair holds one (R265). -/
def State.copied (s : State) (cx : Cx) (c : Ctx) (cs : List Chg) (a : Nat) (t : State) : State :=
  if s.mirrorsOut a then t.mirrorWrite (whoOf cx c) a 0 (s.wordWith (whoOf cx c) a cs) else t

/-- The state after a store of fields that was refused with `x` (R39): what the refusal leaves, and the refusal on its way back to the context. -/
def State.turnedAway (s : State) (cx : Cx) (c : Ctx) (cs : List Chg) (a : Nat) (x : Sub) : State :=
  let u := s.refused (whoOf cx c) a cs x
  u.freeWord.2.refuseStore cx x (BitVec.ofNat 40 a) u.freeWord.1

/-! ### Resets (R505, R506) -/

/-- What a device reset leaves (R505, R506): the cause and the count of resets, no running context, every port dark and off, the fuses, the life cycle that the
fuses hold, `PWR_GOOD` low. -/
abbrev State.ResetTo (s t : State) (cause : Nat) : Prop :=
  t.rd Reg.Pwr.RST_CAUSE [] = cause ∧ t.rd Reg.Pwr.RST_COUNT [] = min (s.rd Reg.Pwr.RST_COUNT [] + 1) (2 ^ Reg.Pwr.RST_COUNT.w - 1) ∧
    t.cpu = State.reset.cpu ∧ t.bufs = [] ∧ (∀ p < 64, t.rd Reg.Pon.LIT [p] = 0 ∧ t.rd Reg.Pon.MODE [p] = 0) ∧ t.rd Reg.Bar.READY [] = 0 ∧
    t.rd Reg.Pwr.FUSED_MIN [] = s.rd Reg.Pwr.FUSED_MIN [] ∧ t.rd Reg.Pwr.BURNS_LEFT [] = s.rd Reg.Pwr.BURNS_LEFT [] ∧
    t.lifecycle = s.rd Reg.Reh.LC_PENDING [] ∧ t.timeOn = false ∧ .pin .pwrGood 0 0 s.ext ∈ t.out ∧ t.pending = s.pending

/-- A device reset for a cause that holds the device in reset. -/
abbrev State.ResetHeld (s t : State) (cause : Nat) : Prop := s.ResetTo t cause ∧ (t.rd Reg.Hid.HELD [0]).testBit cause = true

/-- A boot whose sources hold no image: the device waits for the host (R116, R510). -/
abbrev bareBoot (b : Boot) : Prop := b.src % 4 ≠ 3 ∧ b.slot0 = none ∧ b.slot1 = none

/-- The state after power-up without an image (R508, R510): the root PLL is locked, the device waits for a boot, no context runs. -/
abbrev State.Waiting (t : State) : Prop := t.rd Reg.Pwr.ROOT_LOCK [] = 1 ∧ t.rd Reg.Bar.BOOT_WAIT [] = 1 ∧ t.rd Reg.Bar.READY [] = 0 ∧ t.cpu.ctxs = []

/-- The ring block of a function as after reset (R115). -/
abbrev State.RingsReset (t : State) (f : Nat) : Prop :=
  t.rd Reg.Bar.SQ_EN [f] = 0 ∧ t.rd Reg.Bar.CQ_EN [f] = 0 ∧ t.rd Reg.Bar.EQ_EN [f] = 0 ∧ t.rd Reg.Bar.SQ_HEAD [f] = 0 ∧ t.rd Reg.Bar.SQ_TAIL [f] = 0 ∧
    t.rd Reg.Bar.ERR_VALID [f] = 0 ∧ t.rd Reg.Bar.IRQ_EN [f] = 0 ∧ t.rd Reg.Hid.INFLIGHT_F [f] = 0

/-! ### Runs of commands, and what every command keeps -/

/-- The state after commands in order; none if one of them does not answer a next state. -/
def State.after : State → List Instr → Option State
  | s, [] => some s
  | s, i :: rest => match exec i s with
    | .next t => t.after rest
    | _ => none

/-- The word of a register of a context after commands in order. -/
def State.regAfter (s : State) (is : List Instr) (cx : Cx) (n : Nat) : Option Word := ((s.after is).bind (fun t => t.ctx? cx)).map (fun c => c.reg n)

/-- The canonical form of every store of the machine: the registers, the words of data memories, of tree state windows, of checkpoints and of flow counters
have strictly rising addresses and list no zero. -/
abbrev State.Canonical (s : State) : Prop :=
  s.regs.wf = true ∧ s.cpu.mem.wf = true ∧ s.cpu.win.wf = true ∧ s.cpu.ckpt.wf = true ∧ s.xmem.flows.wf = true

end Sys2Proof.Machine
end

