-- ==== Sys2Proof/Certificates/Slice0/Obligations.lean ====
section
/-! DEFINITION. The statements for the provers: what the numbered rules of the spec say the device and its commands do. -/

open Sys2Proof Sys2Proof.Machine

/-- In a context that executes, each of ADD to MAXU with three registers writes to wd the value the opcode table gives (products, quotients, shifts and comparisons read as
numbers), costs the cycles of the table, goes on to the next instruction and changes nothing else of the machine. -/
def Obligations.ArithmeticRegister : Prop :=
  (∀ (s : State) (cx : Cx) (f : Fields) (c : Ctx), s.Runs cx c → useR.ok f = true → 
     exec (.add cx f) s = .next (s.wrote cx c 1 f (BitVec.ofNat 40 ((c.a f).toNat + (c.b f).toNat)))) ∧
  (∀ (s : State) (cx : Cx) (f : Fields) (c : Ctx), s.Runs cx c → useR.ok f = true → 
     exec (.sub cx f) s = .next (s.wrote cx c 1 f (BitVec.ofInt 40 (((c.a f).toNat : Int) - (c.b f).toNat)))) ∧
  (∀ (s : State) (cx : Cx) (f : Fields) (c : Ctx), s.Runs cx c → useR.ok f = true → 
     exec (.andR cx f) s = .next (s.wrote cx c 1 f (c.a f &&& c.b f))) ∧
  (∀ (s : State) (cx : Cx) (f : Fields) (c : Ctx), s.Runs cx c → useR.ok f = true → 
     exec (.orR cx f) s = .next (s.wrote cx c 1 f (c.a f ||| c.b f))) ∧
  (∀ (s : State) (cx : Cx) (f : Fields) (c : Ctx), s.Runs cx c → useR.ok f = true → 
     exec (.xorR cx f) s = .next (s.wrote cx c 1 f (c.a f ^^^ c.b f))) ∧
  (∀ (s : State) (cx : Cx) (f : Fields) (c : Ctx), s.Runs cx c → useR.ok f = true → 
     exec (.shl cx f) s = .next (s.wrote cx c 1 f (BitVec.ofNat 40 ((c.a f).toNat * 2 ^ ((c.b f).toNat % 64))))) ∧
  (∀ (s : State) (cx : Cx) (f : Fields) (c : Ctx), s.Runs cx c → useR.ok f = true → 
     exec (.shr cx f) s = .next (s.wrote cx c 1 f (BitVec.ofNat 40 ((c.a f).toNat / 2 ^ ((c.b f).toNat % 64))))) ∧
  (∀ (s : State) (cx : Cx) (f : Fields) (c : Ctx), s.Runs cx c → useR.ok f = true → 
     exec (.sar cx f) s = .next (s.wrote cx c 1 f (BitVec.ofInt 40 ((c.a f).toInt / 2 ^ ((c.b f).toNat % 64))))) ∧
  (∀ (s : State) (cx : Cx) (f : Fields) (c : Ctx), s.Runs cx c → useR.ok f = true → 
     exec (.mul cx f) s = .next (s.wrote cx c 3 f (BitVec.ofNat 40 ((c.a f).toNat * (c.b f).toNat)))) ∧
  (∀ (s : State) (cx : Cx) (f : Fields) (c : Ctx), s.Runs cx c → useR.ok f = true → 
     exec (.mulhu cx f) s = .next (s.wrote cx c 3 f (BitVec.ofNat 40 ((c.a f).toNat * (c.b f).toNat / 2 ^ 40)))) ∧
  (∀ (s : State) (cx : Cx) (f : Fields) (c : Ctx), s.Runs cx c → useR.ok f = true → 
     exec (.divu cx f) s = .next (s.wrote cx c 24 f (if c.b f = 0 then 0xFFFFFFFFFF else BitVec.ofNat 40 ((c.a f).toNat / (c.b f).toNat)))) ∧
  (∀ (s : State) (cx : Cx) (f : Fields) (c : Ctx), s.Runs cx c → useR.ok f = true → 
     exec (.remu cx f) s = .next (s.wrote cx c 24 f (if c.b f = 0 then c.a f else BitVec.ofNat 40 ((c.a f).toNat % (c.b f).toNat)))) ∧
  (∀ (s : State) (cx : Cx) (f : Fields) (c : Ctx), s.Runs cx c → useR.ok f = true → 
     exec (.slt cx f) s = .next (s.wrote cx c 1 f (if (c.a f).toInt < (c.b f).toInt then 1 else 0))) ∧
  (∀ (s : State) (cx : Cx) (f : Fields) (c : Ctx), s.Runs cx c → useR.ok f = true → 
     exec (.sltu cx f) s = .next (s.wrote cx c 1 f (if (c.a f).toNat < (c.b f).toNat then 1 else 0))) ∧
  (∀ (s : State) (cx : Cx) (f : Fields) (c : Ctx), s.Runs cx c → useR.ok f = true → 
     exec (.saft cx f) s = .next (s.wrote cx c 1 f (if 0 < sdiff (c.a f) (c.b f) then 1 else 0))) ∧
  (∀ (s : State) (cx : Cx) (f : Fields) (c : Ctx), s.Runs cx c → useR.ok f = true → 
     exec (.minu cx f) s = .next (s.wrote cx c 1 f (BitVec.ofNat 40 (min (c.a f).toNat (c.b f).toNat)))) ∧
  (∀ (s : State) (cx : Cx) (f : Fields) (c : Ctx), s.Runs cx c → useR.ok f = true → 
     exec (.maxu cx f) s = .next (s.wrote cx c 1 f (BitVec.ofNat 40 (max (c.a f).toNat (c.b f).toNat))))

/-- CLZ writes the number of leading zero bits of wa, 40 for a zero word, and POPC the number of its set bits; nothing else of the state changes but the cycle count and the
program counter. -/
def Obligations.CountBits : Prop :=
  (∀ (s : State) (cx : Cx) (f : Fields) (c : Ctx), s.Runs cx c → useOne.ok f = true → 
     exec (.clz cx f) s = .next (s.wrote cx c 1 f (if c.a f = 0 then 40 else BitVec.ofNat 40 (39 - Nat.log2 (c.a f).toNat)))) ∧
  (∀ (s : State) (cx : Cx) (f : Fields) (c : Ctx), s.Runs cx c → useOne.ok f = true → 
     exec (.popc cx f) s = .next (s.wrote cx c 1 f (BitVec.ofNat 40 ((List.range 40).countP (fun k => (c.a f).getLsbD k)))))

/-- In a context that executes, ADDI, ANDI, ORI, XORI, SHLI, SHRI, SARI, SLTI, LI and LIM write to wd the value the opcode table gives, with the immediate sign- or
zero-extended as its entry says, and change nothing else but the cycle count and the program counter. -/
def Obligations.ArithmeticImmediate : Prop :=
  (∀ (s : State) (cx : Cx) (f : Fields) (c : Ctx), s.Runs cx c → useI.ok f = true → 
     exec (.addi cx f) s = .next (s.wrote cx c 1 f (BitVec.ofInt 40 (((c.a f).toNat : Int) + f.imm.toInt)))) ∧
  (∀ (s : State) (cx : Cx) (f : Fields) (c : Ctx), s.Runs cx c → useI.ok f = true → 
     exec (.andi cx f) s = .next (s.wrote cx c 1 f (c.a f &&& BitVec.ofNat 40 f.imm.toNat))) ∧
  (∀ (s : State) (cx : Cx) (f : Fields) (c : Ctx), s.Runs cx c → useI.ok f = true → 
     exec (.ori cx f) s = .next (s.wrote cx c 1 f (c.a f ||| BitVec.ofNat 40 f.imm.toNat))) ∧
  (∀ (s : State) (cx : Cx) (f : Fields) (c : Ctx), s.Runs cx c → useI.ok f = true → 
     exec (.xori cx f) s = .next (s.wrote cx c 1 f (c.a f ^^^ BitVec.ofNat 40 f.imm.toNat))) ∧
  (∀ (s : State) (cx : Cx) (f : Fields) (c : Ctx), s.Runs cx c → useI.ok f = true → 
     exec (.slti cx f) s = .next (s.wrote cx c 1 f (if (c.a f).toInt < f.imm.toInt then 1 else 0))) ∧
  (∀ (s : State) (cx : Cx) (f : Fields) (c : Ctx), s.Runs cx c → useI.ok f = true → 
     exec (.lim cx f) s = .next (s.wrote cx c 1 f (BitVec.ofNat 40 ((c.a f).toNat * 2 ^ 18 + f.imm.toNat)))) ∧
  (∀ (s : State) (cx : Cx) (f : Fields) (c : Ctx), s.Runs cx c → useSh.ok f = true → 
     exec (.shli cx f) s = .next (s.wrote cx c 1 f (BitVec.ofNat 40 ((c.a f).toNat * 2 ^ f.imm.toNat)))) ∧
  (∀ (s : State) (cx : Cx) (f : Fields) (c : Ctx), s.Runs cx c → useSh.ok f = true → 
     exec (.shri cx f) s = .next (s.wrote cx c 1 f (BitVec.ofNat 40 ((c.a f).toNat / 2 ^ f.imm.toNat)))) ∧
  (∀ (s : State) (cx : Cx) (f : Fields) (c : Ctx), s.Runs cx c → useSh.ok f = true → 
     exec (.sari cx f) s = .next (s.wrote cx c 1 f (BitVec.ofInt 40 ((c.a f).toInt / 2 ^ f.imm.toNat)))) ∧
  (∀ (s : State) (cx : Cx) (f : Fields) (c : Ctx), s.Runs cx c → useLi.ok f = true → 
     exec (.li cx f) s = .next (s.wrote cx c 1 f (BitVec.ofInt 40 f.imm.toInt)))

/-- A conditional branch whose condition holds costs 2 cycles, leaves one branch-trace entry and goes to (pc + sext(imm18)) mod 2^17; one whose condition fails costs 1 cycle
and goes on. Nothing else of the machine changes. -/
def Obligations.Branches : Prop :=
  (∀ (s : State) (cx : Cx) (f : Fields) (c : Ctx), s.Runs cx c → useB.ok f = true → 
     exec (.beq cx f) s = .next (s.branched cx c f (decide (c.a f = c.b f)))) ∧
  (∀ (s : State) (cx : Cx) (f : Fields) (c : Ctx), s.Runs cx c → useB.ok f = true → 
     exec (.bne cx f) s = .next (s.branched cx c f (decide (c.a f ≠ c.b f)))) ∧
  (∀ (s : State) (cx : Cx) (f : Fields) (c : Ctx), s.Runs cx c → useB.ok f = true → 
     exec (.blt cx f) s = .next (s.branched cx c f (decide ((c.a f).toInt < (c.b f).toInt)))) ∧
  (∀ (s : State) (cx : Cx) (f : Fields) (c : Ctx), s.Runs cx c → useB.ok f = true → 
     exec (.bge cx f) s = .next (s.branched cx c f (decide ((c.b f).toInt ≤ (c.a f).toInt)))) ∧
  (∀ (s : State) (cx : Cx) (f : Fields) (c : Ctx), s.Runs cx c → useB.ok f = true → 
     exec (.bltu cx f) s = .next (s.branched cx c f (decide ((c.a f).toNat < (c.b f).toNat)))) ∧
  (∀ (s : State) (cx : Cx) (f : Fields) (c : Ctx), s.Runs cx c → useB.ok f = true → 
     exec (.bgeu cx f) s = .next (s.branched cx c f (decide ((c.b f).toNat ≤ (c.a f).toNat)))) ∧
  (∀ (s : State) (cx : Cx) (f : Fields) (c : Ctx), s.Runs cx c → useB.ok f = true → 
     exec (.baft cx f) s = .next (s.branched cx c f (decide (0 < sdiff (c.a f) (c.b f))))) ∧
  (∀ (s : State) (cx : Cx) (f : Fields) (c : Ctx), s.Runs cx c → useB.ok f = true → 
     exec (.bnaft cx f) s = .next (s.branched cx c f (decide (sdiff (c.a f) (c.b f) ≤ 0))))

/-- J and CALL go to (pc + sext(imm18)) mod 2^17, JR and CALLR to wa; CALL and CALLR write pc + 1 to w31. A JR or CALLR whose wa[39:17] is not zero raises FAULT subcause 0x03
at the instruction without branching; CALLR then writes no register. -/
def Obligations.JumpsAndCalls : Prop :=
  (∀ (s : State) (cx : Cx) (f : Fields) (c : Ctx), s.Runs cx c → useImm.ok f = true → 
     exec (.j cx f) s = .next (s.jumped cx (c.spend 2) 0 (relTarget c f))) ∧
  (∀ (s : State) (cx : Cx) (f : Fields) (c : Ctx), s.Runs cx c → useImm.ok f = true → 
     exec (.call cx f) s = .next (s.jumped cx ((c.spend 2).setReg 31 (BitVec.ofNat 40 (c.pc + 1))) 0 (relTarget c f))) ∧
  (∀ (s : State) (cx : Cx) (f : Fields) (c : Ctx), s.Runs cx c → useWa.ok f = true → (c.a f).toNat < 2 ^ 17 → 
     exec (.jr cx f) s = .next (s.jumped cx (c.spend 3) 1 (c.a f).toNat)) ∧
  (∀ (s : State) (cx : Cx) (f : Fields) (c : Ctx), s.Runs cx c → useWa.ok f = true → (c.a f).toNat < 2 ^ 17 → 
     exec (.callr cx f) s = .next (s.jumped cx ((c.spend 3).setReg 31 (BitVec.ofNat 40 (c.pc + 1))) 1 (c.a f).toNat)) ∧
  (∀ (s : State) (cx : Cx) (f : Fields) (c : Ctx), s.Runs cx c → useWa.ok f = true → 2 ^ 17 ≤ (c.a f).toNat → 
     exec (.jr cx f) s = .next (s.raiseAt cx (c.spend 3) 0x7E 3 (c.a f) (ertenWord 0x32 f)) ∧ exec (.callr cx f) s = .next (s.raiseAt cx (c.spend 3) 0x7E 3 (c.a f) (ertenWord 0x33 f)))

/-- A load reads the word its local address names: from data memory in 2 cycles, from the tree state window in 3, from an external segment of a script, or of the system
context, that nothing refuses in 2 cycles of its own while the stagehand runs another ready context; a store writes the word in 1 cycle; nothing else of the machine
changes. Outside the context's map both raise FAULT subcause 0x02; a word of data memory with an uncorrectable error raises FAULT subcause 0x07 on a load; a segment of
another tenant raises DENIED subcause 0x02. -/
def Obligations.LocalMemory : Prop :=
  (∀ (s : State) (cx : Cx) (f : Fields) (c : Ctx) (i : Nat), s.Runs cx c → useI.ok f = true → c.place (addrI c f).toNat = .data i → s.cpu.badData.contains (memBase cx + i) = false → 
     exec (.ld cx f) s = .next (s.wrote cx c 2 f (s.dataWord cx i))) ∧
  (∀ (s : State) (cx : Cx) (f : Fields) (c : Ctx) (z i : Nat), s.Runs cx c → useI.ok f = true → c.place (addrI c f).toNat = .window z i → 
     exec (.ld cx f) s = .next (s.wrote cx c 3 f (s.cpu.win.get (z * 2 ^ 16 + i)))) ∧
  (∀ (s : State) (cx : Cx) (f : Fields) (c : Ctx) (w : Nat) (v : Word), s.Runs cx c → useI.ok f = true → c.place (addrI c f).toNat = .seg w → s.segRefuses c w false = none → (s.segRead w).1 = some v → 
     exec (.ld cx f) s = .next ((s.wrote cx c 2 f v).switchOver cx.core cx.ctx)) ∧
  (∀ (s : State) (cx : Cx) (f : Fields) (c : Ctx) (w : Nat) (v : Word), s.Runs cx c → useI.ok f = true → c.place (addrI c f).toNat = .raw w → s.rawRefuses w = none → (s.rawRead w).1 = some v → 
     exec (.ld cx f) s = .next ((s.wrote cx c 2 f v).switchOver cx.core cx.ctx)) ∧
  (∀ (s : State) (cx : Cx) (f : Fields) (c : Ctx) (w : Nat), s.Runs cx c → useI.ok f = true → c.place (addrI c f).toNat = .seg w → s.segAllowed c w false = false → 
     exec (.ld cx f) s = .next ((s.denied cx c (addrI c f).toNat).raiseAt cx (c.spend 140) 0x7F 2 (addrI c f) (ertenWord 0x38 f))) ∧
  (∀ (s : State) (cx : Cx) (f : Fields) (c : Ctx) (i : Nat), s.Runs cx c → useI.ok f = true → c.place (addrI c f).toNat = .data i → s.cpu.badData.contains (memBase cx + i) = true → 
     exec (.ld cx f) s = .next (s.raiseAt cx (c.spend 2) 0x7E 7 (addrI c f) (ertenWord 0x38 f))) ∧
  (∀ (s : State) (cx : Cx) (f : Fields) (c : Ctx), s.Runs cx c → useI.ok f = true → c.place (addrI c f).toNat = .outside → 
     exec (.ld cx f) s = .next (s.raiseAt cx (c.spend 2) 0x7E 2 (addrI c f) (ertenWord 0x38 f))) ∧
  (∀ (s : State) (cx : Cx) (f : Fields) (c : Ctx) (i : Nat), s.Runs cx c → useB.ok f = true → c.place (addrI c f).toNat = .data i → 
     exec (.st cx f) s = .next ((s.setDataWord cx i (c.b f)).passed cx c 1)) ∧
  (∀ (s : State) (cx : Cx) (f : Fields) (c : Ctx) (z i : Nat), s.Runs cx c → useB.ok f = true → c.place (addrI c f).toNat = .window z i → 
     exec (.st cx f) s = .next ({ s with cpu := { s.cpu with win := s.cpu.win.set (z * 2 ^ 16 + i) (c.b f) } }.passed cx c 1)) ∧
  (∀ (s : State) (cx : Cx) (f : Fields) (c : Ctx) (w : Nat), s.Runs cx c → useB.ok f = true → c.place (addrI c f).toNat = .seg w → s.segRefuses c w true = none → 
     exec (.st cx f) s = .next ((s.segWrite w (c.b f)).passed cx c 1)) ∧
  (∀ (s : State) (cx : Cx) (f : Fields) (c : Ctx) (w : Nat), s.Runs cx c → useB.ok f = true → c.place (addrI c f).toNat = .raw w → s.rawRefuses w = none → 
     exec (.st cx f) s = .next ((s.rawWrite w (c.b f)).passed cx c 1)) ∧
  (∀ (s : State) (cx : Cx) (f : Fields) (c : Ctx) (w : Nat), s.Runs cx c → useB.ok f = true → c.place (addrI c f).toNat = .seg w → s.segAllowed c w true = false → 
     exec (.st cx f) s = .next ((s.denied cx c (addrI c f).toNat).raiseAt cx (c.spend 1) 0x7F 2 (addrI c f) (ertenWord 0x39 f))) ∧
  (∀ (s : State) (cx : Cx) (f : Fields) (c : Ctx), s.Runs cx c → useB.ok f = true → c.place (addrI c f).toNat = .outside → 
     exec (.st cx f) s = .next (s.raiseAt cx (c.spend 1) 0x7E 2 (addrI c f) (ertenWord 0x39 f)))

/-- With ORDER not holding it back, OLD and the five atomics block the context on an access that holds the address, the destination and both operands, cost the cycle they
execute in, and write no register and no memory; one with bit 39 set in a pair that is whole leaves for the twin with the context's tenant and type. OST to this unit goes
on at once and its store is made; an OST that ORDER holds back blocks the context on it. -/
def Obligations.ObjectAccessesBlock : Prop :=
  (∀ (s : State) (cx : Cx) (f : Fields) (c : Ctx), s.Runs cx c → useI.ok f = true → s.heldByOrder cx c = false → s.toTwin (addrI c f) = false → s.madeAtUnit0 (accessOf .load (addrI c f) f 0x3A (c.b f) ((0 : Word))) = false → 
     exec (.old cx f) s = .next (s.blockOn cx { c.spend 1 with order := false } (.access (accessOf .load (addrI c f) f 0x3A (c.b f) ((0 : Word)))))) ∧
  (∀ (s : State) (cx : Cx) (f : Fields) (c : Ctx), s.Runs cx c → useI.ok f = true → s.heldByOrder cx c = false → s.toTwin (addrI c f) = true → s.pairOk = true → 
     exec (.old cx f) s = .next ((s.blockOn cx { c.spend 1 with order := false } (.access (accessOf .load (addrI c f) f 0x3A (c.b f) ((0 : Word))))).sendTwin 5 cx (addrI c f) (ertenWord 0x3A f) [0, (addrI c f).toNat % 2 ^ 39, (c.b f).toNat, ((0 : Word)).toNat, c.tenant, ctxCode c.kind] .access)) ∧
  (∀ (s : State) (cx : Cx) (f : Fields) (c : Ctx), s.Runs cx c → (useAtomic false).ok f = true → s.heldByOrder cx c = false → s.toTwin (addrC c f) = false → s.madeAtUnit0 (accessOf .add (addrC c f) f 0x3C (c.b f) ((0 : Word))) = false → 
     exec (.oadd cx f) s = .next (s.blockOn cx { c.spend 1 with order := false } (.access (accessOf .add (addrC c f) f 0x3C (c.b f) ((0 : Word)))))) ∧
  (∀ (s : State) (cx : Cx) (f : Fields) (c : Ctx), s.Runs cx c → (useAtomic false).ok f = true → s.heldByOrder cx c = false → s.toTwin (addrC c f) = true → s.pairOk = true → 
     exec (.oadd cx f) s = .next ((s.blockOn cx { c.spend 1 with order := false } (.access (accessOf .add (addrC c f) f 0x3C (c.b f) ((0 : Word))))).sendTwin 5 cx (addrC c f) (ertenWord 0x3C f) [1, (addrC c f).toNat % 2 ^ 39, (c.b f).toNat, ((0 : Word)).toNat, c.tenant, ctxCode c.kind] .access)) ∧
  (∀ (s : State) (cx : Cx) (f : Fields) (c : Ctx), s.Runs cx c → (useAtomic false).ok f = true → s.heldByOrder cx c = false → s.toTwin (addrC c f) = false → s.madeAtUnit0 (accessOf .swap (addrC c f) f 0x3D (c.b f) ((0 : Word))) = false → 
     exec (.oswap cx f) s = .next (s.blockOn cx { c.spend 1 with order := false } (.access (accessOf .swap (addrC c f) f 0x3D (c.b f) ((0 : Word)))))) ∧
  (∀ (s : State) (cx : Cx) (f : Fields) (c : Ctx), s.Runs cx c → (useAtomic false).ok f = true → s.heldByOrder cx c = false → s.toTwin (addrC c f) = true → s.pairOk = true → 
     exec (.oswap cx f) s = .next ((s.blockOn cx { c.spend 1 with order := false } (.access (accessOf .swap (addrC c f) f 0x3D (c.b f) ((0 : Word))))).sendTwin 5 cx (addrC c f) (ertenWord 0x3D f) [2, (addrC c f).toNat % 2 ^ 39, (c.b f).toNat, ((0 : Word)).toNat, c.tenant, ctxCode c.kind] .access)) ∧
  (∀ (s : State) (cx : Cx) (f : Fields) (c : Ctx), s.Runs cx c → (useAtomic false).ok f = true → s.heldByOrder cx c = false → s.toTwin (addrC c f) = false → s.madeAtUnit0 (accessOf .set (addrC c f) f 0x3E (c.b f) ((0 : Word))) = false → 
     exec (.oset cx f) s = .next (s.blockOn cx { c.spend 1 with order := false } (.access (accessOf .set (addrC c f) f 0x3E (c.b f) ((0 : Word)))))) ∧
  (∀ (s : State) (cx : Cx) (f : Fields) (c : Ctx), s.Runs cx c → (useAtomic false).ok f = true → s.heldByOrder cx c = false → s.toTwin (addrC c f) = true → s.pairOk = true → 
     exec (.oset cx f) s = .next ((s.blockOn cx { c.spend 1 with order := false } (.access (accessOf .set (addrC c f) f 0x3E (c.b f) ((0 : Word))))).sendTwin 5 cx (addrC c f) (ertenWord 0x3E f) [3, (addrC c f).toNat % 2 ^ 39, (c.b f).toNat, ((0 : Word)).toNat, c.tenant, ctxCode c.kind] .access)) ∧
  (∀ (s : State) (cx : Cx) (f : Fields) (c : Ctx), s.Runs cx c → (useAtomic false).ok f = true → s.heldByOrder cx c = false → s.toTwin (addrC c f) = false → s.madeAtUnit0 (accessOf .clr (addrC c f) f 0x3F (c.b f) ((0 : Word))) = false → 
     exec (.oclr cx f) s = .next (s.blockOn cx { c.spend 1 with order := false } (.access (accessOf .clr (addrC c f) f 0x3F (c.b f) ((0 : Word)))))) ∧
  (∀ (s : State) (cx : Cx) (f : Fields) (c : Ctx), s.Runs cx c → (useAtomic false).ok f = true → s.heldByOrder cx c = false → s.toTwin (addrC c f) = true → s.pairOk = true → 
     exec (.oclr cx f) s = .next ((s.blockOn cx { c.spend 1 with order := false } (.access (accessOf .clr (addrC c f) f 0x3F (c.b f) ((0 : Word))))).sendTwin 5 cx (addrC c f) (ertenWord 0x3F f) [4, (addrC c f).toNat % 2 ^ 39, (c.b f).toNat, ((0 : Word)).toNat, c.tenant, ctxCode c.kind] .access)) ∧
  (∀ (s : State) (cx : Cx) (f : Fields) (c : Ctx), s.Runs cx c → (useAtomic true).ok f = true → s.heldByOrder cx c = false → s.toTwin (addrC c f) = false → s.madeAtUnit0 (accessOf .cas (addrC c f) f 0x40 (c.b f) (c.c3 f)) = false → 
     exec (.ocas cx f) s = .next (s.blockOn cx { c.spend 1 with order := false } (.access (accessOf .cas (addrC c f) f 0x40 (c.b f) (c.c3 f))))) ∧
  (∀ (s : State) (cx : Cx) (f : Fields) (c : Ctx), s.Runs cx c → (useAtomic true).ok f = true → s.heldByOrder cx c = false → s.toTwin (addrC c f) = true → s.pairOk = true → 
     exec (.ocas cx f) s = .next ((s.blockOn cx { c.spend 1 with order := false } (.access (accessOf .cas (addrC c f) f 0x40 (c.b f) (c.c3 f)))).sendTwin 5 cx (addrC c f) (ertenWord 0x40 f) [5, (addrC c f).toNat % 2 ^ 39, (c.b f).toNat, (c.c3 f).toNat, c.tenant, ctxCode c.kind] .access)) ∧
  (∀ (s : State) (cx : Cx) (f : Fields) (c : Ctx), s.Runs cx c → useB.ok f = true → s.heldByOrder cx c = false → s.toTwin (addrI c f) = false → ((s.posted cx c).storeWord (whoOf cx c) (addrI c f).toNat (ertenWord 0x3B f) (c.b f)).1 = (0, 0) → 
     exec (.ost cx f) s = .next ((s.posted cx c).storeWord (whoOf cx c) (addrI c f).toNat (ertenWord 0x3B f) (c.b f)).2) ∧
  (∀ (s : State) (cx : Cx) (f : Fields) (c : Ctx), s.Runs cx c → useB.ok f = true → s.heldByOrder cx c = false → s.toTwin (addrI c f) = true → s.pairOk = true → 
     exec (.ost cx f) s = .next ((s.posted cx c).sendTwin 5 cx (addrI c f) (ertenWord 0x3B f) [6, (addrI c f).toNat % 2 ^ 39, (c.b f).toNat, c.tenant, ctxCode c.kind] .store)) ∧
  (∀ (s : State) (cx : Cx) (f : Fields) (c : Ctx), s.Runs cx c → useB.ok f = true → s.heldByOrder cx c = true → 
     exec (.ost cx f) s = .next (s.blockOn cx (c.spend 1) (.heldStore (addrI c f) (c.b f) (ertenWord 0x3B f))))

/-- A blocked load or atomic that its block completes OK writes the data to wd and the context goes on after it; one that completes with another code writes zero to wd and
raises that code at its own instruction; one that the twin makes completes with the twin's answer, and with FAULT subcause 0x04 while the pair is not whole or when the
lanes have gone down under it. The cycles a prompter was blocked count. A refusal of a posted store that came back meanwhile is taken at the boundary behind it. -/
def Obligations.AccessReturns : Prop :=
  (∀ (s : State) (cx : Cx) (c : Ctx) (x : Access) (d : Word) (t : State), s.Held cx c (.access x) → x.lost = false → x.made = none → s.madeByTwin cx x = false → s.answer cx c x = some ((0, 0), d, t) → x.kind = .load ∨ t.sentSince s = false → t.ctx? cx = some c → c.ended = none → c.kill = none → c.refused = [] → 
     exec (.objectAccessReturn cx none) s = .next ((t.putCtx cx { (t.waited c (t.objectWait c x.addr - 1) false).setReg x.wd d with pc := c.pc + 1, block := .none }).wake cx)) ∧
  (∀ (s : State) (cx : Cx) (c : Ctx) (x : Access) (r : Sub) (d : Word) (t : State), s.Held cx c (.access x) → x.lost = false → x.made = none → s.madeByTwin cx x = false → s.answer cx c x = some (r, d, t) → r ≠ (0, 0) → t.ctx? cx = some c → c.ended = none → c.kill = none → 
     exec (.objectAccessReturn cx none) s = .next (((t.takeException cx { (t.waited c (t.objectWait c x.addr - 1) true).setReg x.wd 0 with block := .none } r.1 r.2 c.pc x.addr x.instr false).wake cx).takeReturned cx)) ∧
  (∀ (s : State) (cx : Cx) (c : Ctx) (x : Access) (r : TwinReply), s.Held cx c (.access x) → x.lost = false → x.made = none → s.madeByTwin cx x = true → s.pairOk = true → (r.code, r.sub) = (0, 0) → c.kill = none → c.refused = [] → 
     exec (.objectAccessReturn cx (some r)) s = .next (((s.answered cx x).putCtx cx { (s.waited c (s.objectWait c x.addr - 1) false).setReg x.wd r.word with pc := c.pc + 1, block := .none }).wake cx)) ∧
  (∀ (s : State) (cx : Cx) (c : Ctx) (x : Access) (tw : Option TwinReply), s.Held cx c (.access x) → x.made = none → x.lost = true ∨ (s.madeByTwin cx x = true ∧ s.pairOk = false) → c.kill = none → 
     exec (.objectAccessReturn cx tw) s = .next ((((s.answered cx x).takeException cx { (s.waited c (s.objectWait c x.addr - 1) true).setReg x.wd 0 with block := .none } 0x7E 4 c.pc x.addr x.instr false).wake cx).takeReturned cx))

/-- An atomic that is not refused returns the word as it read before, behind the parity check of a rule that a read makes; what it writes is old + wb, wb, old or wb, old and
not wb, or for a compare-and-swap that matched wc; a compare-and-swap that did not match writes nothing. Buffer share words, which take no atomic but OADD of 1, have a
clause of their own: it returns the number of shares before. -/
def Obligations.AtomicsReturnTheOldWord : Prop :=
  (∀ (s : State) (w : Who) (addr : Nat) (instr b c d : Word) (k : AccKind) (t : State), k ≠ .load → sharesAt addr = none → segAddr addr = false → s.access w addr instr k b c = ((0, 0), d, t) → 
     let u := s.checkRead addr
    d = u.wordRead w addr ∧
    (k = .cas → d ≠ b → t = u.afterRead addr) ∧
    (k = .cas → d = b → t = (u.storeWord w addr instr c).2.afterRead addr) ∧
    (k = .add → t = (u.storeWord w addr instr (d + b)).2.afterRead addr) ∧
    (k = .swap → t = (u.storeWord w addr instr b).2.afterRead addr) ∧
    (k = .set → t = (u.storeWord w addr instr (d ||| b)).2.afterRead addr) ∧
    (k = .clr → t = (u.storeWord w addr instr (d &&& ~~~b)).2.afterRead addr)) ∧
  (∀ (s : State) (w : Who) (addr : Nat) (instr b c d : Word) (k : AccKind) (t : State), k ≠ .load → segAddr addr = true → s.access w addr instr k b c = ((0, 0), d, t) → 
     some d = (s.segRead (addr % 2 ^ 34)).1 ∧
    (k = .cas → d ≠ b → t = s) ∧
    (k = .cas → d = b → t = s.segWrite (addr % 2 ^ 34) c) ∧
    (k = .add → t = s.segWrite (addr % 2 ^ 34) (d + b)) ∧
    (k = .swap → t = s.segWrite (addr % 2 ^ 34) b) ∧
    (k = .set → t = s.segWrite (addr % 2 ^ 34) (d ||| b)) ∧
    (k = .clr → t = s.segWrite (addr % 2 ^ 34) (d &&& ~~~b))) ∧
  (∀ (s : State) (w : Who) (addr : Nat) (instr c : Word) (ix : List Nat) (x : Buf), sharesAt addr = some ix → firstSub (s.authority w addr true) = none → s.bufView ix = some x → x.inUse = true → x.shares < 65535 → 
     s.access w addr instr .add 1 c = ((0, 0), BitVec.ofNat 40 x.shares, { s with bufs := s.bufs.upd (bufKey (ix.getD 0 0) (ix.getD 1 0)) (fun x => { x with shares := x.shares + 1 }) }))

/-- WAIT and POLL on a completed ticket write its completion word and collect it, on a completed sheet ticket they write its completion word and collect nothing; on a running
one WAIT blocks and POLL writes zero; on an invalid one both raise FAULT subcause 0x05. WAIT_RESUME finishes a blocked WAIT once its ticket has completed. -/
def Obligations.TicketsWaitedFor : Prop :=
  (∀ (s : State) (cx : Cx) (f : Fields) (c : Ctx) (w : Word) (e : Nat), s.Runs cx c → useOne.ok f = true → s.viewTicket cx c (c.a f) = .done w (some e) → 
     exec (.wait cx f) s = .next ((s.collect e).wrote cx c 2 f w)) ∧
  (∀ (s : State) (cx : Cx) (f : Fields) (c : Ctx) (w : Word) (e : Nat), s.Runs cx c → useOne.ok f = true → s.viewTicket cx c (c.a f) = .done w (some e) → 
     exec (.poll cx f) s = .next ((s.collect e).wrote cx c 2 f w)) ∧
  (∀ (s : State) (cx : Cx) (f : Fields) (c : Ctx) (w : Word), s.Runs cx c → useOne.ok f = true → s.viewTicket cx c (c.a f) = .done w none → 
     exec (.wait cx f) s = .next (s.wrote cx c 2 f w) ∧ exec (.poll cx f) s = .next (s.wrote cx c 2 f w)) ∧
  (∀ (s : State) (cx : Cx) (f : Fields) (c : Ctx), s.Runs cx c → useOne.ok f = true → s.viewTicket cx c (c.a f) = .running → 
     exec (.wait cx f) s = .next (s.blockOn cx (c.spend 2) (.wait (c.a f) f.wd.toNat)) ∧ exec (.poll cx f) s = .next (s.wrote cx c 2 f 0)) ∧
  (∀ (s : State) (cx : Cx) (f : Fields) (c : Ctx), s.Runs cx c → useOne.ok f = true → s.viewTicket cx c (c.a f) = .invalid → 
     exec (.wait cx f) s = .next (s.raiseFree cx (c.spend 2) 0x7E 5 (ertenWord 0x49 f)) ∧ exec (.poll cx f) s = .next (s.raiseFree cx (c.spend 2) 0x7E 5 (ertenWord 0x4A f))) ∧
  (∀ (s : State) (cx : Cx) (c : Ctx) (tk w : Word) (wd e : Nat), s.Held cx c (.wait tk wd) → s.viewTicket cx c tk = .done w (some e) → c.kill = none → c.refused = [] → 
     exec (.waitResume cx) s = .next (((s.collect e).putCtx cx { (s.waited c 0 false).setReg wd w with pc := c.pc + 1, block := .none }).wake cx)) ∧
  (∀ (s : State) (cx : Cx) (c : Ctx) (tk w : Word) (wd : Nat), s.Held cx c (.wait tk wd) → s.viewTicket cx c tk = .done w none → c.kill = none → c.refused = [] → 
     exec (.waitResume cx) s = .next ((s.putCtx cx { (s.waited c 0 false).setReg wd w with pc := c.pc + 1, block := .none }).wake cx))

/-- ORDER lets the context go on with its next object access marked; FENCE goes on at once when everything the context issued and stored has completed, else blocks;
ORDER_RELEASE starts the held access, whose cycles count from when it was held (one to the twin leaves for it, and is lost where the pair is not whole), makes the held
store or starts the held ISSUE, and FENCE_RELEASE goes on after the fence, or ends a script whose end waited. -/
def Obligations.Ordering : Prop :=
  (∀ (s : State) (cx : Cx) (f : Fields) (c : Ctx), s.Runs cx c → Use.ok {} f = true → 
     exec (.order cx f) s = .next (s.putCtx cx { c.spend 1 with pc := c.pc + 1, block := .none, order := true })) ∧
  (∀ (s : State) (cx : Cx) (f : Fields) (c : Ctx), s.Runs cx c → Use.ok {} f = true → s.settled cx c = true → 
     exec (.fence cx f) s = .next (s.passed cx c 1)) ∧
  (∀ (s : State) (cx : Cx) (f : Fields) (c : Ctx), s.Runs cx c → Use.ok {} f = true → s.settled cx c = false → 
     exec (.fence cx f) s = .next (s.blockOn cx (c.spend 1) .fence)) ∧
  (∀ (s : State) (cx : Cx) (c : Ctx) (x : Access), s.Held cx c (.heldAccess x) → s.settled cx c = true → s.toTwin x.addr = false → s.madeAtUnit0 { x with lost := false } = false → 
     exec (.orderRelease cx) s = .next (s.blockSince cx { c with order := false } (.access { x with lost := false }) c.since)) ∧
  (∀ (s : State) (cx : Cx) (c : Ctx) (x : Access), s.Held cx c (.heldAccess x) → s.settled cx c = true → s.toTwin x.addr = true → s.pairOk = true → 
     exec (.orderRelease cx) s = .next ((s.blockSince cx { c with order := false } (.access { x with lost := false }) c.since).sendTwin 5 cx x.addr x.instr [accCode x.kind, x.addr.toNat % 2 ^ 39, x.b.toNat, x.c.toNat, c.tenant, ctxCode c.kind] .access)) ∧
  (∀ (s : State) (cx : Cx) (c : Ctx) (x : Access), s.Held cx c (.heldAccess x) → s.settled cx c = true → s.toTwin x.addr = true → s.pairOk = false → s.madeAtUnit0 { x with lost := true } = false → 
     exec (.orderRelease cx) s = .next (s.blockSince cx { c with order := false } (.access { x with lost := true }) c.since)) ∧
  (∀ (s : State) (cx : Cx) (c : Ctx) (a v i : Word) (u t : State) (d : Ctx), s.Held cx c (.heldStore a v i) → s.settled cx c = true → s.toTwin a = false → d = { s.waited c 0 false with pc := c.pc + 1, block := .none, order := false } → u = s.putCtx cx d → u.storeWord (whoOf cx d) a.toNat i v = ((0, 0), t) → t.ctx? cx = some d → c.kill = none → c.refused = [] → 
     exec (.orderRelease cx) s = .next ((t.putCtx cx d).wake cx)) ∧
  (∀ (s : State) (cx : Cx) (c : Ctx) (a i : Word) (wd : Nat) (tw : Option TwinReply) (u : State) (d : Ctx), s.Held cx c (.heldIssue a wd i tw) → s.settled cx c = true → u = s.issueAt cx { c with order := false } a wd i tw → u.ctx? cx = some d → d.block = .none → d.kill = none → d.refused = [] → 
     exec (.orderRelease cx) s = .next ((u.putCtx cx d).wake cx)) ∧
  (∀ (s : State) (cx : Cx) (c : Ctx), s.Held cx c .fence → s.settled cx c = true → c.kill = none → c.refused = [] → 
     exec (.fenceRelease cx) s = .next ((s.putCtx cx { s.waited c 0 false with pc := c.pc + 1, block := .none }).wake cx)) ∧
  (∀ (s : State) (cx : Cx) (c : Ctx) (code sub : Nat), s.Held cx c .ending → c.ended = some (code, sub) → s.settled cx c = true → c.refused = [] → 
     exec (.fenceRelease cx) s = .next (s.finishScript cx c code sub)) ∧
  (∀ (s : State) (cx : Cx) (c : Ctx) (code sub : Nat), s.Held cx c .stopped → c.ended = some (code, sub) → s.settled cx c = true → 
     exec (.fenceRelease cx) s = .next (s.finishScript cx { c with refused := [] } code sub))

/-- NOW writes stage time. WAITUNTIL on a time not after the present writes the lateness and goes on, else blocks, and WAITUNTIL_RESUME moves stage time to the first multiple
of 8 at or after the awaited time and writes the overrun, 0 to 7. YIELD ends a prompter run or gives up the core. TRAP raises FAULT subcause 0x08 with its immediate in
EADDR. -/
def Obligations.TimeAndYield : Prop :=
  (∀ (s : State) (cx : Cx) (f : Fields) (c : Ctx), s.Runs cx c → useWd.ok f = true → 
     exec (.now cx f) s = .next (s.wrote cx c 1 f s.nowW)) ∧
  (∀ (s : State) (cx : Cx) (f : Fields) (c : Ctx), s.Runs cx c → useOne.ok f = true → sdiff (c.a f) s.nowW ≤ 0 → 
     exec (.waitUntil cx f) s = .next (s.wrote cx c 2 f (s.nowW - c.a f))) ∧
  (∀ (s : State) (cx : Cx) (f : Fields) (c : Ctx), s.Runs cx c → useOne.ok f = true → 0 < sdiff (c.a f) s.nowW → 
     exec (.waitUntil cx f) s = .next (s.blockOn cx (c.spend 2) (.untilTime (c.a f) f.wd.toNat))) ∧
  (∀ (s : State) (cx : Cx) (c : Ctx) (tm : Word) (wd : Nat) (u : State), s.Held cx c (.untilTime tm wd) → c.kill = none → c.refused = [] → u = s.advanceTo (cueCycle (s.extOf tm)) → 
     exec (.waitUntilResume cx) s = .next ((u.putCtx cx { (u.waited c 0 false).setReg wd (BitVec.ofNat 40 (cueCycle (s.extOf tm) - s.extOf tm)) with pc := c.pc + 1, block := .none }).wake cx)) ∧
  (∀ (t : Nat), 
     t ≤ cueCycle t ∧ cueCycle t < t + 8 ∧ cueCycle t % 8 = 0) ∧
  (∀ (s : State) (cx : Cx) (f : Fields) (c : Ctx) (z : Nat), s.Runs cx c → Use.ok {} f = true → c.kind = .prompter z → 
     exec (.yield cx f) s = .next ((s.trace cx.core 4 c.pc 0 cx.ctx).putCtx cx { c.spend 1 with pc := c.pc + 1, block := .idle })) ∧
  (∀ (s : State) (cx : Cx) (f : Fields) (c : Ctx), s.Runs cx c → Use.ok {} f = true → c.tree? = none → 
     exec (.yield cx f) s = .next (((s.trace cx.core 4 c.pc 0 cx.ctx).passed cx c 1).switch cx.core cx.ctx)) ∧
  (∀ (s : State) (cx : Cx) (f : Fields) (c : Ctx), s.Runs cx c → useImm.ok f = true → s.dataWord cx 0 ≠ 0 → (s.dataWord cx 0).toNat < 2 ^ 17 → s.dataWord cx 5 = 0 → 
     let u := (s.trace cx.core 6 c.pc (s.dataWord cx 0).toNat cx.ctx).raiseAt cx (c.spend 6) 0x7E 8 f.zext (ertenWord 0x61 f)
    exec (.trap cx f) s = .next u ∧ u.dataWord cx 1 = BitVec.ofNat 40 c.pc ∧ u.dataWord cx 2 = BitVec.ofNat 40 0x87E ∧ u.dataWord cx 3 = BitVec.ofNat 40 f.imm.toNat)

/-- With a non-zero VECTOR within 17 bits and DEPTH 0, raising an exception writes EPC, ECAUSE (code, subcause, and bit 16 for a refused posted store), EADDR and EINSTR, sets
DEPTH to 1, goes to VECTOR with 2 cycles more, and leaves every other word of data memory as it was; the context runs again. -/
def Obligations.ExceptionEntry : Prop :=
  ∀ (s : State) (cx : Cx) (c : Ctx) (code sub epc : Nat) (addr instr : Word) (posted : Bool), s.dataWord cx 0 ≠ 0 → (s.dataWord cx 0).toNat < 2 ^ 17 → s.dataWord cx 5 = 0 → code < 256 → sub < 256 → 
    let t := s.takeException cx c code sub epc addr instr posted
    t.dataWord cx 1 = BitVec.ofNat 40 epc ∧ t.dataWord cx 2 = BitVec.ofNat 40 (code + sub * 256 + (if posted then 65536 else 0)) ∧
      t.dataWord cx 3 = addr ∧ t.dataWord cx 4 = instr ∧ t.dataWord cx 5 = 1 ∧
      (∀ a, 6 ≤ a ∨ a = 0 → t.dataWord cx a = s.dataWord cx a) ∧
      t.ctx? cx = some { c with block := .none, pc := (s.dataWord cx 0).toNat, cycles := c.cycles + 2 }

/-- An ADD or an ORDER with a non-zero immediate raises FAULT subcause 0x01 at the instruction with no register written; a SEAL in a context that is no prompter raises DENIED
subcause 0x01; whatever command is attempted, a fetch outside the image raises FAULT subcause 0x03, of a word with an uncorrectable error subcause 0x07, and of a word of
the image with an undefined opcode subcause 0x01 with that word in EINSTR, none of them with a cycle counted. -/
def Obligations.BadEncodingsFault : Prop :=
  (∀ (s : State) (cx : Cx) (f : Fields) (c : Ctx), s.Runs cx c → f.imm ≠ 0 → 
     exec (.add cx f) s = .next (s.raiseFree cx (c.spend 1) 0x7E 1 (ertenWord 0x01 f)) ∧ exec (.order cx f) s = .next (s.raiseFree cx (c.spend 1) 0x7E 1 (ertenWord 0x4B f))) ∧
  (∀ (s : State) (cx : Cx) (f : Fields) (c : Ctx), s.Runs cx c → useWd.ok f = true → c.tree? = none → 
     exec (.seal cx f) s = .next (s.raiseFree cx (c.spend 6) 0x7F 1 (ertenWord 0x5A f))) ∧
  (∀ (s : State) (cx : Cx) (f : Fields) (c : Ctx) (n : Nat), s.ctx? cx = some c → c.runs = true → s.onCore cx = true → s.fetchFault cx c = some (n, none) → 
     ∀ i ∈ [Instr.add cx f, .ld cx f, .ost cx f, .beq cx f, .fence cx f, .grant cx f, .trap cx f], exec i s = .next (({ s with freeCtr := s.freeCtr + 1 } : State).takeException cx c 0x7E n c.pc (BitVec.ofNat 40 c.pc) (Config.freeWord s.freeCtr) false)) ∧
  (∀ (s : State) (cx : Cx) (f : Fields) (c : Ctx) (n : Nat) (w : Word), s.ctx? cx = some c → c.runs = true → s.onCore cx = true → s.fetchFault cx c = some (n, some w) → 
     ∀ i ∈ [Instr.add cx f, .ld cx f, .ost cx f, .beq cx f, .fence cx f, .grant cx f, .trap cx f], exec i s = .next (({ s with freeCtr := s.freeCtr + 1 } : State).takeException cx c 0x7E n c.pc (Config.freeWord s.freeCtr) w false)) ∧
  (∀ (s : State) (cx : Cx) (c : Ctx) (w : Word), c.pc < c.icount → c.code[c.pc]? = some w → s.cpu.badCode.contains (cxKey cx * 2 ^ 17 + c.pc) = false → 
     (w = 0 → s.fetchFault cx c = some (1, some 0)) ∧ (w.toNat / 2 ^ 33 = 0x14 → s.fetchFault cx c = some (1, some w)) ∧ (w.toNat / 2 ^ 33 = 0x01 → s.fetchFault cx c = none))

/-- A context that does not live, is blocked, has ended or is not the one its core runs executes nothing: an arithmetic, memory, branch or system instruction leaves the whole
state as it is (the model's choice, log 10). -/
def Obligations.BlockedContextsDoNothing : Prop :=
  ∀ (s : State) (cx : Cx) (f : Fields), (∀ c, s.ctx? cx = some c → c.runs = false ∨ s.onCore cx = false) → 
    ∀ i ∈ [Instr.add cx f, .ld cx f, .st cx f, .ost cx f, .beq cx f, .callr cx f, .fence cx f, .yield cx f, .trap cx f], exec i s = .next s

/-- w0 reads as zero and a write of it changes nothing; a write of another register is read back and leaves every other register as it was. -/
def Obligations.RegisterZero : Prop :=
  ∀ (c : Ctx) (n m : Nat) (v : Word), 
    c.reg 0 = 0 ∧ c.setReg 0 v = c ∧ (n ≠ 0 → (c.setReg n v).reg n = v) ∧ (m ≠ n → (c.setReg n v).reg m = c.reg m)

/-- A GRANT or QUIET that no check refuses puts its entry at the end of the open sheet (a QUIET also carries its further parts into later frames) and answers OK with the
number of entries after it; a refused one counts REFUSED and answers the code of the first check that refuses it with the number of entries. Neither changes anything else
of the machine but the register written, the cycles and the program counter. -/
def Obligations.SheetInstructions : Prop :=
  (∀ (s : State) (cx : Cx) (f : Fields) (c : Ctx) (z : Nat), s.Runs cx c → c.tree? = some z → useGrant.ok f = true → s.grantCode z ((c.a f).toNat % 4096) (s.grantEntry z ((c.a f).toNat % 4096) (c.b f).toNat (c.c3 f).toNat f.imm13) = 0 → 
     exec (.grant cx f) s = .next ((s.modTree z (fun tr => { tr with sheet := tr.sheet ++ [(s.grantEntry z ((c.a f).toNat % 4096) (c.b f).toNat (c.c3 f).toNat f.imm13)] })).putCtx cx { (c.spend 4).setReg f.wd.toNat (cword 0 ((s.entries z).length + 1)) with pc := c.pc + 1, block := .none })) ∧
  (∀ (s : State) (cx : Cx) (f : Fields) (c : Ctx) (z : Nat), s.Runs cx c → c.tree? = some z → useGrant.ok f = true → s.grantCode z ((c.a f).toNat % 4096) (s.grantEntry z ((c.a f).toNat % 4096) (c.b f).toNat (c.c3 f).toNat f.imm13) ≠ 0 → 
     exec (.grant cx f) s = .next ((s.addTo Reg.Cue.REFUSED [z] 1).putCtx cx { (c.spend 4).setReg f.wd.toNat (cword (s.grantCode z ((c.a f).toNat % 4096) (s.grantEntry z ((c.a f).toNat % 4096) (c.b f).toNat (c.c3 f).toNat f.imm13)) (s.entries z).length) with pc := c.pc + 1, block := .none })) ∧
  (∀ (s : State) (cx : Cx) (f : Fields) (c : Ctx) (z : Nat), s.Runs cx c → c.tree? = some z → useQuiet.ok f = true → s.quietCode z (f.imm13 % 4) (if f.imm13 % 4 = 1 then (c.c3 f).toNat % 1024 else 0x3FF) (c.a f).toNat (c.b f).toNat = 0 → 
     exec (.quiet cx f) s = .next ((s.placeQuiet z (f.imm13 % 4) (if f.imm13 % 4 = 1 then (c.c3 f).toNat % 1024 else 0x3FF) (c.a f).toNat (c.b f).toNat).putCtx cx { (c.spend 4).setReg f.wd.toNat (cword 0 ((s.entries z).length + 1)) with pc := c.pc + 1, block := .none })) ∧
  (∀ (s : State) (cx : Cx) (f : Fields) (c : Ctx) (z : Nat), s.Runs cx c → c.tree? = some z → useQuiet.ok f = true → s.quietCode z (f.imm13 % 4) (if f.imm13 % 4 = 1 then (c.c3 f).toNat % 1024 else 0x3FF) (c.a f).toNat (c.b f).toNat ≠ 0 → 
     exec (.quiet cx f) s = .next ((s.addTo Reg.Cue.REFUSED [z] 1).putCtx cx { (c.spend 4).setReg f.wd.toNat (cword (s.quietCode z (f.imm13 % 4) (if f.imm13 % 4 = 1 then (c.c3 f).toNat % 1024 else 0x3FF) (c.a f).toNat (c.b f).toNat) (s.entries z).length) with pc := c.pc + 1, block := .none })) ∧
  (∀ (s : State) (z k t start len : Nat), 
     ((s.placeQuiet z k t start len).tree z).sheet = (s.tree z).sheet ++ [partEntry (quietKind k) t start (min len (s.unitsPerFrame z - start)) (len - min len (s.unitsPerFrame z - start))] ∧ (s.placeQuiet z k t start len).regs = s.regs ∧ ((s.placeQuiet z k t start len).tree z).standing = (s.tree z).standing)

/-- The first SEAL of a run seals the open sheet, notes whether the deadline has passed and its cycle, and returns the sheet ticket; a further SEAL returns the same ticket
and does nothing else. A STANDING add that no check refuses appends its entry, one of an entry that stands changes nothing and answers OK, a refused one counts REFUSED
and answers its code; a removal marks the entry as gone from this frame on, one of an absent entry answers NOT_FOUND; in a shadow run STANDING answers OK and changes
nothing. REPORT.GET writes the digest word of the allocation. Nothing else of the machine changes. -/
def Obligations.SealStandingReport : Prop :=
  (∀ (s : State) (cx : Cx) (f : Fields) (c : Ctx) (z : Nat), s.Runs cx c → c.tree? = some z → useWd.ok f = true → (s.tree z).sealed = false → 
     exec (.seal cx f) s = .next ((((s.wr Reg.Cue.SEAL_CYCLE [z] (min (c.cycles + 6) 0xFFFFE)).wr Reg.Cue.SEAL_MAX [z] (max (min (c.cycles + 6) 0xFFFFE) (s.rd Reg.Cue.SEAL_MAX [z]))).modTree z (fun tr => { tr with sealed := true, late := s.sheetLate z })).putCtx cx { (c.spend 6).setReg f.wd.toNat (sheetTicketWord cx.core (s.rd Reg.Cue.FRAME [z])) with pc := c.pc + 1, block := .none })) ∧
  (∀ (s : State) (cx : Cx) (f : Fields) (c : Ctx) (z : Nat), s.Runs cx c → c.tree? = some z → useWd.ok f = true → (s.tree z).sealed = true → 
     exec (.seal cx f) s = .next (s.putCtx cx { (c.spend 6).setReg f.wd.toNat (sheetTicketWord cx.core (s.rd Reg.Cue.FRAME [z])) with pc := c.pc + 1, block := .none })) ∧
  (∀ (s : State) (cx : Cx) (f : Fields) (c : Ctx) (z : Nat), s.Runs cx c → c.tree? = some z → useStanding.ok f = true → s.understudy z = false → f.imm13.testBit 8 = false → s.standingCode z (standingOf f c (s.rd Reg.Cue.FRAME [z])) = 0 → (s.tree z).standing.any (fun o => o.alloc == (c.a f).toNat % 4096 && o.start == (c.b f).toNat) = false → 
     exec (.standing cx f) s = .next (((s.modTree z (fun tr => { tr with standing := tr.standing ++ [(standingOf f c (s.rd Reg.Cue.FRAME [z]))] })).tellStanding z (standingOf f c (s.rd Reg.Cue.FRAME [z])) false).putCtx cx { (c.spend 8).setReg f.wd.toNat (cword 0 (s.entries z).length) with pc := c.pc + 1, block := .none })) ∧
  (∀ (s : State) (cx : Cx) (f : Fields) (c : Ctx) (z : Nat), s.Runs cx c → c.tree? = some z → useStanding.ok f = true → s.understudy z = false → f.imm13.testBit 8 = false → s.standingCode z (standingOf f c (s.rd Reg.Cue.FRAME [z])) = 0 → (s.tree z).standing.any (fun o => o.alloc == (c.a f).toNat % 4096 && o.start == (c.b f).toNat) = true → 
     exec (.standing cx f) s = .next (s.putCtx cx { (c.spend 8).setReg f.wd.toNat (cword 0 (s.entries z).length) with pc := c.pc + 1, block := .none })) ∧
  (∀ (s : State) (cx : Cx) (f : Fields) (c : Ctx) (z : Nat), s.Runs cx c → c.tree? = some z → useStanding.ok f = true → s.understudy z = false → f.imm13.testBit 8 = false → s.standingCode z (standingOf f c (s.rd Reg.Cue.FRAME [z])) ≠ 0 → 
     exec (.standing cx f) s = .next ((s.addTo Reg.Cue.REFUSED [z] 1).putCtx cx { (c.spend 8).setReg f.wd.toNat (cword (s.standingCode z (standingOf f c (s.rd Reg.Cue.FRAME [z]))) (s.entries z).length) with pc := c.pc + 1, block := .none })) ∧
  (∀ (s : State) (cx : Cx) (f : Fields) (c : Ctx) (z : Nat), s.Runs cx c → c.tree? = some z → useStanding.ok f = true → s.understudy z = false → f.imm13.testBit 8 = true → (s.tree z).standing.any (fun o => o.alloc == (c.a f).toNat % 4096 && o.start == (c.b f).toNat) = true → 
     exec (.standing cx f) s = .next (((s.modTree z (fun tr => { tr with standing := tr.standing.map (fun o => if o.alloc == (c.a f).toNat % 4096 && o.start == (c.b f).toNat && o.gone.isNone then { o with gone := some (s.rd Reg.Cue.FRAME [z]) } else o) })).tellStanding z (standingOf f c (s.rd Reg.Cue.FRAME [z])) true).putCtx cx { (c.spend 8).setReg f.wd.toNat (cword 0 (s.entries z).length) with pc := c.pc + 1, block := .none })) ∧
  (∀ (s : State) (cx : Cx) (f : Fields) (c : Ctx) (z : Nat), s.Runs cx c → c.tree? = some z → useStanding.ok f = true → s.understudy z = false → f.imm13.testBit 8 = true → (s.tree z).standing.any (fun o => o.alloc == (c.a f).toNat % 4096 && o.start == (c.b f).toNat) = false → 
     exec (.standing cx f) s = .next ((s.addTo Reg.Cue.REFUSED [z] 1).putCtx cx { (c.spend 8).setReg f.wd.toNat (cword 0x32 (s.entries z).length) with pc := c.pc + 1, block := .none })) ∧
  (∀ (s : State) (cx : Cx) (f : Fields) (c : Ctx) (z : Nat), s.Runs cx c → c.tree? = some z → useStanding.ok f = true → s.understudy z = true → 
     exec (.standing cx f) s = .next (s.putCtx cx { (c.spend 8).setReg f.wd.toNat (cword 0 (s.entries z).length) with pc := c.pc + 1, block := .none })) ∧
  (∀ (s : State) (cx : Cx) (f : Fields) (c : Ctx) (z : Nat), s.Runs cx c → c.tree? = some z → useOne.ok f = true → 
     exec (.reportGet cx f) s = .next (s.wrote cx c 3 f (BitVec.ofNat 40 (s.rd Reg.Cue.DIGEST [z, (c.a f).toNat % 4096]))))

/-- The oldest refusal of a context that runs is taken at once, with EPC the instruction not yet executed, the refused store in EINSTR and EADDR, and the posted bit; a
blocked context keeps it until its blocking instruction completes; one at the final fence of a script takes it there, but for one that is to be stopped, which stops; a
script that was stopped takes none. -/
def Obligations.RefusedStores : Prop :=
  (∀ (s : State) (cx : Cx) (c : Ctx) (r : Refused) (rest : List Refused), s.Held cx c .none → c.refused = r :: rest → 
     exec (.refusedStoreException cx none) s = .next (s.takeException cx { c with refused := rest } r.code r.sub c.pc r.addr r.instr true)) ∧
  (∀ (s : State) (cx : Cx) (c : Ctx) (r : Refused) (rest : List Refused), s.Held cx c .fence → c.refused = r :: rest → 
     exec (.refusedStoreException cx none) s = .next (s.putCtx cx { c with refused := rest ++ [{ r with returned := true }] })) ∧
  (∀ (s : State) (cx : Cx) (c : Ctx) (r : Refused) (rest : List Refused) (code sub : Nat), s.Held cx c .ending → c.refused = r :: rest → c.kill = some (code, sub) → 
     exec (.refusedStoreException cx none) s = .next (s.stopScript cx { c with refused := rest } code sub)) ∧
  (∀ (s : State) (cx : Cx) (c : Ctx) (r : Refused) (rest : List Refused), s.Held cx c .ending → c.refused = r :: rest → c.kill = none → 
     exec (.refusedStoreException cx none) s = .next ((s.takeException cx { c with refused := rest, ended := none, block := .none } r.code r.sub c.pc r.addr r.instr true).wake cx)) ∧
  (∀ (s : State) (cx : Cx) (c : Ctx) (r : Refused) (rest : List Refused), s.Held cx c .stopped → c.refused = r :: rest → 
     exec (.refusedStoreException cx none) s = .next (s.putCtx cx { c with refused := rest }))

/-- When the operation of a held ticket completes, the entry holds the completion word with the code in [7:0], DONE in [8] and the result above, every other entry, every
register and every context stays; the completion of a ticket whose context has ended frees the entry. -/
def Obligations.TicketsComplete : Prop :=
  (∀ (o : Op) (u : State) (t : Tix) (code result : Nat), o.e ≤ 4096 → u.cpu.tickets.get? o.e = some t → t.gen = o.g → t.orphan = false → code < 256 → 
     let v := o.done code result u
    v.cpu.tickets.get? o.e = some { t with st := .done (cplWord code result) } ∧ (cplWord code result).toNat % 256 = code ∧ (cplWord code result).getLsbD 8 = true ∧
      (cplWord code result).toNat / 512 = result % 2 ^ 31 ∧ (∀ e, e ≠ o.e → v.cpu.tickets.get? e = u.cpu.tickets.get? e) ∧ v.regs = u.regs ∧ v.cpu.ctxs = u.cpu.ctxs ∧ v.pending = u.pending) ∧
  (∀ (o : Op) (u : State) (t : Tix) (code result : Nat), o.e ≤ 4096 → u.cpu.tickets.get? o.e = some t → t.gen = o.g → t.orphan = true → 
     o.done code result u = u.freeTicket o.e)

/-- An ISSUE of a table descriptor starts its operation with a new ticket in wd. On a unit that is not paired, an insert that the insert engine takes completes OK with the
handle, in the state the engine leaves; a delete removes the entry its handle or key names and completes OK with its handle, or completes NOT_FOUND, or, where the entry's
parity turns out to be wrong, completes TABLE_PARITY with the entry disabled; on unit 1 of a pair the operations on what the pair shares leave for unit 0; a read writes
the three words of the entry at DEST and completes OK with their widths; a well-formed operation on the twin while the pair is not whole completes FAULT subcause 0x04. -/
def Obligations.TableOperations : Prop :=
  (∀ (s : State) (cx : Cx) (f : Fields) (c : Ctx) (ws : List Word) (tw : Option TwinReply), s.Issues cx c f ws → dbits ws 0 0 8 = 0x01 → 
     exec (.tableInsert cx f tw) s = .next (((s.opOf cx c f ws tw).start (s.opState cx c ws f)).takeReturned cx)) ∧
  (∀ (s : State) (cx : Cx) (f : Fields) (c : Ctx) (ws : List Word) (tw : Option TwinReply), s.Issues cx c f ws → dbits ws 0 0 8 = 0x02 → 
     exec (.tableDelete cx f tw) s = .next (((s.opOf cx c f ws tw).start (s.opState cx c ws f)).takeReturned cx)) ∧
  (∀ (s : State) (cx : Cx) (f : Fields) (c : Ctx) (ws : List Word) (tw : Option TwinReply), s.Issues cx c f ws → dbits ws 0 0 8 = 0x03 → 
     exec (.tableRead cx f tw) s = .next (((s.opOf cx c f ws tw).start (s.opState cx c ws f)).takeReturned cx)) ∧
  (∀ (s : State) (cx : Cx) (f : Fields) (c : Ctx) (ws : List Word) (tw : Option TwinReply), s.Starts cx c f ws 0x01 → s.pairing = 0 → dword ws 1 = fwdTable → dbits ws 2 0 4 = 2 → dbits ws 2 4 4 = 1 → (s.tableInsert (whoOf cx c).tenant (dword ws 3) (dword ws 4) (dword ws 5)).1 = 0 → 
     let o := s.opOf cx c f ws tw
    let u := s.opState cx c ws f
    exec (.tableInsert cx f tw) s = .next (State.takeReturned (o.done 0 (u.tableInsert o.w.tenant (dword ws 3) (dword ws 4) (dword ws 5)).2.1 (u.tableInsert o.w.tenant (dword ws 3) (dword ws 4) (dword ws 5)).2.2) cx)) ∧
  (∀ (s : State) (cx : Cx) (f : Fields) (c : Ctx) (ws : List Word) (tw : Option TwinReply) (h : Nat) (e : FEnt), s.Starts cx c f ws 0x02 → s.pairing = 0 → dword ws 1 = fwdTable → dbits ws 0 14 1 = 0 → s.entAt (dword ws 2) = some (h, e) → (whoOf cx c).tenant = 0 ∨ e.tenant = (whoOf cx c).tenant → e.parity = false → e.struck = false → 
     let o := s.opOf cx c f ws tw
    let u := s.opState cx c ws f
    exec (.tableDelete cx f tw) s = .next (State.takeReturned (o.done 0 (handleOf h e) (u.dropEnt h)) cx)) ∧
  (∀ (s : State) (cx : Cx) (f : Fields) (c : Ctx) (ws : List Word) (tw : Option TwinReply) (h : Nat) (e : FEnt), s.Starts cx c f ws 0x02 → s.pairing = 0 → dword ws 1 = fwdTable → dbits ws 0 14 1 = 1 → dbits ws 2 0 4 = 2 → fwdKeyOk (dword ws 3) (dword ws 4) = true → (∀ x ∈ s.fwd.table, x.2.struck = false) → s.entOf (dword ws 3 % 2 ^ 18) (fwdMac (dword ws 3) (dword ws 4)) = some (h, e) → (whoOf cx c).tenant = 0 ∨ e.tenant = (whoOf cx c).tenant → 
     let o := s.opOf cx c f ws tw
    let u := s.opState cx c ws f
    exec (.tableDelete cx f tw) s = .next (State.takeReturned (o.done 0 (handleOf h e) (u.dropEnt h)) cx)) ∧
  (∀ (s : State) (cx : Cx) (f : Fields) (c : Ctx) (ws : List Word) (tw : Option TwinReply) (h : Nat) (e : FEnt), s.Starts cx c f ws 0x03 → dword ws 1 = fwdTable → dword ws 3 + 3 ≤ c.dwords → s.entAt (dword ws 2) = some (h, e) → (whoOf cx c).tenant = 0 ∨ e.tenant = (whoOf cx c).tenant → e.parity = false → e.struck = false → 
     let o := s.opOf cx c f ws tw
    let u := s.opState cx c ws f
    exec (.tableRead cx f tw) s = .next (State.takeReturned (o.done 0 18 (u.putWords cx (dword ws 3) [BitVec.ofNat 40 (fwdKey0 e.svc e.mac), BitVec.ofNat 40 (e.mac % 2 ^ 32), BitVec.ofNat 40 e.data])) cx)) ∧
  (∀ (o : Op) (u : State) (code r : Nat) (t : State), o.Plain 0x01 u → o.table u = none → dbits o.ws 2 0 4 = 2 → dbits o.ws 2 4 4 = 1 → u.pairing = 0 → u.tableInsert o.w.tenant (dword o.ws 3) (dword o.ws 4) (dword o.ws 5) = (code, r, t) → code ≠ 0x7F → 
     o.start u = o.done code r t) ∧
  (∀ (o : Op) (u : State) (h : Nat) (e : FEnt), o.Plain 0x02 u → o.table u = none → dbits o.ws 0 14 1 = 0 → u.pairing = 0 → u.entAt (dword o.ws 2) = some (h, e) → o.w.tenant = 0 ∨ e.tenant = o.w.tenant → e.parity = false → e.struck = false → 
     o.start u = o.done 0 (handleOf h e) (u.dropEnt h)) ∧
  (∀ (o : Op) (u : State) (h : Nat) (e : FEnt), o.Plain 0x02 u → o.table u = none → dbits o.ws 0 14 1 = 0 → u.pairing = 0 → u.entAt (dword o.ws 2) = some (h, e) → o.w.tenant = 0 ∨ e.tenant = o.w.tenant → e.parity = false → e.struck = true → 
     o.start u = o.done 0x31 0 (u.entParity h e)) ∧
  (∀ (o : Op) (u : State), o.Plain 0x02 u → o.table u = none → dbits o.ws 0 14 1 = 0 → u.pairing = 0 → u.entAt (dword o.ws 2) = none → 
     o.start u = o.done 0x32 0 u) ∧
  (∀ (o : Op) (u : State) (h : Nat) (e : FEnt) (t : State), o.Plain 0x03 u → o.table u = none → o.c.covers (dword o.ws 3) 3 = true → u.entAt (dword o.ws 2) = some (h, e) → o.w.tenant = 0 ∨ e.tenant = o.w.tenant → e.parity = false → e.struck = false → u.writeLocals o.cx o.c (dword o.ws 3) [BitVec.ofNat 40 (fwdKey0 e.svc e.mac), BitVec.ofNat 40 (e.mac % 2 ^ 32), BitVec.ofNat 40 e.data] = (none, t) → 
     o.start u = o.done 0 18 t) ∧
  (∀ (o : Op) (u : State), layoutOk (dbits o.ws 0 0 8) o.ws = true → o.c.tree? = none → o.onTwin (dbits o.ws 0 0 8) u = false → dbits o.ws 0 0 8 ∈ [0x01, 0x02, 0x10, 0x11] → u.issuesAtUnit0 (dbits o.ws 0 0 8) = true → 
     o.start u = o.ask 4 [] (.answer o.e o.g none none) u) ∧
  (∀ (o : Op) (u : State), layoutOk (dbits o.ws 0 0 8) o.ws = true → o.c.tree? = none → o.onTwin (dbits o.ws 0 0 8) u = true → dbits o.ws 0 0 8 ≠ 0x03 → u.pairOk = false → 
     o.start u = o.done 0x7E 4 u)

/-- On a unit that is not paired, and on unit 0 of a pair that is whole, whose twin learns of it, a KEY.WRITE that its checks pass unwraps the key, completes AUTH_FAILED
where that fails, and else reaches its slot; a KEY.ERASE reaches its slot; in a pair that is apart both complete FAULT subcause 4. At INFLIGHT 0 a pending swap makes the
shadow bank active with its full space, and an erase zeroes both banks; either completes the ticket that waits for it. -/
def Obligations.KeyOperations : Prop :=
  (∀ (s : State) (cx : Cx) (f : Fields) (c : Ctx) (ws : List Word) (tw : Option TwinReply), s.Issues cx c f ws → dbits ws 0 0 8 = 0x10 → 
     exec (.keyWrite cx f tw) s = .next (((s.opOf cx c f ws tw).start (s.opState cx c ws f)).takeReturned cx)) ∧
  (∀ (s : State) (cx : Cx) (f : Fields) (c : Ctx) (ws : List Word) (tw : Option TwinReply), s.Issues cx c f ws → dbits ws 0 0 8 = 0x11 → 
     exec (.keyErase cx f tw) s = .next (((s.opOf cx c f ws tw).start (s.opState cx c ws f)).takeReturned cx)) ∧
  (∀ (s : State) (cx : Cx) (f : Fields) (c : Ctx) (ws : List Word) (tw : Option TwinReply) (n k : Nat), s.Starts cx c f ws 0x10 → s.pairing = 0 ∨ (s.pairOk = true ∧ s.env.unit = 0) → s.toTwin (ws.getD 1 0) = false → keySlotAt (dword ws 1) = some n → (s.opOf cx c f ws tw).keyAuthority n s = none → dbits ws 2 0 18 ≤ 147455 → (bankOf ws).fits n = true → s.wrappingKey n = some k → 
     let o := s.opOf cx c f ws tw
    let u := s.opState cx c ws f
    let v := if u.pairing = 0 then u else u.sendTwin 4 cx (ws.getD 1 0) 0 (0x10 :: n :: (ws.drop 2).map BitVec.toNat) (.key n o.e o.g)
    exec (.keyWrite cx f tw) s = .next (State.takeReturned (match Config.unwrap k (wrappedBytes ws (if (bankOf ws).k256 then 40 else 24)) with
      | none => v.finishTicket o.e o.g (cword 0x22 0)
      | some key => v.keyOp n (.write { bankOf ws with key := key }) o.e o.g (if dbits ws 0 14 1 = 1 then .swapped else .placed)) cx)) ∧
  (∀ (s : State) (cx : Cx) (f : Fields) (c : Ctx) (ws : List Word) (tw : Option TwinReply) (n : Nat), s.Starts cx c f ws 0x11 → s.pairing = 0 ∨ (s.pairOk = true ∧ s.env.unit = 0) → s.toTwin (ws.getD 1 0) = false → keySlotAt (dword ws 1) = some n → (s.opOf cx c f ws tw).keyAuthority n s = none → 
     let o := s.opOf cx c f ws tw
    let u := s.opState cx c ws f
    let v := if u.pairing = 0 then u else u.sendTwin 4 cx (ws.getD 1 0) 0 [0x11, n] (.key n o.e o.g)
    exec (.keyErase cx f tw) s = .next (State.takeReturned (v.keyOp n .erase o.e o.g .erased) cx)) ∧
  (∀ (o : Op) (u : State) (n k : Nat), o.Plain 0x10 u → keySlotAt (dword o.ws 1) = some n → o.keyAuthority n u = none → dbits o.ws 2 0 18 ≤ 147455 → u.pairing = 0 ∨ (u.pairOk = true ∧ u.env.unit = 0) → (bankOf o.ws).fits n = true → u.wrappingKey n = some k → 
     let v := if u.pairing = 0 then u else u.sendTwin 4 o.cx (o.ws.getD 1 0) 0 (0x10 :: n :: (o.ws.drop 2).map BitVec.toNat) (.key n o.e o.g)
    o.start u = match Config.unwrap k (wrappedBytes o.ws (if (bankOf o.ws).k256 then 40 else 24)) with
      | none => v.finishTicket o.e o.g (cword 0x22 0)
      | some key => v.keyOp n (.write { bankOf o.ws with key := key }) o.e o.g (if dbits o.ws 0 14 1 = 1 then .swapped else .placed)) ∧
  (∀ (o : Op) (u : State) (n : Nat), o.Plain 0x11 u → keySlotAt (dword o.ws 1) = some n → o.keyAuthority n u = none → u.pairing = 0 ∨ (u.pairOk = true ∧ u.env.unit = 0) → 
     let v := if u.pairing = 0 then u else u.sendTwin 4 o.cx (o.ws.getD 1 0) 0 [0x11, n] (.key n o.e o.g)
    o.start u = v.keyOp n .erase o.e o.g .erased) ∧
  (∀ (o : Op) (u : State) (n : Nat), o.Plain 0x10 u → keySlotAt (dword o.ws 1) = some n → o.keyAuthority n u = none → dbits o.ws 2 0 18 ≤ 147455 → u.pairing ≠ 0 → u.pairOk = false → (bankOf o.ws).fits n = true → (u.wrappingKey n).isSome = true → 
     o.start u = u.finishTicket o.e o.g (cword 0x7E 4)) ∧
  (∀ (o : Op) (u : State) (n : Nat), o.Plain 0x11 u → keySlotAt (dword o.ws 1) = some n → o.keyAuthority n u = none → u.pairing ≠ 0 → u.pairOk = false → 
     o.start u = u.finishTicket o.e o.g (cword 0x7E 4)) ∧
  (∀ (s : State) (n : Nat) (b : Bank), n < 147456 → s.flag Reg.Key.SWAP_PEND [n] = true → s.rd Reg.Key.INFLIGHT [n] = 0 → (s.slot n).shadow = some b → (∀ r ∈ s.cipher.held, r.slot ≠ n) → s.cipher.waiting = [] → b.mode < 16 → 
     ∃ t, exec (.keySwap n) s = .next t ∧ t.rd Reg.Key.MODE [n] = b.mode ∧ t.rd Reg.Key.STATE [n] = 1 ∧ t.flag Reg.Key.SWAP_PEND [n] = false ∧ t.rd Reg.Key.KEYIDX [n] = b.keyIdx % 256 ∧ (t.slot n).key = b.key ∧ (t.slot n).shadow = none ∧ (t.slot n).rem = keySpace b.mode ∧ t.cipher.bound = s.cipher.bound ∧ (∀ m, m ≠ n → t.slot m = s.slot m)) ∧
  (∀ (s : State) (n e g : Nat) (b : Bank) (x : Tix), n < 147456 → s.flag Reg.Key.SWAP_PEND [n] = true → s.rd Reg.Key.INFLIGHT [n] = 0 → (s.slot n).shadow = some b → (s.slot n).tix = [⟨e, g, .swapped, 1, 0⟩] → s.cipher.held = [] → s.cipher.waiting = [] → s.pairing = 0 → e ≤ 4096 → s.cpu.tickets.get? e = some x → x.gen = g → x.orphan = false → 
     ∃ t, exec (.keySwap n) s = .next t ∧ t.cpu.tickets.get? e = some { x with st := .done (cword 0 0) } ∧ (t.slot n).tix = []) ∧
  (∀ (s : State) (n e g : Nat) (x : Tix), n < 147456 → s.flag Reg.Key.SWAP_PEND [n] = false → s.rd Reg.Key.INFLIGHT [n] = 0 → (s.slot n).ops = [.erase] → (s.slot n).tix = [⟨e, g, .erased, 0, 0⟩] → s.pairing = 0 → e ≤ 4096 → s.cpu.tickets.get? e = some x → x.gen = g → x.orphan = false → 
     ∃ t, exec (.keyEraseDone n) s = .next t ∧ t.rd Reg.Key.MODE [n] = 0 ∧ t.rd Reg.Key.STATE [n] = 0 ∧ t.rd Reg.Key.REMAIN [n] = 0 ∧ (t.slot n).key = 0 ∧ (t.slot n).shadow = none ∧ (t.slot n).ops = [] ∧ t.cpu.tickets.get? e = some { x with st := .done (cword 0 0) } ∧ (∀ m, m ≠ n → t.slot m = s.slot m))

/-- A MEM.COPY within a context's data memory puts every word of the source, as it stood, at its place in the destination, touches no other word of any memory and completes
OK with the words copied; one whose ends pass their checks on this unit copies word by word, from the last word down where the ranges overlap upward, and completes with
the words copied or with the refusal that stopped it and the blocks of 32 words copied, units of memory it covers whole being good again; one whose first or last
destination word would be refused copies nothing; a COUNT of 0 is denied. A PB.QUERY writes the records that match at DEST and completes OK with their count and marks. -/
def Obligations.CopyAndQuery : Prop :=
  (∀ (s : State) (cx : Cx) (f : Fields) (c : Ctx) (ws : List Word) (tw : Option TwinReply), s.Issues cx c f ws → dbits ws 0 0 8 = 0x20 → 
     exec (.memCopy cx f tw) s = .next (((s.opOf cx c f ws tw).start (s.opState cx c ws f)).takeReturned cx)) ∧
  (∀ (s : State) (cx : Cx) (f : Fields) (c : Ctx) (ws : List Word) (tw : Option TwinReply), s.Issues cx c f ws → dbits ws 0 0 8 = 0x21 → 
     exec (.pbQuery cx f tw) s = .next (((s.opOf cx c f ws tw).start (s.opState cx c ws f)).takeReturned cx)) ∧
  (∀ (s : State) (cx : Cx) (f : Fields) (c : Ctx) (ws : List Word) (tw : Option TwinReply), s.Starts cx c f ws 0x20 → dword ws 3 ≠ 0 → dbits ws 0 14 1 = 1 → dbits ws 0 15 1 = 1 → dword ws 1 + dword ws 3 ≤ c.dwords → dword ws 2 + dword ws 3 ≤ c.dwords → (∀ i < dword ws 3, s.cpu.badData.contains (memBase cx + (dword ws 1 + i)) = false) → c.refused = [] → 
     ∃ t, exec (.memCopy cx f tw) s = .next t ∧ t.cpu.tickets = ((s.opOf cx c f ws tw).done 0 (dword ws 3) (s.opState cx c ws f)).cpu.tickets ∧ t.ctx? cx = some (s.opCtx cx c ws f) ∧ t.regs = (s.opState cx c ws f).regs ∧
      (∀ i < dword ws 3, t.dataWord cx (dword ws 2 + i) = s.dataWord cx (dword ws 1 + i)) ∧
      (∀ a, (a < memBase cx + dword ws 2 ∨ memBase cx + dword ws 2 + dword ws 3 ≤ a) → t.cpu.mem.get a = s.cpu.mem.get a)) ∧
  (∀ (s : State) (cx : Cx) (f : Fields) (c : Ctx) (ws : List Word) (tw : Option TwinReply), s.Starts cx c f ws 0x21 → dbits ws 1 14 10 ≤ 1019 ∨ dbits ws 1 14 10 = 0x3FF → s.flag Reg.Mem.MEM_OPEN [] = true → dword ws 4 + max 1 (s.pbQuery (queryOf ws) (whoOf cx c).tenant).1.length ≤ c.dwords → 
     let o := s.opOf cx c f ws tw
    let u := s.opState cx c ws f
    exec (.pbQuery cx f tw) s = .next (State.takeReturned (o.done 0 (u.pbQuery (queryOf ws) o.w.tenant).2.1 ((u.pbQuery (queryOf ws) o.w.tenant).2.2.putWords cx (dword ws 4) (u.pbQuery (queryOf ws) o.w.tenant).1)) cx)) ∧
  (∀ (o : Op) (u : State), dbits o.ws 0 0 8 = 0x20 → layoutOk 0x20 o.ws = true → dword o.ws 3 ≠ 0 → dbits o.ws 0 14 1 = 1 → dbits o.ws 0 15 1 = 1 → o.c.covers (dword o.ws 1) (dword o.ws 3) = true → o.c.covers (dword o.ws 2) (dword o.ws 3) = true → 
     let is := o.order true true (dword o.ws 1) (dword o.ws 2) (dword o.ws 3) u
    o.start u = match o.copyWords true true (dword o.ws 1) (dword o.ws 2) is u with
      | (none, k, t) => o.doneBoth u 0 k (o.healed true (dword o.ws 2) is t)
      | (some x, k, t) => o.done x.1 (copyResult x.2 k) (o.healed true (dword o.ws 2) (is.take k) t)) ∧
  (∀ (o : Op) (u : State), o.Plain 0x20 u → dword o.ws 3 ≠ 0 → dbits o.ws 0 14 1 = 0 → dbits o.ws 0 15 1 = 1 → u.toTwin (BitVec.ofNat 40 (dword o.ws 1)) = false → o.c.covers (dword o.ws 2) (dword o.ws 3) = true → firstSub (o.sourceChecks (dword o.ws 1) (dword o.ws 3) u) = none → 
     let is := o.order false true (dword o.ws 1) (dword o.ws 2) (dword o.ws 3) u
    o.start u = match o.copyWords false true (dword o.ws 1) (dword o.ws 2) is u with
      | (none, k, t) => o.doneBoth u 0 k (o.healed true (dword o.ws 2) is t)
      | (some x, k, t) => o.done x.1 (copyResult x.2 k) (o.healed true (dword o.ws 2) (is.take k) t)) ∧
  (∀ (o : Op) (u : State), o.Plain 0x20 u → dword o.ws 3 ≠ 0 → dbits o.ws 0 14 1 = 1 → dbits o.ws 0 15 1 = 0 → u.toTwin (BitVec.ofNat 40 (dword o.ws 2)) = false → o.c.covers (dword o.ws 1) (dword o.ws 3) = true → firstSub (o.destChecks (dword o.ws 2) (dword o.ws 3) (fun i => o.peek true (dword o.ws 1 + i) u) u) = none → 
     let is := o.order true false (dword o.ws 1) (dword o.ws 2) (dword o.ws 3) u
    o.start u = match o.copyWords true false (dword o.ws 1) (dword o.ws 2) is u with
      | (none, k, t) => o.doneBoth u 0 k (o.healed false (dword o.ws 2) is t)
      | (some x, k, t) => o.done x.1 (copyResult x.2 k) (o.healed false (dword o.ws 2) (is.take k) t)) ∧
  (∀ (o : Op) (u : State) (sub : Nat), o.Plain 0x20 u → dword o.ws 3 ≠ 0 → dbits o.ws 0 14 1 = 1 → dbits o.ws 0 15 1 = 0 → u.toTwin (BitVec.ofNat 40 (dword o.ws 2)) = false → o.c.covers (dword o.ws 1) (dword o.ws 3) = true → firstSub (o.destChecks (dword o.ws 2) (dword o.ws 3) (fun i => o.peek true (dword o.ws 1 + i) u) u) = some (0x7F, sub) → 
     o.start u = o.denied sub (dword o.ws 2) u) ∧
  (∀ (o : Op) (a b n : Nat) (u : State), 0 < n → a + n ≤ o.c.dwords → b + n ≤ o.c.dwords → 
     o.order true true a b n u = if a < b ∧ b < a + n then (List.range n).reverse else List.range n) ∧
  (∀ (o : Op) (u : State), o.Plain 0x20 u → dword o.ws 3 = 0 → dbits o.ws 0 14 1 = 1 → dbits o.ws 0 15 1 = 1 → 
     o.start u = o.denied 6 (dword o.ws 2) u) ∧
  (∀ (o : Op) (u : State) (vs : List Word) (r : Nat) (v t : State), o.Plain 0x21 u → dbits o.ws 1 14 10 ≤ 1019 ∨ dbits o.ws 1 14 10 = 0x3FF → u.flag Reg.Mem.MEM_OPEN [] = true → u.pbQuery (queryOf o.ws) o.w.tenant = (vs, r, v) → o.c.covers (dword o.ws 4) (max 1 vs.length) = true → v.writeLocals o.cx o.c (dword o.ws 4) vs = (none, t) → o.w.kind = .script ∨ o.w.kind = .system → 
     o.start u = o.done 0 r t)

/-- BUF.FREE by the owner of a buffer with one share frees it; by another context it completes FREE_NOT_OWNER, of a buffer with more shares FREE_SHARED, of a stale reference
FREE_DOUBLE, each counted. BUF.RELEASE by another than the owner gives up one share. A freed buffer goes back to its pool. -/
def Obligations.BufferOperations : Prop :=
  (∀ (s : State) (cx : Cx) (f : Fields) (c : Ctx) (ws : List Word) (tw : Option TwinReply), s.Issues cx c f ws → dbits ws 0 0 8 = 0x30 → 
     exec (.bufFree cx f tw) s = .next (((s.opOf cx c f ws tw).start (s.opState cx c ws f)).takeReturned cx)) ∧
  (∀ (s : State) (cx : Cx) (f : Fields) (c : Ctx) (ws : List Word) (tw : Option TwinReply), s.Issues cx c f ws → dbits ws 0 0 8 = 0x31 → 
     exec (.bufRelease cx f tw) s = .next (((s.opOf cx c f ws tw).start (s.opState cx c ws f)).takeReturned cx)) ∧
  (∀ (s : State) (cx : Cx) (f : Fields) (c : Ctx) (ws : List Word) (tw : Option TwinReply) (k : Nat), s.Starts cx c f ws 0x30 → s.toTwin (ws.getD 1 0) = false → (s.opOf cx c f ws tw).bufChecks s = none → s.liveRef (dword ws 1) = some k → ownerMatches (s.issuerOf (whoOf cx c)).1 (s.issuerOf (whoOf cx c)).2 (s.buf k).owner = true → (s.buf k).shares ≤ 1 → 
     let o := s.opOf cx c f ws tw
    let u := s.opState cx c ws f
    exec (.bufFree cx f tw) s = .next (State.takeReturned (o.done 0 0 (u.freeBuf k)) cx)) ∧
  (∀ (s : State) (cx : Cx) (f : Fields) (c : Ctx) (ws : List Word) (tw : Option TwinReply) (k : Nat), s.Starts cx c f ws 0x31 → s.toTwin (ws.getD 1 0) = false → (s.opOf cx c f ws tw).bufChecks s = none → s.liveRef (dword ws 1) = some k → ownerMatches (s.issuerOf (whoOf cx c)).1 (s.issuerOf (whoOf cx c)).2 (s.buf k).owner = false → 2 ≤ (s.buf k).shares → 
     let o := s.opOf cx c f ws tw
    let u := s.opState cx c ws f
    exec (.bufRelease cx f tw) s = .next (State.takeReturned (o.done 0 0 (u.dropShare k)) cx)) ∧
  (∀ (o : Op) (u : State) (k : Nat), o.Plain 0x30 u → o.bufChecks u = none → u.liveRef (dword o.ws 1) = some k → ownerMatches (u.issuerOf o.w).1 (u.issuerOf o.w).2 (u.buf k).owner = true → (u.buf k).shares ≤ 1 → 
     o.start u = o.done 0 0 (u.freeBuf k)) ∧
  (∀ (o : Op) (u : State) (k : Nat), o.Plain 0x30 u → o.bufChecks u = none → u.liveRef (dword o.ws 1) = some k → ownerMatches (u.issuerOf o.w).1 (u.issuerOf o.w).2 (u.buf k).owner = false → 
     o.start u = o.done 0x11 0 (u.bufMisuse 0x11 (u.issuerOf o.w).1 o.w.tenant (dword o.ws 1))) ∧
  (∀ (o : Op) (u : State), o.Plain 0x30 u → o.bufChecks u = none → u.liveRef (dword o.ws 1) = none → 
     o.start u = o.done 0x10 0 (u.bufMisuse 0x10 (u.issuerOf o.w).1 o.w.tenant (dword o.ws 1))) ∧
  (∀ (o : Op) (u : State) (k : Nat), o.Plain 0x31 u → o.bufChecks u = none → u.liveRef (dword o.ws 1) = some k → ownerMatches (u.issuerOf o.w).1 (u.issuerOf o.w).2 (u.buf k).owner = false → 2 ≤ (u.buf k).shares → 
     o.start u = o.done 0 0 (u.dropShare k)) ∧
  (∀ (s : State) (k : Nat), k / 4194304 < 4 → s.reh.lent.contains k = false → 
     let t := s.freeBuf k
    t.buf k = { s.buf k with inUse := false, shares := 0, owner := 0, tenant := 0, hwDone := false } ∧ (∀ j, j ≠ k → t.buf j = s.buf j) ∧ t.rd Reg.Buf.FREE [k / 4194304] = (s.rd Reg.Buf.FREE [k / 4194304] + 1) % 2 ^ 23)

/-- A timed cue whose time lies ahead waits with its ticket; one past by no more than its window fires at once, behind those that were due before it, and completes LATE with
the lateness; one past by more is discarded with code 0x02. CUE_FIRE takes a cue that no other precedes, moves stage time to the first CUE cycle at or after its time, and
makes its store; one bound to a tail-role port fires at that port's boundary. -/
def Obligations.Cues : Prop :=
  (∀ (s : State) (cx : Cx) (f : Fields) (c : Ctx) (ws : List Word) (tw : Option TwinReply), s.Issues cx c f ws → dbits ws 0 0 8 = 0x40 → 
     exec (.cueAt cx f tw) s = .next (((s.opOf cx c f ws tw).start (s.opState cx c ws f)).takeReturned cx)) ∧
  (∀ (s : State) (cx : Cx) (f : Fields) (c : Ctx) (ws : List Word) (tw : Option TwinReply), s.Starts cx c f ws 0x40 → dbits ws 0 14 1 = 0 → s.toTwin (ws.getD 2 0) = false → firstSub (s.authority (whoOf cx c) (ws.getD 2 0).toNat true) = none → 0 < sdiff (ws.getD 1 0) s.nowW → 
     let o := s.opOf cx c f ws tw
    let u := s.opState cx c ws f
    exec (.cueAt cx f tw) s = .next (State.takeReturned ({ u with ptp := { u.ptp with cues := u.ptp.cues ++ [cueOf o u none] } }) cx)) ∧
  (∀ (s : State) (cx : Cx) (f : Fields) (c : Ctx) (ws : List Word) (tw : Option TwinReply), s.Starts cx c f ws 0x40 → dbits ws 0 14 1 = 0 → s.toTwin (ws.getD 2 0) = false → firstSub (s.authority (whoOf cx c) (ws.getD 2 0).toNat true) = none → sdiff (ws.getD 1 0) s.nowW < 0 → (s.nowW - ws.getD 1 0).toNat ≤ (if dbits ws 4 0 31 = 0 then 777600 else dbits ws 4 0 31) → 
     let o := s.opOf cx c f ws tw
    let u := s.opState cx c ws f
    exec (.cueAt cx f tw) s = .next (State.takeReturned ((u.fireCues u.cuesDue).fireCue (cueOf o u (some (u.nowW - ws.getD 1 0).toNat)) tw) cx)) ∧
  (∀ (o : Op) (u : State), o.Plain 0x40 u → dbits o.ws 0 14 1 = 0 → u.toTwin (o.ws.getD 2 0) = false → firstSub (u.authority o.w (o.ws.getD 2 0).toNat true) = none → 0 < sdiff (o.ws.getD 1 0) u.nowW → o.w.kind = .script ∨ o.w.kind = .system → 
     o.start u = { u with ptp := { u.ptp with cues := u.ptp.cues ++ [cueOf o u none] } }) ∧
  (∀ (o : Op) (u : State), o.Plain 0x40 u → dbits o.ws 0 14 1 = 0 → u.toTwin (o.ws.getD 2 0) = false → firstSub (u.authority o.w (o.ws.getD 2 0).toNat true) = none → sdiff (o.ws.getD 1 0) u.nowW < 0 → (u.nowW - o.ws.getD 1 0).toNat ≤ (if dbits o.ws 4 0 31 = 0 then 777600 else dbits o.ws 4 0 31) → o.w.kind = .script ∨ o.w.kind = .system → 
     o.start u = (u.fireCues u.cuesDue).fireCue (cueOf o u (some (u.nowW - o.ws.getD 1 0).toNat)) o.tw) ∧
  (∀ (o : Op) (u : State), o.Plain 0x40 u → dbits o.ws 0 14 1 = 0 → u.toTwin (o.ws.getD 2 0) = false → firstSub (u.authority o.w (o.ws.getD 2 0).toNat true) = none → sdiff (o.ws.getD 1 0) u.nowW < 0 → (if dbits o.ws 4 0 31 = 0 then 777600 else dbits o.ws 4 0 31) < (u.nowW - o.ws.getD 1 0).toNat → o.w.kind = .script ∨ o.w.kind = .system → 
     o.start u = o.done 2 0 u) ∧
  (∀ (s : State) (q : Cue) (before after : List Cue) (tw : Option TwinReply), s.ptp.cues = before ++ q :: after → (∀ r ∈ before, r.entry ≠ q.entry) → s.cueReady before q after = true → q.port = none → 
     exec (.cueFire q.entry tw) s = .next ((({ s with ptp := { s.ptp with cues := before ++ after } } : State).advanceTo ((q.due + 7) / 8 * 8)).fireCue q tw)) ∧
  (∀ (s : State) (q : Cue) (p : Nat) (before after : List Cue) (tw : Option TwinReply), s.ptp.cues = before ++ q :: after → (∀ r ∈ before, r.entry ≠ q.entry) → s.cueReady before q after = true → q.port = some p → 
     exec (.cueFire q.entry tw) s = .next (({ s with ptp := { s.ptp with cues := before ++ after } } : State).fireCue q tw)) ∧
  (∀ (s t : State) (q : Cue) (x : Tix) (tw : Option TwinReply), s.toTwin q.target = false → s.cpu.tickets.get? q.entry = some x → x.orphan = false → s.storeWord { cx := q.cx, kind := q.kind, tenant := q.tenant, remote := false } q.target.toNat 0 q.value = ((0, 0), t) → t.sentSince s = false → 
     s.fireCue q tw = t.finishTicket q.entry q.gen (match q.late with | none => cplWord 0 0 | some y => cplWord 1 y))

/-- On a unit that is not paired, a STAGE of readable records applies them to the staged set or is refused as a whole, and waits while a curtain is pending; a CURTAIN is
scheduled, and a second one denied. A due curtain with no packet in the previous version switches at once, another waits; the switch makes the staged set current and the
current set previous, numbers the version on, and counts staged changes from 0; a timeout switches with code 0x41. -/
def Obligations.StageAndCurtain : Prop :=
  (∀ (s : State) (cx : Cx) (f : Fields) (c : Ctx) (ws : List Word) (tw : Option TwinReply), s.Issues cx c f ws → dbits ws 0 0 8 = 0x50 → 
     exec (.stage cx f tw) s = .next (((s.opOf cx c f ws tw).start (s.opState cx c ws f)).takeReturned cx)) ∧
  (∀ (s : State) (cx : Cx) (f : Fields) (c : Ctx) (ws : List Word) (tw : Option TwinReply), s.Issues cx c f ws → dbits ws 0 0 8 = 0x51 → 
     exec (.curtain cx f tw) s = .next (((s.opOf cx c f ws tw).start (s.opState cx c ws f)).takeReturned cx)) ∧
  (∀ (s : State) (cx : Cx) (f : Fields) (c : Ctx) (ws : List Word) (tw : Option TwinReply) (recs : List (List Word)), s.Starts cx c f ws 0x50 → s.pairing = 0 → (s.opTake cx c ws).1 < 4096 → dword ws 2 ≠ 0 → s.sieve.curtain = none → s.holdsRecords cx c (dword ws 1) (dword ws 2) recs = true → (s.stage (whoOf cx c).tenant recs).1 = 0 → 
     let o := s.opOf cx c f ws tw
    let u := s.opState cx c ws f
    exec (.stage cx f tw) s = .next (State.takeReturned ((u.stage o.w.tenant recs).2.2.finishTicket o.e o.g (cplWord 0 (u.stage o.w.tenant recs).2.1)) cx)) ∧
  (∀ (s : State) (cx : Cx) (f : Fields) (c : Ctx) (ws : List Word) (tw : Option TwinReply), s.Starts cx c f ws 0x51 → s.pairing = 0 → (whoOf cx c).operator = true → s.sieve.curtain = none → 
     let o := s.opOf cx c f ws tw
    let u := s.opState cx c ws f
    exec (.curtain cx f tw) s = .next (State.takeReturned (u.curtain o.e o.g (u.curtainTime (ws.getD 1 0))) cx)) ∧
  (∀ (o : Op) (u : State) (recs : List (List Word)), o.Plain 0x50 u → dword o.ws 2 ≠ 0 → o.w.kind = .script ∨ o.w.kind = .system → u.holdsRecords o.cx o.c (dword o.ws 1) (dword o.ws 2) recs = true → u.sieve.curtain ≠ none → u.pairing = 0 → 
     o.start u = { u with sieve := { u.sieve with held := u.sieve.held ++ [{ entry := o.e, gen := o.g, cx := o.cx, remote := o.w.remote, tenant := o.w.tenant, recs := recs }] } }) ∧
  (∀ (o : Op) (u : State) (recs : List (List Word)) (sub : Nat), o.Plain 0x50 u → dword o.ws 2 ≠ 0 → o.w.kind = .script ∨ o.w.kind = .system → o.w.cx = o.cx → u.holdsRecords o.cx o.c (dword o.ws 1) (dword o.ws 2) recs = true → u.sieve.curtain = none → u.pairing = 0 → u.stage o.w.tenant recs = (0x7F, sub, u) → 
     o.start u = o.denied sub (Reg.Sve.STAGED.addr []) u) ∧
  (∀ (o : Op) (u : State), o.Plain 0x51 u → o.w.operator = true → o.w.kind = .script ∨ o.w.kind = .system → u.sieve.curtain = none → u.pairing = 0 → 
     o.start u = u.curtain o.e o.g (u.curtainTime (o.ws.getD 1 0))) ∧
  (∀ (o : Op) (u : State), o.Plain 0x51 u → o.w.operator = true → o.w.kind = .script ∨ o.w.kind = .system → u.sieve.curtain ≠ none → u.pairing = 0 → 
     o.start u = o.denied 6 (Reg.Sve.V_CUR.addr []) u) ∧
  (∀ (s : State) (k : Curtain), s.sieve.curtain = some k → k.waiting = false → s.holders (s.rd Reg.Sve.V_PREV []) = 0 → s.sieve.held = [] → 
     ∃ t, exec .curtainDue s = .next t ∧ s.Switched t) ∧
  (∀ (s : State) (k : Curtain), s.sieve.curtain = some k → k.waiting = false → s.holders (s.rd Reg.Sve.V_PREV []) ≠ 0 → 
     ∃ t, exec .curtainDue s = .next t ∧ t.sieve.curtain = some { k with waiting := true } ∧ t.sieve.cur = s.sieve.cur ∧ t.rd Reg.Sve.V_CUR [] = s.rd Reg.Sve.V_CUR []) ∧
  (∀ (s : State) (k : Curtain), s.sieve.curtain = some k → k.waiting = true → s.holders (s.rd Reg.Sve.V_PREV []) = 0 → s.sieve.held = [] → 
     ∃ t, exec .curtainSwitch s = .next t ∧ s.Switched t) ∧
  (∀ (s : State) (k : Curtain), s.sieve.curtain = some k → k.waiting = true → s.holders (s.rd Reg.Sve.V_PREV []) ≠ 0 → s.sieve.held = [] → 
     ∃ t, exec .curtainTimeout s = .next t ∧ s.Switched t ∧ t.ext = (s.advanceTo (k.due + usTicks (s.rd Reg.Sve.CURTAIN_TO []))).ext)

/-- A flush that its checks pass completes with the counters flushed; a clearing one keeps each value in LAST and leaves the counter 0 with WRAP clear, and no counter outside
the range changes. An ISSUE of an undefined type completes its ticket with FAULT subcause 0x01, and one of length 0 raises FAULT subcause 0x02. -/
def Obligations.FlushAndBadDescriptors : Prop :=
  (∀ (s : State) (cx : Cx) (f : Fields) (c : Ctx) (ws : List Word) (tw : Option TwinReply), s.Issues cx c f ws → dbits ws 0 0 8 = 0x60 → 
     exec (.counterFlush cx f tw) s = .next (((s.opOf cx c f ws tw).start (s.opState cx c ws f)).takeReturned cx)) ∧
  (∀ (s : State) (cx : Cx) (f : Fields) (c : Ctx) (ws : List Word) (tw : Option TwinReply) (k : Nat), s.Starts cx c f ws 0x60 → s.toTwin (ws.getD 1 0) = false → cntAt (dword ws 1) = some k → dword ws 2 ≠ 0 → dword ws 2 ≤ 2097152 → k + dword ws 2 ≤ 131072 ∨ (k + dword ws 2 ≤ 2228224 ∧ s.flag Reg.Mem.MEM_OPEN [] = true) → firstSub ((s.opOf cx c f ws tw).flushChecks k (dword ws 2) s) = none → 
     let o := s.opOf cx c f ws tw
    let u := s.opState cx c ws f
    exec (.counterFlush cx f tw) s = .next (State.takeReturned (o.done 0 (dword ws 2) (u.flush k (dword ws 2) (dbits ws 0 14 1 = 1))) cx)) ∧
  (∀ (o : Op) (u : State) (k : Nat), o.Plain 0x60 u → cntAt (dword o.ws 1) = some k → dword o.ws 2 ≠ 0 → dword o.ws 2 ≤ 2097152 → k + dword o.ws 2 ≤ 131072 → firstSub (o.flushChecks k (dword o.ws 2) u) = none → 
     o.start u = o.done 0 (dword o.ws 2) (u.flush k (dword o.ws 2) (dbits o.ws 0 14 1 = 1))) ∧
  (∀ (s : State) (k n i : Nat), k + n ≤ 131072 → i < n → 
     let t := s.flush k n true
    t.rd Reg.Cnt.LAST [k + i] = s.rd Reg.Cnt.CNT [k + i] ∧ t.rd Reg.Cnt.CNT [k + i] = 0 ∧ t.rd Reg.Cnt.WRAP [k + i] = 0 ∧ (∀ j, (j < k ∨ k + n ≤ j) → j < 2228224 → t.rd Reg.Cnt.CNT [j] = s.rd Reg.Cnt.CNT [j])) ∧
  (∀ (o : Op) (u : State) (z : Nat), layoutOk (dbits o.ws 0 0 8) o.ws = true → o.c.tree? = some z → ¬(dbits o.ws 0 0 8 = 0x20 ∧ dbits o.ws 0 14 1 = 1 ∧ dbits o.ws 0 15 1 = 1) → 
     o.start u = o.denied (if (descObjs (dbits o.ws 0 0 8) o.ws).any u.reservedBlock then 5 else 1) ((descObjs (dbits o.ws 0 0 8) o.ws).headD 0) u) ∧
  (∀ (s : State) (cx : Cx) (f : Fields) (c : Ctx) (ws : List Word) (tw : Option TwinReply), s.Issues cx c f ws → dbits ws 0 0 8 ∉ knownTypes → 
     exec (.issue cx f tw) s = .next (((s.opOf cx c f ws tw).start (s.opState cx c ws f)).takeReturned cx) ∧ exec (.issue cx f tw) s = .next (((s.opOf cx c f ws tw).done 0x7E 1 (s.opState cx c ws f)).takeReturned cx)) ∧
  (∀ (s : State) (cx : Cx) (f : Fields) (c : Ctx) (w : Word) (tw : Option TwinReply), s.Runs cx c → useI.ok f = true → s.heldByOrder cx c = false → c.place (addrI c f).toNat ≠ .outside → s.holdsWord cx c (addrI c f).toNat w = true → w.toNat / 256 % 32 = 0 → 
     exec (.issue cx f tw) s = .next (s.raiseAt cx (c.spend 3) 0x7E 2 (addrI c f) (ertenWord 0x48 f)))

/-- A submission at the head of an empty ring that R103 does not hold is taken at once: the entry stands in the slot at the old SQ_TAIL, SQ_TAIL and SQ_HEAD have moved past
it, and it is in flight. A taken entry whose form or own checks fail completes with the code of its first failed check; NOP completes OK. -/
def Obligations.SubmissionsAreTaken : Prop :=
  (∀ (s : State) (f : Nat) (e : SubEntry) (p : Place), s.TakesNext f 1 e → 
     exec (.run f e p) s = .next ((s.entered f 1 e).takeEntry f p).settleStalls) ∧
  (∀ (s : State) (f : Nat) (e : SubEntry) (p : Place), s.TakesNext f 2 e → 
     exec (.runResident f e p) s = .next ((s.entered f 2 e).takeEntry f p).settleStalls) ∧
  (∀ (s : State) (f : Nat) (e : SubEntry) (p : Place), s.TakesNext f 3 e → 
     exec (.loadResident f e p) s = .next ((s.entered f 3 e).takeEntry f p).settleStalls) ∧
  (∀ (s : State) (f : Nat) (e : SubEntry) (p : Place), s.TakesNext f 4 e → 
     exec (.unloadResident f e p) s = .next ((s.entered f 4 e).takeEntry f p).settleStalls) ∧
  (∀ (s : State) (f : Nat) (e : SubEntry) (p : Place), s.TakesNext f 5 e → 
     exec (.loadPrompter f e p) s = .next ((s.entered f 5 e).takeEntry f p).settleStalls) ∧
  (∀ (s : State) (f : Nat) (e : SubEntry) (p : Place), s.TakesNext f 6 e → 
     exec (.nop f e p) s = .next ((s.entered f 6 e).takeEntry f p).settleStalls) ∧
  (∀ (s : State) (f : Nat) (e : SubEntry) (p : Place) (u : State), s.TakesNext f 6 e → u = s.entered f 6 e → u.entryForm f (u.headEntry f) = (0, 0) → 
     exec (.nop f e p) s = .next ((u.taken f).complete (u.jobOf f) 0 0 0 0 0 false).settleStalls) ∧
  (∀ (s : State) (f : Nat) (p : Place), s.rd Reg.Hid.RR_FUNC [0] < 16 → f < 16 → s.taking f = .ready → (∀ g < 16, (g + 15 - s.rd Reg.Hid.RR_FUNC [0]) % 16 < (f + 15 - s.rd Reg.Hid.RR_FUNC [0]) % 16 → s.taking g ≠ .ready) → 
     exec (.sqTake p) s = .next (s.settleStalls.takeEntry f p).settleStalls) ∧
  (∀ (s : State) (f : Nat) (p : Place), f < 16 → s.rd Reg.Bar.SQ_HEAD [f] < s.ringSize f Reg.Bar.SQ_LOG2 → s.ringSize f Reg.Bar.SQ_LOG2 ≤ 4096 → s.entryForm f (s.headEntry f) ≠ (0, 0) → 
     s.takeEntry f p = (s.taken f).complete (s.jobOf f) (s.entryForm f (s.headEntry f)).1 (s.entryForm f (s.headEntry f)).2 0 0 0 false) ∧
  (∀ (s : State) (f t : Nat) (p : Place), f < 16 → s.entryForm f (s.headEntry f) = (0, 0) → s.bound f = some t → s.entryOwn f t (s.headEntry f) ≠ (0, 0) → 
     s.takeEntry f p = (s.taken f).complete (s.jobOf f) (s.entryOwn f t (s.headEntry f)).1 (s.entryOwn f t (s.headEntry f)).2 0 0 0 false) ∧
  (∀ (s : State) (f : Nat) (p : Place), f < 16 → s.entryForm f (s.headEntry f) = (0, 0) → (s.headEntry f).op = 6 → 
     s.takeEntry f p = (s.taken f).complete (s.jobOf f) 0 0 0 0 0 false)

/-- A RUN whose image passes every check starts a script in a free context: entry point, w1 to w5 from the arguments, the tenant of the image. LOAD_PROMPTER keeps the image
for the next frame boundary and completes OK; LOAD_RESIDENT adds a resident under a handle no other has and completes with it; UNLOAD_RESIDENT of an idle image removes
it. An image that fails a check completes with that check. -/
def Obligations.SubmissionEffects : Prop :=
  (∀ (s : State) (f : Nat) (e : SubEntry) (p : Place) (u : State) (i : Image) (t : Nat), s.TakesNext f 1 e → u = s.entered f 1 e → u.entryForm f (u.headEntry f) = (0, 0) → (u.headEntry f).image = .ok i → u.bound f = some t → u.checkImage (countedImage i) 3 (some (u.headEntry f).imageLen) t 0 = (0, 0) → 
     exec (.run f e p) s = .next ((u.taken f).startScript (countedImage i) (u.headEntry f) (u.jobOf f) p).settleStalls) ∧
  (∀ (s : State) (f : Nat) (e : SubEntry) (p : Place) (u : State) (r : Resident), s.TakesNext f 2 e → u = s.entered f 2 e → u.entryForm f (u.headEntry f) = (0, 0) → u.resident (u.headEntry f).target = some r → u.bound f = some r.tenant → r.unload = none → (∀ x ∈ u.cpu.residents, x.handle = r.handle → x = r) → 
     exec (.runResident f e p) s = .next (State.startScript { u.taken f with cpu := { u.cpu with residents := u.cpu.residents.map (fun x => if x.handle = r.handle then { r with running := r.running + 1 } else x) } } r.img (u.headEntry f) { u.jobOf f with resident := r.handle + 1 } p).settleStalls) ∧
  (∀ (s : State) (f : Nat) (e : SubEntry) (p : Place) (u : State) (i : Image) (t : Nat), s.TakesNext f 3 e → u = s.entered f 3 e → u.entryForm f (u.headEntry f) = (0, 0) → (u.headEntry f).image = .ok i → u.bound f = some t → u.checkImage (countedImage i) 3 (some (u.headEntry f).imageLen) t 0 = (0, 0) → (u.cpu.residents.map (fun r => r.img.icount)).sum + i.icount ≤ 98304 → u.cpu.residents.length < 2 ^ 32 → 
     ∃ h, (∀ r ∈ u.cpu.residents, r.handle ≠ h) ∧ exec (.loadResident f e p) s = .next (({ u.taken f with freeCtr := u.freeCtr + 1, cpu := { u.cpu with residents := u.cpu.residents ++ [{ handle := h, tenant := i.tenant, img := countedImage i, running := 0, unload := none }] } } : State).complete (u.jobOf f) 0 0 0 h 0 false).settleStalls) ∧
  (∀ (s : State) (f : Nat) (e : SubEntry) (p : Place) (u : State) (r : Resident), s.TakesNext f 4 e → u = s.entered f 4 e → u.entryForm f (u.headEntry f) = (0, 0) → u.resident (u.headEntry f).target = some r → u.bound f = some r.tenant → r.unload = none → r.running = 0 → 
     exec (.unloadResident f e p) s = .next (({ u.taken f with cpu := { u.cpu with residents := u.cpu.residents.filter (fun x => x.handle != r.handle) } } : State).complete (u.jobOf f) 0 0 0 0 0 false).settleStalls) ∧
  (∀ (s : State) (f : Nat) (e : SubEntry) (p : Place) (u : State) (i : Image), s.TakesNext f 5 e → u = s.entered f 5 e → f = 0 → u.entryForm f (u.headEntry f) = (0, 0) → u.entryOwn f 0 (u.headEntry f) = (0, 0) → (u.headEntry f).image = .ok i → u.checkImage (countedImage i) 2 (some (u.headEntry f).imageLen) 0 (budgetOf (u.cycleN (u.headEntry f).target) (u.rd Reg.Cue.SEAL_LEAD [(u.headEntry f).target])) = (0, 0) → 
     exec (.loadPrompter f e p) s = .next (({ u.taken f with cpu := { (u.taken f).cpu with nextImages := (u.taken f).cpu.nextImages.put (u.headEntry f).target (countedImage i) } } : State).complete (u.jobOf f) 0 0 0 0 0 false).settleStalls) ∧
  (∀ (s : State) (i : Image) (e : SubEntry) (j : Job) (p : Place) (cx : Cx), (s.freeSlots (areaWords i))[p.pick % (s.freeSlots (areaWords i)).length]? = some cx → 
     ∃ c, (s.startScript i e j p).ctx? cx = some c ∧ c.kind = .script ∧ c.tenant = i.tenant ∧ c.pc = i.entry ∧ c.cycles = 0 ∧ c.limit = i.cycles ∧ c.job = some j ∧
      (∀ k < 5, c.reg (k + 1) = BitVec.ofNat 40 (e.args.getD k 0)) ∧ (∀ k, 6 ≤ k → c.reg k = 0) ∧ c.block = .none) ∧
  (∀ (s : State) (f t : Nat) (i : Image) (p : Place), f < 16 → s.entryForm f (s.headEntry f) = (0, 0) → (s.headEntry f).op = 1 → (s.headEntry f).image = .ok i → s.bound f = some t → s.checkImage (countedImage i) 3 (some (s.headEntry f).imageLen) t 0 = (0, 0) → 
     s.takeEntry f p = (s.taken f).startScript (countedImage i) (s.headEntry f) (s.jobOf f) p) ∧
  (∀ (s : State) (f t : Nat) (i : Image) (p : Place), f < 16 → s.entryForm f (s.headEntry f) = (0, 0) → (s.headEntry f).op = 1 → (s.headEntry f).image = .ok i → s.bound f = some t → s.checkImage (countedImage i) 3 (some (s.headEntry f).imageLen) t 0 ≠ (0, 0) → 
     s.takeEntry f p = (s.taken f).complete (s.jobOf f) (s.checkImage (countedImage i) 3 (some (s.headEntry f).imageLen) t 0).1 (s.checkImage (countedImage i) 3 (some (s.headEntry f).imageLen) t 0).2 0 0 0 false) ∧
  (∀ (s : State) (f z : Nat) (i : Image) (p : Place), f = 0 → s.entryForm f (s.headEntry f) = (0, 0) → (s.headEntry f).op = 5 → (s.headEntry f).target = z → s.entryOwn f 0 (s.headEntry f) = (0, 0) → (s.headEntry f).image = .ok i → s.checkImage (countedImage i) 2 (some (s.headEntry f).imageLen) 0 (budgetOf (s.cycleN z) (s.rd Reg.Cue.SEAL_LEAD [z])) = (0, 0) → 
     s.takeEntry f p = ({ s.taken f with cpu := { (s.taken f).cpu with nextImages := (s.taken f).cpu.nextImages.put z (countedImage i) } } : State).complete (s.jobOf f) 0 0 0 0 0 false) ∧
  (∀ (s : State) (f : Nat) (i : Image) (p : Place), f < 16 → s.entryForm f (s.headEntry f) = (0, 0) → (s.headEntry f).op = 3 → (s.headEntry f).image = .ok i → s.checkImage (countedImage i) 3 (some (s.headEntry f).imageLen) ((s.bound f).getD 0) 0 = (0, 0) → (s.cpu.residents.map (fun r => r.img.icount)).sum + i.icount ≤ 98304 → s.cpu.residents.length < 2 ^ 32 → 
     ∃ h, (∀ r ∈ s.cpu.residents, r.handle ≠ h) ∧ (s.takeEntry f p).cpu.residents = s.cpu.residents ++ [{ handle := h, tenant := i.tenant, img := countedImage i, running := 0, unload := none }]) ∧
  (∀ (s : State) (f : Nat) (r : Resident) (p : Place), f < 16 → s.entryForm f (s.headEntry f) = (0, 0) → (s.headEntry f).op = 4 → s.resident (s.headEntry f).target = some r → r.tenant = (s.bound f).getD 0 → r.unload = none → r.running = 0 → 
     s.takeEntry f p = ({ s.taken f with cpu := { s.cpu with residents := s.cpu.residents.filter (fun x => x.handle != r.handle) } } : State).complete (s.jobOf f) 0 0 0 0 0 false) ∧
  (∀ (s : State) (f : Nat) (r : Resident) (p : Place), f < 16 → s.entryForm f (s.headEntry f) = (0, 0) → (s.headEntry f).op = 2 → s.resident (s.headEntry f).target = some r → r.tenant = (s.bound f).getD 0 → r.unload = none → (∀ x ∈ s.cpu.residents, x.handle = r.handle → x = r) → 
     s.takeEntry f p = State.startScript { s.taken f with cpu := { s.cpu with residents := s.cpu.residents.map (fun x => if x.handle = r.handle then { r with running := r.running + 1 } else x) } } r.img (s.headEntry f) { s.jobOf f with resident := r.handle + 1 } p)

/-- A doorbell within the free slots moves SQ_TAIL past the entries the host wrote; a CQ_HEAD or EQ_HEAD write that does not pass the tail moves the head; any other is
refused with FAULT subcause 1, is recorded in HOST_ERR, sets its ring error and leaves the index; nothing else of the machine changes but the counts of held entries.
Enabling a ring zeroes its head and tail; disabling leaves them; a completion ring with entries in flight is not disabled; no other function's rings change. Before and
behind every one of them, and behind a taken entry, each entry that the capacity of its completion ring alone holds is counted, once. -/
def Obligations.HostRings : Prop :=
  (∀ (s : State) (f v : Nat) (es : List SubEntry), f < 16 → (f = 0 → s.flag Reg.Bar.BOOT_WAIT [] = false) → v < 4096 → v < 2 ^ s.rd Reg.Bar.SQ_LOG2 [f] → (v + 2 ^ s.rd Reg.Bar.SQ_LOG2 [f] - s.rd Reg.Bar.SQ_TAIL [f] % 2 ^ s.rd Reg.Bar.SQ_LOG2 [f]) % 2 ^ s.rd Reg.Bar.SQ_LOG2 [f] ≤ (s.rd Reg.Bar.SQ_HEAD [f] + 2 * 2 ^ s.rd Reg.Bar.SQ_LOG2 [f] - s.rd Reg.Bar.SQ_TAIL [f] % 2 ^ s.rd Reg.Bar.SQ_LOG2 [f] - 1) % 2 ^ s.rd Reg.Bar.SQ_LOG2 [f] → 
     exec (.sqTail f v es) s = .next (((es.zipIdx.foldl (fun t x => t.writeSlot f ((s.rd Reg.Bar.SQ_TAIL [f] + x.2) % 2 ^ s.rd Reg.Bar.SQ_LOG2 [f]) x.1) s).settleStalls.wr Reg.Bar.SQ_TAIL [f] v).settleStalls)) ∧
  (∀ (s : State) (f v : Nat) (es : List SubEntry), f < 16 → (f = 0 → s.flag Reg.Bar.BOOT_WAIT [] = false) → v < 4096 → 2 ^ s.rd Reg.Bar.SQ_LOG2 [f] ≤ v ∨ (s.rd Reg.Bar.SQ_HEAD [f] + 2 * 2 ^ s.rd Reg.Bar.SQ_LOG2 [f] - s.rd Reg.Bar.SQ_TAIL [f] % 2 ^ s.rd Reg.Bar.SQ_LOG2 [f] - 1) % 2 ^ s.rd Reg.Bar.SQ_LOG2 [f] < (v + 2 ^ s.rd Reg.Bar.SQ_LOG2 [f] - s.rd Reg.Bar.SQ_TAIL [f] % 2 ^ s.rd Reg.Bar.SQ_LOG2 [f]) % 2 ^ s.rd Reg.Bar.SQ_LOG2 [f] → 
     exec (.sqTail f v es) s = .next ((((es.zipIdx.foldl (fun t x => t.writeSlot f ((s.rd Reg.Bar.SQ_TAIL [f] + x.2) % 2 ^ s.rd Reg.Bar.SQ_LOG2 [f]) x.1) s).settleStalls.hostErr f 0x1010 0x7E 1).ringError f Reg.Bar.SQ_ERR).settleStalls)) ∧
  (∀ (s : State) (f v : Nat), f < 16 → (f = 0 → s.flag Reg.Bar.BOOT_WAIT [] = false) → v < 4096 → v < 2 ^ s.rd Reg.Bar.CQ_LOG2 [f] → (v + 2 ^ s.rd Reg.Bar.CQ_LOG2 [f] - s.rd Reg.Bar.CQ_HEAD [f] % 2 ^ s.rd Reg.Bar.CQ_LOG2 [f]) % 2 ^ s.rd Reg.Bar.CQ_LOG2 [f] ≤ (s.rd Reg.Bar.CQ_TAIL [f] + 2 ^ s.rd Reg.Bar.CQ_LOG2 [f] - s.rd Reg.Bar.CQ_HEAD [f] % 2 ^ s.rd Reg.Bar.CQ_LOG2 [f]) % 2 ^ s.rd Reg.Bar.CQ_LOG2 [f] → 
     exec (.cqHead f v) s = .next (s.settleStalls.wr Reg.Bar.CQ_HEAD [f] v).settleStalls) ∧
  (∀ (s : State) (f v : Nat), f < 16 → (f = 0 → s.flag Reg.Bar.BOOT_WAIT [] = false) → v < 4096 → 2 ^ s.rd Reg.Bar.CQ_LOG2 [f] ≤ v ∨ (s.rd Reg.Bar.CQ_TAIL [f] + 2 ^ s.rd Reg.Bar.CQ_LOG2 [f] - s.rd Reg.Bar.CQ_HEAD [f] % 2 ^ s.rd Reg.Bar.CQ_LOG2 [f]) % 2 ^ s.rd Reg.Bar.CQ_LOG2 [f] < (v + 2 ^ s.rd Reg.Bar.CQ_LOG2 [f] - s.rd Reg.Bar.CQ_HEAD [f] % 2 ^ s.rd Reg.Bar.CQ_LOG2 [f]) % 2 ^ s.rd Reg.Bar.CQ_LOG2 [f] → 
     exec (.cqHead f v) s = .next ((s.settleStalls.hostErr f 0x1030 0x7E 1).ringError f Reg.Bar.CQ_ERR).settleStalls) ∧
  (∀ (s : State) (f v : Nat), f < 16 → (f = 0 → s.flag Reg.Bar.BOOT_WAIT [] = false) → v < 4096 → v < 2 ^ s.rd Reg.Bar.EQ_LOG2 [f] → (v + 2 ^ s.rd Reg.Bar.EQ_LOG2 [f] - s.rd Reg.Bar.EQ_HEAD [f] % 2 ^ s.rd Reg.Bar.EQ_LOG2 [f]) % 2 ^ s.rd Reg.Bar.EQ_LOG2 [f] ≤ (s.rd Reg.Bar.EQ_TAIL [f] + 2 ^ s.rd Reg.Bar.EQ_LOG2 [f] - s.rd Reg.Bar.EQ_HEAD [f] % 2 ^ s.rd Reg.Bar.EQ_LOG2 [f]) % 2 ^ s.rd Reg.Bar.EQ_LOG2 [f] → 
     exec (.eqHead f v) s = .next (s.settleStalls.wr Reg.Bar.EQ_HEAD [f] v).settleStalls) ∧
  (∀ (s : State) (f v : Nat), f < 16 → (f = 0 → s.flag Reg.Bar.BOOT_WAIT [] = false) → v < 4096 → 2 ^ s.rd Reg.Bar.EQ_LOG2 [f] ≤ v ∨ (s.rd Reg.Bar.EQ_TAIL [f] + 2 ^ s.rd Reg.Bar.EQ_LOG2 [f] - s.rd Reg.Bar.EQ_HEAD [f] % 2 ^ s.rd Reg.Bar.EQ_LOG2 [f]) % 2 ^ s.rd Reg.Bar.EQ_LOG2 [f] < (v + 2 ^ s.rd Reg.Bar.EQ_LOG2 [f] - s.rd Reg.Bar.EQ_HEAD [f] % 2 ^ s.rd Reg.Bar.EQ_LOG2 [f]) % 2 ^ s.rd Reg.Bar.EQ_LOG2 [f] → 
     exec (.eqHead f v) s = .next ((s.settleStalls.hostErr f 0x1050 0x7E 1).ringError f Reg.Bar.EQ_ERR).settleStalls) ∧
  (∀ (s : State) (f off code sub : Nat) (fld : Field), f < 16 → off < 65536 → code < 256 → sub < 256 → fld ∈ [Reg.Bar.SQ_ERR, Reg.Bar.CQ_ERR, Reg.Bar.EQ_ERR] → 
     ((s.hostErr f off code sub).ringError f fld).ErrNoted f off code sub ∧ ((s.hostErr f off code sub).ringError f fld).rd fld [f] = 1) ∧
  (∀ (s : State) (f : Nat), f < 16 → (f = 0 → s.flag Reg.Bar.BOOT_WAIT [] = false) → s.flag Reg.Bar.SQ_EN [f] = false → s.flag Reg.Bar.READY [] = true → 
     ∃ t, exec (.sqEn f true) s = .next t ∧ t.rd Reg.Bar.SQ_EN [f] = 1 ∧ t.rd Reg.Bar.SQ_HEAD [f] = 0 ∧ t.rd Reg.Bar.SQ_TAIL [f] = 0 ∧ t.rd Reg.Bar.SQ_LOG2 [f] = s.rd Reg.Bar.SQ_LOG2 [f] ∧ s.SameRings t f) ∧
  (∀ (s : State) (f : Nat), f < 16 → (f = 0 → s.flag Reg.Bar.BOOT_WAIT [] = false) → s.flag Reg.Bar.SQ_EN [f] = true → s.rd Reg.Hid.INFLIGHT_F [f] = 0 → 
     ∃ t, exec (.sqEn f false) s = .next t ∧ t.rd Reg.Bar.SQ_EN [f] = 0 ∧ t.rd Reg.Bar.SQ_HEAD [f] = s.rd Reg.Bar.SQ_HEAD [f] ∧ t.rd Reg.Bar.SQ_TAIL [f] = s.rd Reg.Bar.SQ_TAIL [f] ∧ s.SameRings t f) ∧
  (∀ (s : State) (f : Nat), f < 16 → (f = 0 → s.flag Reg.Bar.BOOT_WAIT [] = false) → s.flag Reg.Bar.CQ_EN [f] = false → s.flag Reg.Bar.READY [] = true → 
     ∃ t, exec (.cqEn f true) s = .next t ∧ t.rd Reg.Bar.CQ_EN [f] = 1 ∧ t.rd Reg.Bar.CQ_HEAD [f] = 0 ∧ t.rd Reg.Bar.CQ_TAIL [f] = 0 ∧ t.rd Reg.Bar.CQ_LOG2 [f] = s.rd Reg.Bar.CQ_LOG2 [f] ∧ s.SameRings t f) ∧
  (∀ (s : State) (f : Nat), f < 16 → (f = 0 → s.flag Reg.Bar.BOOT_WAIT [] = false) → s.flag Reg.Bar.CQ_EN [f] = true → s.rd Reg.Hid.INFLIGHT_F [f] = 0 → 
     ∃ t, exec (.cqEn f false) s = .next t ∧ t.rd Reg.Bar.CQ_EN [f] = 0 ∧ t.rd Reg.Bar.CQ_HEAD [f] = s.rd Reg.Bar.CQ_HEAD [f] ∧ t.rd Reg.Bar.CQ_TAIL [f] = s.rd Reg.Bar.CQ_TAIL [f] ∧ s.SameRings t f) ∧
  (∀ (s : State) (f : Nat), f < 16 → (f = 0 → s.flag Reg.Bar.BOOT_WAIT [] = false) → s.flag Reg.Bar.EQ_EN [f] = false → s.flag Reg.Bar.READY [] = true → 
     ∃ t, exec (.eqEn f true) s = .next t ∧ t.rd Reg.Bar.EQ_EN [f] = 1 ∧ t.rd Reg.Bar.EQ_HEAD [f] = 0 ∧ t.rd Reg.Bar.EQ_TAIL [f] = 0 ∧ t.rd Reg.Bar.EQ_LOG2 [f] = s.rd Reg.Bar.EQ_LOG2 [f] ∧ s.SameRings t f) ∧
  (∀ (s : State) (f : Nat), f < 16 → (f = 0 → s.flag Reg.Bar.BOOT_WAIT [] = false) → s.flag Reg.Bar.EQ_EN [f] = true → s.rd Reg.Hid.INFLIGHT_F [f] = 0 → 
     ∃ t, exec (.eqEn f false) s = .next t ∧ t.rd Reg.Bar.EQ_EN [f] = 0 ∧ t.rd Reg.Bar.EQ_HEAD [f] = s.rd Reg.Bar.EQ_HEAD [f] ∧ t.rd Reg.Bar.EQ_TAIL [f] = s.rd Reg.Bar.EQ_TAIL [f] ∧ s.SameRings t f) ∧
  (∀ (s : State) (f : Nat), f < 16 → s.taking f = .stalled → s.host.counted.contains (f * 4096 + s.rd Reg.Bar.SQ_HEAD [f]) = false → 
     s.settleStalls.rd Reg.Bar.STALL_CNT [f] = (s.rd Reg.Bar.STALL_CNT [f] + 1) % 2 ^ Reg.Bar.STALL_CNT.w ∧ (f * 4096 + s.rd Reg.Bar.SQ_HEAD [f]) ∈ s.settleStalls.host.counted ∧ s.settleStalls.cpu = s.cpu ∧ s.settleStalls.out = s.out) ∧
  (∀ (s : State) (f : Nat), s.taking f ≠ .stalled → 
     s.settleStalls.rd Reg.Bar.STALL_CNT [f] = s.rd Reg.Bar.STALL_CNT [f]) ∧
  (∀ (s : State) (f : Nat), f < 16 → (f = 0 → s.flag Reg.Bar.BOOT_WAIT [] = false) → s.flag Reg.Bar.CQ_EN [f] = true → s.rd Reg.Hid.INFLIGHT_F [f] ≠ 0 → 
     exec (.cqEn f false) s = .next (s.settleStalls.hostErr f 0x1028 0x7F 6).settleStalls)

/-- A script that stores its SELF_END code with no operation outstanding is over: its completion entry carries the code, its results and its cycles, and its context is free.
A script at its run limit raises event 0x82 and ends with FAULT subcause 6; clearing a tenant's EN stops its scripts. A coalescing time that has run sends the ring's
message. -/
def Obligations.ScriptEndsAndInterrupts : Prop :=
  (∀ (s : State) (cx : Cx) (c : Ctx) (v : Nat), s.ctx? cx = some c → c.kind = .script → c.ended = none → completionCodes.contains v = true → s.opsDone cx = true → c.refused = [] → s.Accepts cx c [⟨Reg.Hst.SELF_END, [], v⟩] (Reg.Hst.SELF_END.addr []) → 
     exec (.selfEnd cx v) s = .next (s.finishScript cx c v 0)) ∧
  (∀ (s : State) (cx : Cx) (c : Ctx) (j : Job) (code sub : Nat), c.job = some j → j.discard = false → j.resident = 0 → s.rd Reg.Hid.CUR_CTX [cx.core] ≠ cx.ctx + 1 → c.cycles < 2 ^ 32 → 
     (s.finishScript cx c code sub).ctx? cx = none ∧ ∃ r, r ∈ (s.finishScript cx c code sub).out ∧ ∃ n e, r = .completion j.func n e e.bytes ∧ e.tag = j.tag ∧ e.code = code ∧ e.sub = sub ∧ e.index = j.index ∧ e.res0 = c.res0.toNat ∧ e.res1 = c.res1.toNat ∧ e.cycles = c.cycles) ∧
  (∀ (s : State) (cx : Cx) (c : Ctx), s.ctx? cx = some c → c.kind = .script → c.limit ≠ 0 → c.limit ≤ c.cycles → c.ended = none → 
     exec (.scriptRunLimit cx) s = .next ((s.raiseFor c.tenant 0x82 0 []).stopScript cx c 0x7E 6)) ∧
  (∀ (s : State) (cx : Cx) (c : Ctx) (n : Nat), s.Accepts cx c [⟨Reg.Aut.EN, [n], 0⟩] (Reg.Aut.EN.addr [n]) → s.pairing = 0 → 
     exec (.tenantDisable cx n) s = .next ((s.wr Reg.Aut.EN [n] 0).stopTenant n)) ∧
  (∀ (s : State) (f : Nat), f < 16 → s.rd Reg.Bar.COAL_US [f] ≠ 0 → s.rd Reg.Hid.CQ_COAL_AT [f] ≠ 0 → (s.rd Reg.Bar.IRQ_EN [f]).testBit 0 = true → s.flag Reg.Hid.MSIX_MASK [f, s.rd Reg.Bar.CQ_VEC [f]] = false → 
     ∃ t, exec (.coalUsExpiry f false) s = .next t ∧ t.out = s.out ++ [.msix f (s.rd Reg.Bar.CQ_VEC [f])] ∧ t.rd Reg.Hid.CQ_UNSIG [f] = 0 ∧ t.ext = (s.advanceTo (s.rd Reg.Hid.CQ_COAL_AT [f] - 1 + usTicks (s.rd Reg.Bar.COAL_US [f]))).ext) ∧
  (∀ (s : State) (f : Nat), f < 16 → s.rd Reg.Bar.COAL_US [f] ≠ 0 → s.rd Reg.Hid.EQ_COAL_AT [f] ≠ 0 → (s.rd Reg.Bar.IRQ_EN [f]).testBit 1 = true → s.flag Reg.Hid.MSIX_MASK [f, s.rd Reg.Bar.EQ_VEC [f]] = true → 
     ∃ t, exec (.coalUsExpiry f true) s = .next t ∧ t.out = s.out ∧ t.rd Reg.Hid.MSIX_PEND [f, s.rd Reg.Bar.EQ_VEC [f]] = 1 ∧ t.rd Reg.Hid.EQ_UNSIG [f] = 0)

/-- A store that R28 accepts does exactly this: LIGHT keeps the request and changes nothing else; the port word and BOND take their values and have the port restarted (after
a MODE other than 0: dark, TRAINING for 2 ms); I2C_GO starts the transaction of the word of the master. The end of training starts the downstream engine of a head-role
port; the end of a transaction clears I2C_BUSY and leaves the bytes read, I2C_NACK or I2C_STUCK. -/
def Obligations.StoresOfPorts : Prop :=
  (∀ (s : State) (cx : Cx) (c : Ctx) (p v : Nat), s.Accepts cx c [⟨Reg.Pon.LIGHT, [p], v⟩] (Reg.Pon.LIGHT.addr [p]) → 
     exec (.light cx p v) s = .next (s.wr Reg.Pon.LIGHT [p] v)) ∧
  (∀ (s : State) (cx : Cx) (c : Ctx) (p mode up role : Nat), s.Accepts cx c [⟨Reg.Pon.MODE, [p], mode⟩, ⟨Reg.Pon.UP_RATE, [p], up⟩, ⟨Reg.Pon.ROLE, [p], role⟩] (Reg.Pon.MODE.addr [p]) → 
     exec (.portModeChange cx p mode up role) s = .next (s.changePort p mode up role (s.rd Reg.Pon.BOND [p]))) ∧
  (∀ (s : State) (cx : Cx) (c : Ctx) (p mode : Nat), s.Accepts cx c [⟨Reg.Pon.MODE, [p], mode⟩] (Reg.Pon.MODE.addr [p]) → (Chg.mk Reg.Pon.UP_RATE [p] (s.rd Reg.Pon.UP_RATE [p])).ok = true → (Chg.mk Reg.Pon.ROLE [p] (s.rd Reg.Pon.ROLE [p])).ok = true → s.rd Reg.Pon.BOND [p] = 0 → mode ≠ 0 → 
     ∃ t, exec (.portModeChange cx p mode (s.rd Reg.Pon.UP_RATE [p]) (s.rd Reg.Pon.ROLE [p])) s = .next t ∧ t.rd Reg.Pon.MODE [p] = mode ∧ t.rd Reg.Pon.TRAINING [p] = 1 ∧
      t.rd Reg.Pon.LIT [p] = 0 ∧ t.rd Reg.Hid.TRAIN_UNTIL [p] = s.ext + msTicks 2) ∧
  (∀ (s : State) (cx : Cx) (c : Ctx) (p v : Nat), s.Accepts cx c [⟨Reg.Pon.BOND, [p], v⟩] (Reg.Pon.BOND.addr [p]) → 
     exec (.bond cx p v) s = .next (s.changePort p (s.rd Reg.Pon.MODE [p]) (s.rd Reg.Pon.UP_RATE [p]) (s.rd Reg.Pon.ROLE [p]) v)) ∧
  (∀ (s : State) (p : Nat), p < 64 → s.flag Reg.Pon.TRAINING [p] = true → 
     exec (.trainingDone p) s = .next (((s.wr Reg.Pon.TRAINING [p] 0).wr Reg.Hid.TRAIN_UNTIL [p] s.ext).wr Reg.Hid.F_ON [p] (bit (s.head p)))) ∧
  (∀ (s : State) (cx : Cx) (c : Ctx) (m : Nat), s.Accepts cx c [⟨Reg.Pon.I2C_GO, [m], 1⟩] (Reg.Pon.I2C_GO.addr [m]) → 
     exec (.i2cGo cx m) s = .next (s.i2cStart m)) ∧
  (∀ (s : State) (m : Nat), m < 8 → s.flag Reg.Pon.I2C_BUSY [m] = true → 
     exec (.i2cDone m .nack) s = .next ((s.wr Reg.Pon.I2C_BUSY [m] 0).wr Reg.Pon.I2C_NACK [m] 1)) ∧
  (∀ (s : State) (m : Nat), m < 8 → s.flag Reg.Pon.I2C_BUSY [m] = true → 
     exec (.i2cDone m .stuck) s = .next ((s.wr Reg.Pon.I2C_BUSY [m] 0).wr Reg.Pon.I2C_STUCK [m] 1)) ∧
  (∀ (s : State) (m : Nat) (bs : List Nat), m < 8 → s.flag Reg.Pon.I2C_BUSY [m] = true → s.flag Reg.Pon.I2C_READ [m] = false → 
     exec (.i2cDone m (.done bs)) s = .next (s.wr Reg.Pon.I2C_BUSY [m] 0)) ∧
  (∀ (s : State) (m : Nat) (bs : List Nat), m < 8 → s.flag Reg.Pon.I2C_BUSY [m] = true → s.flag Reg.Pon.I2C_READ [m] = true → s.rd Reg.Pon.I2C_LEN [m] = bs.length → bs.length ≤ 32 → (∀ b ∈ bs, b < 256) → 
     ∃ t, exec (.i2cDone m (.done bs)) s = .next t ∧ t.rd Reg.Pon.I2C_BUSY [m] = 0 ∧ (List.range bs.length).map (fun i => t.rd Reg.Pon.I2C_DATA [m, i / 4] / 256 ^ (i % 4) % 256) = bs ∧ t.cpu = s.cpu ∧ t.out = s.out)

/-- A store that R28 accepts does exactly this, and in graft-understudy mode goes on to the copy of the twin: ADMIN 0 deactivates a terminal of states 1 to 4, ADMIN 1 takes
its value; DISABLE 1 silences the terminal and 0 releases a disabled one that isolation does not hold to IDLE; clearing ROGUE_HELD releases it; PWR_CMD sets PWR_BUSY and
queues Change_Power_Level; RSSI_REQ is kept; REREG queues the request for registration; REKEY starts a re-key, which fails where no successor slots are ready. STATE and
HOLDER: the present value changes nothing, another is a conflict and changes neither. PAIR_SEL chooses the mode and keeps PAIR_WAIT; in solo mode time starts at 0.
TKO_FAIL is cleared and its penalty withdrawn. -/
def Obligations.StoresOfTerminals : Prop :=
  (∀ (s : State) (cx : Cx) (c : Ctx) (z t : Nat), s.Accepts cx c [⟨Reg.Rng.ADMIN, [z, t], 0⟩] (Reg.Rng.ADMIN.addr [z, t]) → 
     exec (.admin cx z t 0) s = .next (s.copied cx c [⟨Reg.Rng.ADMIN, [z, t], 0⟩] (Reg.Rng.ADMIN.addr [z, t]) ((s.wr Reg.Rng.ADMIN [z, t] 0).adminCleared z t))) ∧
  (∀ (s : State) (cx : Cx) (c : Ctx) (z t : Nat), s.Accepts cx c [⟨Reg.Rng.ADMIN, [z, t], 1⟩] (Reg.Rng.ADMIN.addr [z, t]) → 
     exec (.admin cx z t 1) s = .next (s.copied cx c [⟨Reg.Rng.ADMIN, [z, t], 1⟩] (Reg.Rng.ADMIN.addr [z, t]) (s.wr Reg.Rng.ADMIN [z, t] 1))) ∧
  (∀ (s : State) (z t : Nat), z < 64 → t < 1020 → 1 ≤ s.term z t → s.term z t ≤ 4 → 
     (s.adminCleared z t).term z t = stIDLE) ∧
  (∀ (s : State) (cx : Cx) (c : Ctx) (z t v : Nat), s.Accepts cx c [⟨Reg.Rng.DISABLE, [z, t], v⟩] (Reg.Rng.DISABLE.addr [z, t]) → 
     exec (.disable cx z t v) s = .next (s.copied cx c [⟨Reg.Rng.DISABLE, [z, t], v⟩] (Reg.Rng.DISABLE.addr [z, t]) ((s.wr Reg.Rng.DISABLE [z, t] v).disableWritten z t v))) ∧
  (∀ (s : State) (z t : Nat), z < 64 → t < 1020 → 
     (s.disableWritten z t 1).term z t = stDISABLED ∧ (s.term z t = stDISABLED → s.flag Reg.Rng.ROGUE_HELD [z, t] = false → (s.disableWritten z t 0).term z t = stIDLE) ∧ (s.term z t ≠ stDISABLED ∨ s.flag Reg.Rng.ROGUE_HELD [z, t] = true → s.disableWritten z t 0 = s)) ∧
  (∀ (s : State) (cx : Cx) (c : Ctx) (z t : Nat), s.Accepts cx c [⟨Reg.Rng.ROGUE_HELD, [z, t], 1⟩] (Reg.Rng.ROGUE_HELD.addr [z, t]) → 
     exec (.rogueHeldClear cx z t) s = .next (s.copied cx c [⟨Reg.Rng.ROGUE_HELD, [z, t], 1⟩] (Reg.Rng.ROGUE_HELD.addr [z, t]) (if s.flag Reg.Rng.ROGUE_HELD [z, t] then (s.wr Reg.Rng.ROGUE_HELD [z, t] 0).heldCleared z t else s.wr Reg.Rng.ROGUE_HELD [z, t] 0))) ∧
  (∀ (s : State) (cx : Cx) (c : Ctx) (z t v : Nat), s.ctx? cx = some c → (Chg.mk Reg.Rng.STATE [z, t] v).ok = true → s.term z t ≠ v → s.judge (whoOf cx c) (Reg.Rng.STATE.addr [z, t]) [⟨Reg.Rng.STATE, [z, t], v⟩] (s.memoryRefuses (Reg.Rng.STATE.addr [z, t])) = some (0x70, 0) → 
     exec (.stateWrite cx z t v) s = .next (s.turnedAway cx c [⟨Reg.Rng.STATE, [z, t], v⟩] (Reg.Rng.STATE.addr [z, t]) (0x70, 0))) ∧
  (∀ (s : State) (cx : Cx) (c : Ctx) (z t v : Nat), s.ctx? cx = some c → z < 64 → t < 1020 → v ≤ 5 → s.evs.queue.length < 1024 → (s.rd Reg.Cnt.EV_MASK [3]).testBit 16 = false → tagOf s 0 (Reg.Rng.STATE.addr [z, t]) = 0 → 
     let u := s.turnedAway cx c [⟨Reg.Rng.STATE, [z, t], v⟩] (Reg.Rng.STATE.addr [z, t]) (0x70, 0)
    u.term z t = s.term z t ∧ u.evs.queue.map (fun e => (e.code, e.object)) = s.evs.queue.map (fun e => (e.code, e.object)) ++ [(0x70, Reg.Rng.STATE.addr [z, t])]) ∧
  (∀ (s : State) (cx : Cx) (c : Ctx) (z t : Nat), s.ctx? cx = some c → (Chg.mk Reg.Rng.STATE [z, t] (s.term z t)).ok = true → s.judge (whoOf cx c) (Reg.Rng.STATE.addr [z, t]) [] (s.memoryRefuses (Reg.Rng.STATE.addr [z, t])) = none → 
     exec (.stateWrite cx z t (s.term z t)) s = .next s) ∧
  (∀ (s : State) (cx : Cx) (c : Ctx) (z t v : Nat), s.Accepts cx c [⟨Reg.Rng.PWR_CMD, [z, t], v⟩] (Reg.Rng.PWR_CMD.addr [z, t]) → 
     exec (.pwrCmd cx z t v) s = .next (s.copied cx c [⟨Reg.Rng.PWR_CMD, [z, t], v⟩] (Reg.Rng.PWR_CMD.addr [z, t]) (s.changePower z t v))) ∧
  (∀ (s : State) (z t v : Nat), z < 64 → t < 1020 → s.isEpon z = false → s.flag Reg.Pon.LIT [z] = true → 
     (s.changePower z t v).rd Reg.Rng.PWR_BUSY [z, t] = 1 ∧ ((s.changePower z t v).tree z).ctrl = (s.tree z).ctrl ++ [{ kind := .changePower, term := t, args := [v] }]) ∧
  (∀ (s : State) (cx : Cx) (c : Ctx) (z t : Nat), s.Accepts cx c [⟨Reg.Rng.RSSI_REQ, [z, t], 1⟩] (Reg.Rng.RSSI_REQ.addr [z, t]) → 
     exec (.rssiReq cx z t) s = .next (s.copied cx c [⟨Reg.Rng.RSSI_REQ, [z, t], 1⟩] (Reg.Rng.RSSI_REQ.addr [z, t]) (s.wr Reg.Rng.RSSI_REQ [z, t] 1))) ∧
  (∀ (s : State) (cx : Cx) (c : Ctx) (z t : Nat), s.Accepts cx c [⟨Reg.Rng.REREG, [z, t], 1⟩] (Reg.Rng.REREG.addr [z, t]) → 
     exec (.rereg cx z t) s = .next (s.copied cx c [⟨Reg.Rng.REREG, [z, t], 1⟩] (Reg.Rng.REREG.addr [z, t]) (s.ploam z .requestReg t []))) ∧
  (∀ (s : State) (cx : Cx) (c : Ctx) (z t : Nat), s.Accepts cx c [⟨Reg.Key.REKEY, [z, t], 1⟩] (Reg.Key.REKEY.addr [z, t]) → 
     exec (.rekey cx z t) s = .next (s.copied cx c [⟨Reg.Key.REKEY, [z, t], 1⟩] (Reg.Key.REKEY.addr [z, t]) (s.rekey z t))) ∧
  (∀ (s : State) (z t : Nat), z < 64 → t < 1020 → s.rekeySlots z t ≠ none → 
     (s.rekey z t).rd Reg.Key.REKEY_BUSY [z, t] = 1) ∧
  (∀ (s : State) (z t : Nat), z < 64 → t < 1020 → s.rekeySlots z t = none → 
     (s.rekey z t).rd Reg.Key.REKEY_BUSY [z, t] = 0 ∧ (s.rekey z t).rd Reg.Key.REKEY_FAILS [] = (s.rd Reg.Key.REKEY_FAILS [] + 1) % 2 ^ 40) ∧
  (∀ (s : State) (cx : Cx) (c : Ctx) (m : Nat), s.ctx? cx = some c → m < 4 → s.judge (whoOf cx c) (Reg.Twn.PAIR_SEL.addr []) [⟨Reg.Twn.PAIR_SEL, [], m⟩] (s.memoryRefuses (Reg.Twn.PAIR_SEL.addr [])) = none → 
     exec (.pairSel cx m) s = .next (s.pairSelected m)) ∧
  (∀ (s : State) (m : Nat), m < 4 → 
     (s.pairSelected m).rd Reg.Twn.PAIR_SEL [] = m ∧ (s.pairSelected m).rd Reg.Twn.PAIR_SET [] = 1 ∧ (s.pairSelected m).pairing = m ∧ (s.pairSelected m).rd Reg.Hid.PAIR_WAIT_SET [0] = s.rd Reg.Twn.PAIR_WAIT [] ∧ (s.timeOn = false → (s.pairSelected m).timeOn = decide (m = 0)) ∧ (s.timeOn = false → m = 0 → (s.pairSelected m).ext = 0)) ∧
  (∀ (s : State) (cx : Cx) (c : Ctx) (z : Nat), s.Accepts cx c [⟨Reg.Twn.TKO_FAIL, [z], 1⟩] (Reg.Twn.TKO_FAIL.addr [z]) → 
     exec (.tkoFail cx z) s = .next ((s.wr Reg.Twn.TKO_FAIL [z] 0).setPen z 6 false)) ∧
  (∀ (s : State) (cx : Cx) (c : Ctx) (z v : Nat), s.ctx? cx = some c → (Chg.mk Reg.Twn.HOLDER [z] v).ok = true → s.takesPart (whoOf cx c) Reg.Twn.HOLDER [z] v = true → s.judge (whoOf cx c) (Reg.Twn.HOLDER.addr [z]) [⟨Reg.Twn.HOLDER, [z], v⟩] (s.memoryRefuses (Reg.Twn.HOLDER.addr [z])) = some (0x70, 0) → 
     exec (.holder cx z v) s = .next (s.turnedAway cx c [⟨Reg.Twn.HOLDER, [z], v⟩] (Reg.Twn.HOLDER.addr [z]) (0x70, 0))) ∧
  (∀ (s : State) (cx : Cx) (c : Ctx) (z v : Nat), s.ctx? cx = some c → (Chg.mk Reg.Twn.HOLDER [z] v).ok = true → s.takesPart (whoOf cx c) Reg.Twn.HOLDER [z] v = false → s.judge (whoOf cx c) (Reg.Twn.HOLDER.addr [z]) [] (s.memoryRefuses (Reg.Twn.HOLDER.addr [z])) = none → 
     exec (.holder cx z v) s = .next s)

/-- A store that R28 accepts does exactly this: OFS_IN commits its offset with OFS_SEC, which clears, LAST_OFS keeps it, and a first one makes the domain valid by a step;
STEP_APPLY clears the pending step and counts it; STEP_DROP clears it; SWITCH makes the domain the output, and changes nothing where it is that already; TS_POP removes
the oldest record of its queue; SNAP writes the snapshot words of the context; TOD_SF_LO arms the latch of its port. -/
def Obligations.StoresOfTime : Prop :=
  (∀ (s : State) (cx : Cx) (c : Ctx) (d v : Nat), s.Accepts cx c [⟨Reg.Tim.OFS_IN, [d], v⟩] (Reg.Tim.OFS_IN.addr [d]) → 
     exec (.ofsIn cx d v) s = .next (s.ofsIn d v)) ∧
  (∀ (s : State) (d v : Nat), d < 2 → 
     (s.ofsIn d v).rd Reg.Tim.OFS_SEC [d] = 0 ∧ (s.ofsIn d v).rd Reg.Tim.LAST_OFS [d] = v % 2 ^ 40 ∧ (s.flag Reg.Tim.VALID [d] = false → (s.ofsIn d v).rd Reg.Tim.VALID [d] = 1 ∧ (s.ofsIn d v).rd Reg.Tim.STEPS [d] = (s.rd Reg.Tim.STEPS [d] + 1) % 2 ^ 40)) ∧
  (∀ (s : State) (cx : Cx) (c : Ctx) (d : Nat), s.Accepts cx c [⟨Reg.Tim.STEP_APPLY, [d], 1⟩] (Reg.Tim.STEP_APPLY.addr [d]) → 
     exec (.stepApply cx d) s = .next (s.stepApply d)) ∧
  (∀ (s : State) (d : Nat), d < 2 → 
     (s.stepApply d).rd Reg.Tim.PEND [d] = 0 ∧ (s.stepApply d).rd Reg.Tim.STEPS [d] = (s.rd Reg.Tim.STEPS [d] + 1) % 2 ^ 40) ∧
  (∀ (s : State) (cx : Cx) (c : Ctx) (d : Nat), s.Accepts cx c [⟨Reg.Tim.STEP_DROP, [d], 1⟩] (Reg.Tim.STEP_DROP.addr [d]) → 
     exec (.stepDrop cx d) s = .next ((s.wr Reg.Tim.PEND [d] 0).wr Reg.Hid.STEP_EP [d] 0)) ∧
  (∀ (s : State) (cx : Cx) (c : Ctx) (d : Nat), s.Accepts cx c [⟨Reg.Tim.SWITCH, [], d⟩] (Reg.Tim.SWITCH.addr []) → 
     exec (.switch cx d) s = .next ((if d = s.rd Reg.Tim.OUT_DOM [] then s else s.switchDom d 0))) ∧
  (∀ (s : State) (d k : Nat), d < 2 → 
     (s.switchDom d k).rd Reg.Tim.OUT_DOM [] = d ∧ (∀ e, (s.switchDom d k).rd Reg.Tim.EPOCH [e] = s.rd Reg.Tim.EPOCH [e])) ∧
  (∀ (s : State) (cx : Cx) (c : Ctx) (q r v : Nat), s.Accepts cx c [⟨Reg.Tim.TS_POP, [q, r], v⟩] (Reg.Tim.TS_POP.addr [q, r]) → 
     exec (.tsPop cx q r v) s = .next (s.putTsq q r (s.tsq q r).tail)) ∧
  (∀ (s : State) (cx : Cx) (c : Ctx), s.Accepts cx c [⟨Reg.Tim.SNAP, [], 1⟩] (Reg.Tim.SNAP.addr []) → 
     exec (.snap cx) s = .next (s.snap cx)) ∧
  (∀ (s : State) (cx : Cx), ctxNo cx < 1280 → 
     (s.snap cx).rd Reg.Hid.SNAP [ctxNo cx, 0] = s.now ∧ (s.snap cx).rd Reg.Hid.SNAP [ctxNo cx, 10] = s.rd Reg.Tim.EPOCH []) ∧
  (∀ (s : State) (cx : Cx) (c : Ctx) (z v : Nat), s.Accepts cx c [⟨Reg.Tim.TOD_SF_LO, [z], v⟩] (Reg.Tim.TOD_SF_LO.addr [z]) → 
     exec (.todSfLo cx z v) s = .next ((s.wr Reg.Tim.TOD_SF_LO [z] v).armTod z v)) ∧
  (∀ (s : State) (z v : Nat), z < 64 → s.head z = false → 
     (s.armTod z v).rd Reg.Tim.TOD_VALID [z] = 0 ∧ ∃ l, (s.armTod z v).ptp.tod.get? z = some l ∧ l.pred = none ∧ l.frame % 2 ^ 51 = (s.rd Reg.Tim.TOD_SF_HI [z] * 2 ^ 40 + v) % 2 ^ 51)

/-- A store that R28 accepts does exactly this: UL_MODE takes the new mode, retrains its lanes and drops the link, and a port that negotiates advertises it; UL_EN 1 sets the
lanes of the port active; a receiver that leaves active loses its locks; PRBS_GEN is kept, PRBS_CHK restarts its checker unlocked; MEM_OPEN and BUF_OPEN are kept; OWNER
passes a buffer to its new owner and the tenant of that owner; CGO enters the request of the context, or completes it DENIED where its slot, source or destination is
denied to the context. -/
def Obligations.StoresOfLanesAndMemory : Prop :=
  (∀ (s : State) (cx : Cx) (c : Ctx) (u m : Nat), s.Accepts cx c [⟨Reg.Lan.UL_MODE, [u], m⟩] (Reg.Lan.UL_MODE.addr [u]) → 
     exec (.ulMode cx u m) s = .next ((s.setUlMode u m).advertise u)) ∧
  (∀ (s : State) (cx : Cx) (c : Ctx) (u v : Nat), s.Accepts cx c [⟨Reg.Lan.UL_EN, [u], v⟩] (Reg.Lan.UL_EN.addr [u]) → 
     exec (.ulEn cx u v) s = .next (s.setUlEn u v)) ∧
  (∀ (s : State) (u m : Nat), u < 32 → 1 ≤ m → m ≤ 9 → 
     (s.setUlMode u m).rd Reg.Lan.UL_MODE [u] = m ∧ (s.setUlMode u m).rd Reg.Lan.TRAINING [u] = 1 ∧ (s.setUlMode u m).rd Reg.Lan.MEMBER [u] = 0 ∧ (s.setUlMode u m).rd Reg.Lan.LINK_UP [u] = 0) ∧
  (∀ (s : State) (u : Nat), u < 32 → s.rd Reg.Lan.UL_MODE [u] ≤ 9 → 
     (s.setUlEn u 1).rd Reg.Lan.UL_EN [u] = 1 ∧ ∀ l ∈ s.portLanes u, (s.setUlEn u 1).rd Reg.Lan.PWR_TX [l] = 0 ∧ (s.setUlEn u 1).rd Reg.Lan.PWR_RX [l] = 0) ∧
  (∀ (s : State) (cx : Cx) (c : Ctx) (l v : Nat), s.Accepts cx c [⟨Reg.Lan.PRBS_GEN, [l], v⟩] (Reg.Lan.PRBS_GEN.addr [l]) → 
     exec (.prbsStart cx l false v) s = .next (s.wr Reg.Lan.PRBS_GEN [l] v)) ∧
  (∀ (s : State) (cx : Cx) (c : Ctx) (l v : Nat), s.Accepts cx c [⟨Reg.Lan.PRBS_CHK, [l], v⟩] (Reg.Lan.PRBS_CHK.addr [l]) → 
     exec (.prbsStart cx l true v) s = .next (((s.wr Reg.Lan.PRBS_CHK [l] v).wr Reg.Lan.PRBS_LOCK [l] 0).wr Reg.Hid.PRBS_RUN [l] 0)) ∧
  (∀ (s : State) (cx : Cx) (c : Ctx) (l tx rx : Nat), s.Accepts cx c [⟨Reg.Lan.PWR_TX, [l], tx⟩, ⟨Reg.Lan.PWR_RX, [l], rx⟩] (Reg.Lan.PWR_TX.addr [l]) → 
     exec (.pwrTxRx cx l tx rx) s = .next (State.powerSet (s.setPower l tx rx) l)) ∧
  (∀ (s : State) (l tx rx : Nat), l < 88 → tx < 4 → rx < 4 → 
     (s.setPower l tx rx).rd Reg.Lan.PWR_TX [l] = tx ∧ (s.setPower l tx rx).rd Reg.Lan.PWR_RX [l] = rx ∧ (rx ≠ 0 → (s.setPower l tx rx).rd Reg.Lan.BLOCK_LOCK [l] = 0 ∧ (s.setPower l tx rx).rd Reg.Lan.ALIGN_LOCK [l] = 0)) ∧
  (∀ (s : State) (cx : Cx) (c : Ctx), s.Accepts cx c [⟨Reg.Mem.MEM_OPEN, [], 1⟩] (Reg.Mem.MEM_OPEN.addr []) → 
     exec (.memOpen cx) s = .next (s.wr Reg.Mem.MEM_OPEN [] 1)) ∧
  (∀ (s : State) (cx : Cx) (c : Ctx), s.Accepts cx c [⟨Reg.Buf.BUF_OPEN, [], 1⟩] (Reg.Buf.BUF_OPEN.addr []) → 
     exec (.bufOpen cx) s = .next (s.wr Reg.Buf.BUF_OPEN [] 1)) ∧
  (∀ (s : State) (cx : Cx) (c : Ctx) (ref v : Nat) (ix : List Nat), Reg.Buf.OWNER.at? ref = some ix → s.Accepts cx c [⟨Reg.Buf.OWNER, ix, v⟩] (Reg.Buf.OWNER.addr ix) → s.pairing = 0 → 
     exec (.owner cx ref v) s = .next (s.setOwner ix v)) ∧
  (∀ (s : State) (p i g v n : Nat) (b : Buf), s.bufs.get? (bufKey p i) = some b → s.ownerTenant v = some n → 
     (s.setOwner [p, i, g] v).bufs.get? (bufKey p i) = some { b with owner := v, tenant := n } ∧ ∀ k, k ≠ bufKey p i → (s.setOwner [p, i, g] v).bufs.get? k = s.bufs.get? k) ∧
  (∀ (s : State) (cx : Cx) (c : Ctx), s.Accepts cx c [⟨Reg.Key.CGO, [], 1⟩] (Reg.Key.CGO.addr []) → c.kind = .script ∨ c.tenant = 0 → 
     exec (.cgo cx) s = .next (s.cgo cx c.tenant (s.ctxDenial (whoOf cx c))))

/-- A store that R28 accepts does exactly this: TR_FREEZE stops a trace and TR_CLEAR empties it and lets it record, but for a retired pair's, which stays stopped; DARK_GO
asks for a dark rehearsal; LC_REQ arms and LC_GO checks the token, leaving its code, a checked step other than to SCRAP pending; MFG_TEST has the device go dark, told to
the twin first in graft-understudy mode; a watchdog kick restarts its period; ROLLBACK_BURN makes the running version the least allowed and uses one fuse. -/
def Obligations.StoresOfTheSystem : Prop :=
  (∀ (s : State) (cx : Cx) (c : Ctx) (core : Nat), s.Accepts cx c [⟨Reg.Cnt.TR_FREEZE, [core], 1⟩] (Reg.Cnt.TR_FREEZE.addr [core]) → 
     exec (.trFreeze cx core) s = .next (s.freezeTrace core 1)) ∧
  (∀ (s : State) (cx : Cx) (c : Ctx) (core : Nat), s.Accepts cx c [⟨Reg.Cnt.TR_CLEAR, [core], 1⟩] (Reg.Cnt.TR_CLEAR.addr [core]) → 
     exec (.trClear cx core) s = .next (s.clearTrace core)) ∧
  (∀ (s : State) (core : Nat), core < 80 → 
     (s.freezeTrace core 1).rd Reg.Cnt.TR_FROZEN [core] = 1 ∧ (s.clearTrace core).rd Reg.Cnt.TR_FROZEN [core] = (if s.isRetired core then s.rd Reg.Cnt.TR_FROZEN [core] else 0) ∧ (s.clearTrace core).rd Reg.Cnt.TR_PTR [core] = 0 ∧ (s.clearTrace core).rd Reg.Cnt.TR_FULL [core] = 0) ∧
  (∀ (s : State) (cx : Cx) (c : Ctx) (z : Nat), s.Accepts cx c [⟨Reg.Reh.DARK_GO, [z], 1⟩] (Reg.Reh.DARK_GO.addr [z]) → 
     exec (.darkGo cx z) s = .next (s.wr Reg.Reh.DARK_BUSY [z] 1)) ∧
  (∀ (s : State) (cx : Cx) (c : Ctx), s.Accepts cx c [⟨Reg.Reh.LC_REQ, [], 1⟩] (Reg.Reh.LC_REQ.addr []) → 
     exec (.lcReq cx) s = .next (s.wr Reg.Hid.LC_ASKED [0] 1)) ∧
  (∀ (s : State) (cx : Cx) (c : Ctx), s.Accepts cx c [⟨Reg.Reh.LC_GO, [], 1⟩] (Reg.Reh.LC_GO.addr []) → 
     exec (.lcGo cx) s = .next (s.lcGo)) ∧
  (∀ (s : State), s.tokenCheck ≠ (0, 0) → s.tokenCheck.1 < 256 → s.tokenCheck.2 < 256 → s.tokenCheck.1 ≠ 0 → 
     s.lcGo = ((s.wr Reg.Hid.LC_ASKED [0] 0).wr Reg.Reh.LC_STAT [] s.tokenCheck.1).wr Reg.Reh.LC_SUB [] s.tokenCheck.2) ∧
  (∀ (s : State), s.tokenByte 5 ≠ 4 → 
     s.lcGo.rd Reg.Reh.LC_PENDING [] = (if s.tokenCheck = (0, 0) then s.tokenByte 5 % 8 else s.rd Reg.Reh.LC_PENDING []) ∧ s.lcGo.lifecycle = s.lifecycle ∧ (s.tokenCheck = (0, 0) → s.tokenByte 5 = s.lifecycle + 1)) ∧
  (∀ (s : State) (cx : Cx) (c : Ctx), s.Accepts cx c [⟨Reg.Reh.MFG_TEST, [], 1⟩] (Reg.Reh.MFG_TEST.addr []) → 
     exec (.mfgTest cx) s = .next (if s.pairing = 2 then (s.wr Reg.Hid.MFG [0] 1).wr Reg.Hid.RST_NOTICE [0] 1 else s.wr Reg.Hid.MFG [0] 1)) ∧
  (∀ (s : State) (cx : Cx) (c : Ctx), s.Accepts cx c [⟨Reg.Pwr.WDOG_KICK, [], 0xA5C3⟩] (Reg.Pwr.WDOG_KICK.addr []) → 
     exec (.wdogKick cx 0xA5C3) s = .next (s.wr Reg.Hid.WDOG_AT [0] s.ext)) ∧
  (∀ (s : State) (cx : Cx) (c : Ctx), s.Accepts cx c [⟨Reg.Pwr.ROLLBACK_BURN, [], 1⟩] (Reg.Pwr.ROLLBACK_BURN.addr []) → 
     exec (.rollbackBurn cx) s = .next ((s.wr Reg.Pwr.FUSED_MIN [] (s.rd Reg.Pwr.SYS_VERSION [])).wr Reg.Pwr.BURNS_LEFT [] (s.rd Reg.Pwr.BURNS_LEFT [] - 1)))

/-- Each of these causes resets the device, keeps it in reset and stores its reading. A reset leaves its number in RST_CAUSE, one more in RST_COUNT, no context, every port
dark and off, the fuses as they were, the life cycle that the fuses hold, PWR_GOOD low. A voltage or temperature that does not reach its limit resets nothing. -/
def Obligations.ResetsThatHold : Prop :=
  (∀ (s : State), 
     exec .resetN s = .next ((s.deviceReset 1).hold 1 true)) ∧
  (∀ (s : State) (low : Nat), low < 1550 → 
     exec (.vinReset low) s = .next ((((s.deviceReset 4).hold 4 true).wr Reg.Pwr.RST_VIN [] (if s.flag Reg.Pwr.DIP_ACTIVE [] then min low (s.rd Reg.Hid.DIP_LOW [0]) else low)).wr Reg.Pwr.VIN_MV [] (if s.flag Reg.Pwr.DIP_ACTIVE [] then min low (s.rd Reg.Hid.DIP_LOW [0]) else low))) ∧
  (∀ (s : State) (vin : Nat), 3950 < vin → 
     exec (.overVoltageShutdown vin) s = .next ((List.range 8).foldl (fun u i => (u.wr Reg.Pwr.RAIL_OK [i] 0).wr Reg.Pwr.RAIL_MV [i] 0) (((s.deviceReset 6).hold 6 true).wr Reg.Pwr.VIN_MV [] vin))) ∧
  (∀ (s : State) (r mv : Nat), r < 8 → 
     exec (.railOutOfRegulation r mv) s = .next ((((s.deviceReset 5).hold 5 true).wr Reg.Pwr.RAIL_OK [r] 0).wr Reg.Pwr.RAIL_MV [r] mv)) ∧
  (∀ (s : State) (temp : Int), s.tjMax ≤ temp → 
     exec (.thermalShutdown temp) s = .next (((s.deviceReset 8).hold 8 true).wr Reg.Pwr.TEMP_MAX [] (unsigned 8 temp))) ∧
  (∀ (s : State), 
     exec .rootPllUnlock s = .next (((s.deviceReset 7).hold 7 true).wr Reg.Pwr.ROOT_LOCK [] 0)) ∧
  (∀ (s : State) (k : Nat), k ≤ 10 → 
     s.ResetHeld ((s.deviceReset k).hold k true) k) ∧
  (∀ (s : State) (low vin : Nat) (temp : Int), 1550 ≤ low → vin ≤ 3950 → temp < s.tjMax → 
     exec (.vinReset low) s = .next s ∧ exec (.overVoltageShutdown vin) s = .next s ∧ exec (.thermalShutdown temp) s = .next s)

/-- A watchdog that expires, a DEV_RESET with key 0xC1EA, the end of a reset notice and EXTEST reset the device for causes 2, 3, 3 and 10 and power-up follows at once;
DEV_RESET in graft-understudy mode gives notice first, and with another key it is refused. A released pin, PLL, temperature or supply lets a device that nothing else
holds power up. Without an image it waits for one; a verified image starts the system context of every stagehand. BOOT_GO boots the image it fetches or keeps its code,
and is refused outside the wait. READY rises once stage time runs with the pairing chosen and memory and buffers open. -/
def Obligations.ResetsThatBoot : Prop :=
  (∀ (s : State) (b : Boot), s.flag Reg.Hid.SYS_RUN [0] = true → s.flag Reg.Pwr.WDOG_EN [] = true → s.flag Reg.Bar.SYS_HALTED [] = false → s.rd Reg.Hid.HELD [0] = 0 → 
     exec (.watchdogExpiry b) s = .next (((if s.timeOn then s.advanceTo (s.rd Reg.Hid.WDOG_AT [0] + msTicks (s.rd Reg.Pwr.WDOG_MS [])) else s).deviceReset 2).powerUp b)) ∧
  (∀ (s : State) (b : Boot), s.pairing ≠ 2 → s.rd Reg.Hid.HELD [0] = 0 → 
     exec (.devReset 0xC1EA b) s = .next ((s.deviceReset 3).powerUp b)) ∧
  (∀ (s : State) (b : Boot), s.pairing = 2 → s.rd Reg.Hid.RST_AT [0] = 0 → 
     exec (.devReset 0xC1EA b) s = .next ((s.wr Reg.Hid.RST_NOTICE [0] 1).wr Reg.Hid.RST_AT [0] (s.ext + usTicks 274))) ∧
  (∀ (s : State) (b : Boot) (k : Nat), k % 65536 ≠ 0xC1EA → 
     exec (.devReset k b) s = .next (s.hostErr 0 0x10 0x7F 6) ∧ (s.hostErr 0 0x10 0x7F 6).ErrNoted 0 0x10 0x7F 6) ∧
  (∀ (s : State) (b : Boot), s.rd Reg.Hid.RST_AT [0] ≠ 0 → s.rd Reg.Hid.HELD [0] = 0 → 
     exec (.resetAfterNotice b) s = .next (((if s.litMask = 0 then s else s.advanceTo (s.rd Reg.Hid.RST_AT [0])).deviceReset 3).powerUp b)) ∧
  (∀ (s : State) (b : Boot), s.rd Reg.Hid.HELD [0] = 0 → 
     exec (.extest b) s = .next ((s.deviceReset 10).powerUp b)) ∧
  (∀ (s : State) (k : Nat), k ≤ 10 → 
     s.ResetTo (s.deviceReset k) k) ∧
  (∀ (s : State) (b : Boot), bareBoot b → s.lifecycle ≠ 4 → s.cpu.ctxs = [] → s.rd Reg.Bar.READY [] = 0 → 
     (s.powerUp b).Waiting ∧ (s.powerUp b).rd Reg.Pwr.RST_CAUSE [] = s.rd Reg.Pwr.RST_CAUSE [] ∧ (s.powerUp b).rd Reg.Bar.UNIT [] = b.unit % 2 ∧ ∀ r, 5 ≤ r → r < 8 → (s.powerUp b).rd Reg.Pwr.RAIL_OK [r] = 1) ∧
  (∀ (s : State) (b : Boot) (i : Image), b.src % 4 < 2 → b.slot0 = some i → s.lifecycle ≠ 4 → s.checkImage i 1 none 0 0 = (0, 0) → 
     (s.bootRom b).rd Reg.Hid.SYS_RUN [0] = 1 ∧ (s.bootRom b).rd Reg.Bar.BOOT_WAIT [] = 0 ∧ (s.bootRom b).rd Reg.Pwr.BOOT_CODE0 [] = 0 ∧
      ∀ n < 8, ∃ c, (s.bootRom b).ctx? ⟨72 + n, 0⟩ = some c ∧ c.kind = .system ∧ c.pc = i.entry ∧ ∀ k, c.reg k = 0) ∧
  (∀ (s : State) (b : Boot), s.rd Reg.Hid.HELD [0] &&& 113 ≠ 0 → s.rd Reg.Hid.HELD [0] ||| 113 = 113 → 
     exec (.powerUp false b) s = .next ((((List.range 5).foldl (fun u i => u.wr Reg.Pwr.RAIL_OK [i] 1) s).wr Reg.Hid.HELD [0] 0).powerUp b)) ∧
  (∀ (s : State) (b : Boot), s.rd Reg.Hid.HELD [0] &&& 113 ≠ 0 → s.rd Reg.Hid.HELD [0] ||| 113 = 113 → 
     exec (.powerUp true b) s = .next ((((List.range 5).foldl (fun u i => u.wr Reg.Pwr.RAIL_OK [i] 1) (((s.wr Reg.Pwr.RST_CAUSE [] 0).wr Reg.Pwr.RST_COUNT [] 0).wr Reg.Pwr.RST_VIN [] 0)).wr Reg.Hid.HELD [0] 0).powerUp b)) ∧
  (∀ (s : State) (b : Boot), s.rd Reg.Hid.HELD [0] = 2 → 
     exec (.resetNRelease b) s = .next ((s.wr Reg.Hid.HELD [0] 0).powerUp b)) ∧
  (∀ (s : State) (b : Boot), s.rd Reg.Hid.HELD [0] = 2 ^ 7 → 
     exec (.rootPllLock b) s = .next (((s.wr Reg.Pwr.ROOT_LOCK [] 1).wr Reg.Hid.HELD [0] 0).powerUp b)) ∧
  (∀ (s : State) (temp : Int) (b : Boot), temp ≤ s.tjMax - 15 → s.rd Reg.Hid.HELD [0] = 2 ^ 8 → 
     exec (.thermalShutdownRelease temp b) s = .next (((s.wr Reg.Pwr.TEMP_MAX [] (unsigned 8 temp)).wr Reg.Hid.HELD [0] 0).powerUp b)) ∧
  (∀ (s : State) (i : Image) (n : Nat), s.flag Reg.Bar.BOOT_WAIT [] = true → s.checkImage i 1 (some (s.rd Reg.Bar.BOOT_LEN [])) 0 0 = (0, 0) → 
     exec (.bootGo (.ok i) n) s = .next (((s.wr Reg.Pwr.BOOT_CODE2 [] 0).startSystem (countedImage i) 2).trainMemory n)) ∧
  (∀ (s : State) (i : Image) (n : Nat), s.flag Reg.Bar.BOOT_WAIT [] = true → (s.checkImage i 1 (some (s.rd Reg.Bar.BOOT_LEN [])) 0 0).1 ≠ 0 → 
     exec (.bootGo (.ok i) n) s = .next ((s.wr Reg.Pwr.BOOT_CODE2 [] (s.checkImage i 1 (some (s.rd Reg.Bar.BOOT_LEN [])) 0 0).1).wr Reg.Pwr.BOOT_SUB [] (s.checkImage i 1 (some (s.rd Reg.Bar.BOOT_LEN [])) 0 0).2)) ∧
  (∀ (s : State) (d : Dma) (n : Nat), s.flag Reg.Bar.BOOT_WAIT [] = false → 
     exec (.bootGo d n) s = .next (s.hostErr 0 0x28 0x7F 6)) ∧
  (∀ (s : State), s.flag Reg.Hid.SYS_RUN [0] = true → s.timeOn = true → s.flag Reg.Twn.PAIR_SET [] = true → s.flag Reg.Mem.MEM_OPEN [] = true → s.flag Reg.Buf.BUF_OPEN [] = true → s.flag Reg.Bar.READY [] = false → 
     exec .bootReady s = .next ((s.wr Reg.Bar.READY [] 1).raise 0xF7 (Reg.Pwr.BOOT_SRC_S.addr []) [s.rd Reg.Pwr.BOOT_SRC_S [], s.rd Reg.Pwr.BOOT_SLOT [], s.rd Reg.Pwr.SYS_VERSION []])) ∧
  (∀ (s : State), s.flag Reg.Mem.MEM_OPEN [] = false ∨ s.flag Reg.Buf.BUF_OPEN [] = false ∨ s.timeOn = false → 
     exec .bootReady s = .next s)

/-- A function-level reset returns the rings of one virtual function to reset and no other's; a PF reset, a link that goes down and PERST# return those of every function,
PB_WIN and VFS_EN, and leave the ports and stage time as they are. A link comes up at the rates and widths of R93 only. A posted store of an object word has the effect of
the store, goes to the twin where the address names it, or comes back refused; BAR0 writes of the interrupt word, MSI-X masks, VF Enable and the reads of the three BARs
do exactly what is said here; a BAR0 write of a wrong size is recorded. -/
def Obligations.ResetsOfTheHost : Prop :=
  (∀ (s : State) (v : Nat), 1 ≤ v → v ≤ 15 → 
     exec (.functionLevelReset v) s = .next (s.resetFunction v)) ∧
  (∀ (s : State) (v : Nat), v ≤ 15 → 
     (s.resetFunction v).RingsReset v ∧ (∀ f < 16, f ≠ v → (s.resetFunction v).rd Reg.Bar.SQ_TAIL [f] = s.rd Reg.Bar.SQ_TAIL [f] ∧ (s.resetFunction v).rd Reg.Bar.CQ_EN [f] = s.rd Reg.Bar.CQ_EN [f]) ∧ (s.resetFunction v).ext = s.ext ∧ (s.resetFunction v).out = s.out ∧ (s.resetFunction v).cpu.mem = s.cpu.mem) ∧
  (∀ (s : State) (down : Bool), 
     exec (.pfReset down) s = .next (if down then s.resetHost.linkDown else s.resetHost)) ∧
  (∀ (s : State), 
     exec .perstN s = .next s.resetHost.linkDown) ∧
  (∀ (s : State), 
     (∀ f < 16, s.resetHost.RingsReset f) ∧ s.resetHost.rd Reg.Bar.PB_WIN [] = 0 ∧ s.resetHost.rd Reg.Hst.VFS_EN [] = 0 ∧ s.resetHost.rd Reg.Hst.LINK_UP [] = s.rd Reg.Hst.LINK_UP [] ∧ s.resetHost.linkDown.rd Reg.Hst.LINK_UP [] = 0 ∧ s.resetHost.ext = s.ext ∧ s.resetHost.out = s.out ∧ (∀ p < 64, s.resetHost.rd Reg.Pon.LIT [p] = s.rd Reg.Pon.LIT [p])) ∧
  (∀ (s : State) (g w : Nat), g ∈ [2, 5, 8, 16, 32] → w ∈ [1, 2, 4, 8] → 
     exec (.pcieLinkUp g w) s = .next (((s.wr Reg.Hst.LINK_UP [] 1).wr Reg.Hst.LINK_GTS [] g).wr Reg.Hst.LINK_WIDTH [] w)) ∧
  (∀ (s : State) (g w : Nat), g ∉ [2, 5, 8, 16, 32] ∨ w ∉ [1, 2, 4, 8] → 
     exec (.pcieLinkUp g w) s = .next s) ∧
  (∀ (s t : State) (cx : Cx) (c : Ctx) (a v : Word), s.ctx? cx = some c → s.toTwin a = false → (s.freeWord).2.storeWord (whoOf cx c) a.toNat (s.freeWord).1 v = ((0, 0), t) → 
     exec (.registerWrite (.object cx a v)) s = .next t) ∧
  (∀ (s t : State) (cx : Cx) (c : Ctx) (a v : Word) (x : Sub), s.ctx? cx = some c → s.toTwin a = false → (s.freeWord).2.storeWord (whoOf cx c) a.toNat (s.freeWord).1 v = (x, t) → x.1 ≠ 0 → 
     exec (.registerWrite (.object cx a v)) s = .next (t.refuseStore cx x a (s.freeWord).1)) ∧
  (∀ (s : State) (cx : Cx) (c : Ctx) (v : Nat), s.ctx? cx = some c → c.kind = .system → v ≤ 600 → 
     ∃ t, exec (.registerWrite (.object cx (BitVec.ofNat 40 (Reg.Pwr.DIP_HOLD.addr [])) (BitVec.ofNat 40 (s.rd Reg.Pwr.VIN_WARN [] + v * 2 ^ 11)))) s = .next t ∧ t.rd Reg.Pwr.DIP_HOLD [] = v ∧ t.rd Reg.Pwr.VIN_WARN [] = s.rd Reg.Pwr.VIN_WARN [] ∧ t.cpu = s.cpu ∧ t.out = s.out ∧ t.evs = s.evs) ∧
  (∀ (s : State) (f v : Nat), f < 16 → (f = 0 → s.flag Reg.Bar.BOOT_WAIT [] = false) → v < 2 ^ 15 → 
     exec (.registerWrite (.bar0 f 0x1060 8 v)) s = .next (((((s.settleStalls).wr Reg.Bar.CQ_VEC [f] v).wr Reg.Bar.EQ_VEC [f] (v / 16)).wr Reg.Bar.ERR_VEC [f] (v / 256)).wr Reg.Bar.IRQ_EN [f] (v / 4096)).settleStalls) ∧
  (∀ (s : State) (f v : Nat) (m : Bool), f < 16 → v < 16 → m = true ∨ s.flag Reg.Hid.MSIX_PEND [f, v] = false → 
     exec (.registerWrite (.msixMask f v m)) s = .next (s.wr Reg.Hid.MSIX_MASK [f, v] (bit m))) ∧
  (∀ (s : State) (f v : Nat), f < 16 → v < 16 → s.flag Reg.Hid.MSIX_PEND [f, v] = true → 
     ∃ t, exec (.registerWrite (.msixMask f v false)) s = .next t ∧ t.rd Reg.Hid.MSIX_PEND [f, v] = 0 ∧ t.rd Reg.Hid.MSIX_MASK [f, v] = 0 ∧ t.out = s.out ++ [.msix f v]) ∧
  (∀ (s : State) (on : Bool), s.flag Reg.Hst.LINK_UP [] = true → 
     exec (.registerWrite (.vfEnable on)) s = .next (s.wr Reg.Hst.VFS_EN [] (bit on))) ∧
  (∀ (s : State) (f off size : Nat), f < 16 → size = 8 ∨ size = 4 → 
     exec (.registerWrite (.bar0Read f off size)) s = .next ((s.settleStalls.barAfter f off).emit (.hostRead 0 f off (s.settleStalls.barRead f off size)))) ∧
  (∀ (s : State) (f off size : Nat), f < 16 → 
     exec (.registerWrite (.bar2Read f off size)) s = .next (s.emit (.hostRead 2 f off (s.bar2Read f off size)))) ∧
  (∀ (s : State) (off len : Nat), len ∈ [8, 16, 32, 64, 128, 256, 512] → off % len = 0 → 
     exec (.registerWrite (.bar4Read off len)) s = .next (s.emit (.hostRead 4 0 off (s.bar4Read off len)))) ∧
  (∀ (s : State) (f off size v : Nat), f < 16 → size ≠ 8 ∨ off % 8 ≠ 0 → 
     exec (.registerWrite (.bar0 f off size v)) s = .next (s.settleStalls.hostErr f off 0x7E 1).settleStalls)

/-- A dip starts with its lowest voltage and the penalty of every tree, and ends recorded and counted, the penalty withdrawn at once or held for DIP_HOLD seconds; OV_WARN
rises at 3.75 V and falls at 3.70 V; a rail that becomes critical, or is clear again, is recorded, RAIL_CRIT follows; THERM_WARN rises at TJ_WARN and falls 5 degrees
below; VCORE takes the value of one step of the loop, which moves by at most 2.5 mV and stays within its fences; the bit of a fractional PLL follows its lock, and one
that clocks lanes takes their locks with it. TRST_N changes nothing. -/
def Obligations.SupplyAndTemperature : Prop :=
  (∀ (s : State) (vin : Nat), s.rd Reg.Hid.HELD [0] = 0 → s.flag Reg.Pwr.DIP_ACTIVE [] = false → vin < s.rd Reg.Pwr.VIN_WARN [] → 
     exec (.dipStart vin) s = .next (((((((s.wr Reg.Pwr.VIN_MV [] vin).wr Reg.Pwr.DIP_ACTIVE [] 1).wr Reg.Hid.DIP_LOW [0] vin).wr Reg.Hid.DIP_AT [0] s.ext).wr Reg.Hid.DIP_END [0] 0).wr Reg.Pwr.DIP_HOLD_LEFT [] 0).setPenAll 5 true)) ∧
  (∀ (s : State) (b : Nat) (v : Bool), b < 7 → 
     (∀ z < 64, ((s.setPenAll b v).rd Reg.Twn.PEN [z]).testBit b = v) ∧ (s.setPenAll b v).cpu = s.cpu ∧ (s.setPenAll b v).out = s.out ∧ (s.setPenAll b v).evs = s.evs) ∧
  (∀ (s : State) (low vin us : Nat), s.flag Reg.Pwr.DIP_ACTIVE [] = true → s.rd Reg.Pwr.VIN_WARN [] + 20 < vin → vin < 2 ^ 13 → us < 2 ^ 27 → 
     ∃ t, exec (.supplyDip low vin us) s = .next t ∧ t.rd Reg.Pwr.DIP_ACTIVE [] = 0 ∧ t.rd Reg.Pwr.VIN_MV [] = vin ∧ t.rd Reg.Pwr.VIN_MIN [] = min low (s.rd Reg.Hid.DIP_LOW [0]) % 2 ^ 13 ∧ t.rd Reg.Pwr.DIP_US [] = us ∧ t.rd Reg.Pwr.DIPS [] = (s.rd Reg.Pwr.DIPS [] + 1) % 2 ^ 40 ∧ (s.rd Reg.Pwr.DIP_HOLD [] ≠ 0 → t.rd Reg.Pwr.DIP_HOLD_LEFT [] = s.rd Reg.Pwr.DIP_HOLD [] ∧ ∀ z < 64, t.rd Reg.Twn.PEN [z] = s.rd Reg.Twn.PEN [z]) ∧ (s.rd Reg.Pwr.DIP_HOLD [] = 0 → ∀ z < 64, (t.rd Reg.Twn.PEN [z]).testBit 5 = false) ∧ t.cpu = s.cpu ∧ t.out = s.out) ∧
  (∀ (s : State), s.rd Reg.Hid.DIP_END [0] ≠ 0 → 
     exec .dipHoldExpiry s = .next ((((s.advanceTo (s.rd Reg.Hid.DIP_END [0] - 1)).wr Reg.Hid.DIP_END [0] 0).wr Reg.Pwr.DIP_HOLD_LEFT [] 0).setPenAll 5 false)) ∧
  (∀ (s : State) (vin : Nat), vin < 2 ^ Reg.Pwr.VIN_MV.w → 
     ∃ t, exec (.supplyOvWarn vin) s = .next t ∧ t.rd Reg.Pwr.VIN_MV [] = vin ∧ t.rd Reg.Pwr.OV_WARN [] = (if 3750 ≤ vin then 1 else if vin ≤ 3700 then 0 else s.rd Reg.Pwr.OV_WARN []) ∧ t.cpu = s.cpu ∧ t.out = s.out) ∧
  (∀ (s : State) (r mv : Nat) (crit : Bool), r < 8 → s.flag Reg.Pwr.RAIL_CRIT_R [r] ≠ crit → mv < 2 ^ Reg.Pwr.RAIL_MV.w → 
     ∃ t, exec (.railCritical r mv crit) s = .next t ∧ t.rd Reg.Pwr.RAIL_CRIT_R [r] = bit crit ∧ t.rd Reg.Pwr.RAIL_MV [r] = mv ∧ (crit = true → t.rd Reg.Pwr.RAIL_CRIT [] = 1) ∧ (crit = false → (∀ i < 8, i ≠ r → s.rd Reg.Pwr.RAIL_CRIT_R [i] = 0) → t.rd Reg.Pwr.RAIL_CRIT [] = 0) ∧ t.cpu = s.cpu ∧ t.out = s.out) ∧
  (∀ (s : State) (temp : Int) (sensor : Nat), -128 ≤ temp → temp ≤ 127 → sensor < 8 → 
     ∃ t, exec (.thermalWarn temp sensor) s = .next t ∧ t.rd Reg.Pwr.TEMP_MAX [] = unsigned 8 temp ∧ t.rd Reg.Pwr.TEMP_SENSOR [] = sensor ∧ t.rd Reg.Pwr.THERM_WARN [] = (if (s.rd Reg.Pwr.TJ_WARN [] : Int) ≤ temp then 1 else if temp ≤ (s.rd Reg.Pwr.TJ_WARN [] : Int) - 5 then 0 else s.rd Reg.Pwr.THERM_WARN []) ∧ t.cpu = s.cpu ∧ t.out = s.out) ∧
  (∀ (s : State) (o : AvsObs), s.rd Reg.Hid.HELD [0] = 0 → 
     ∃ t, exec (.avsUpdate o) s = .next t ∧ t.rd Reg.Hid.VCORE_H [0] = (s.avsStep o).1 % 2 ^ Reg.Hid.VCORE_H.w ∧ t.rd Reg.Pwr.AVS_AT_FENCE [] = (s.avsStep o).2 ∧ t.cpu = s.cpu ∧ t.out = s.out) ∧
  (∀ (s : State) (o : AvsObs), s.rd Reg.Pwr.VCORE_MIN [] ≤ s.rd Reg.Pwr.VCORE_MAX [] → 2 * s.rd Reg.Pwr.VCORE_MIN [] ≤ s.rd Reg.Hid.VCORE_H [0] → s.rd Reg.Hid.VCORE_H [0] ≤ 2 * s.rd Reg.Pwr.VCORE_MAX [] → s.flag Reg.Pwr.AVS_EN [] = true → 
     2 * s.rd Reg.Pwr.VCORE_MIN [] ≤ (s.avsStep o).1 ∧ (s.avsStep o).1 ≤ 2 * s.rd Reg.Pwr.VCORE_MAX [] ∧ (s.avsStep o).1 ≤ s.rd Reg.Hid.VCORE_H [0] + 5 ∧ s.rd Reg.Hid.VCORE_H [0] ≤ (s.avsStep o).1 + 5 ∧ (s.avsStep o).2 ≤ 2) ∧
  (∀ (s : State) (j : Nat), j < 4 → 
     exec (.fractionalPllUnlock j) s = .next ((s.clocked j).foldl (fun u l => if u.flag Reg.Lan.BLOCK_LOCK [l] then u.laneLock l false false else u) (s.setBit Reg.Pwr.PLL_STAT [] j true))) ∧
  (∀ (s : State) (j : Nat), j < 4 → 
     exec (.fractionalPllLock j) s = .next (s.setBit Reg.Pwr.PLL_STAT [] j false)) ∧
  (∀ (s : State) (j : Nat) (v : Bool), j < 4 → 
     ((s.setBit Reg.Pwr.PLL_STAT [] j v).rd Reg.Pwr.PLL_STAT []).testBit j = v ∧ ∀ k < 4, k ≠ j → ((s.setBit Reg.Pwr.PLL_STAT [] j v).rd Reg.Pwr.PLL_STAT []).testBit k = (s.rd Reg.Pwr.PLL_STAT []).testBit k) ∧
  (∀ (s : State), 
     exec .trstN s = .next s)

/-- FRAME_BOUNDARY of a head-role tree numbers the frame on, from 0 the first time, starts it at the boundary of its grid with an open, empty sheet where no cue changes it
meanwhile; LIT of a tail-role port follows LIGHT once training has ended, and where the port goes dark a burst being sent is cut. SHEET_DEADLINE fixes the sheet of the
frame, counting it in SHEETS_OK when it was sealed in time and in LATE_SHEETS when it was not sealed. A lockstep mismatch retires the pair and counts it, and a free wings
pair is on its way to the tree, two boundaries off. -/
def Obligations.FramesAndSheets : Prop :=
  (∀ (s : State) (z : Nat) (plain : Bool), s.framing z = true → s.flag Reg.Pon.BOND_PARTNER [z] = false → s.timeOn = true → 
     exec (.frameBoundary z plain) s = .next (s.boundary z (s.nextBoundary z) plain)) ∧
  (∀ (s : State) (z : Nat) (plain : Bool), s.framing z = true → s.flag Reg.Pon.BOND_PARTNER [z] = false → s.timeOn = true → (∀ q ∈ s.ptp.cues, s.boundDue z (s.nextBoundary z) q = false) → 
     ∃ t, exec (.frameBoundary z plain) s = .next t ∧ t.rd Reg.Cue.FRAME [z] = (if s.flag Reg.Hid.F_RUN [z] then (s.rd Reg.Cue.FRAME [z] + 1) % 2 ^ 40 else 0) ∧ t.rd Reg.Cue.F_START [z] = s.nextBoundary z % 2 ^ 40 ∧
      t.rd Reg.Hid.F_RUN [z] = 1 ∧ (t.tree z).sheet = [] ∧ (t.tree z).sealed = false ∧ (t.tree z).fixed = none ∧ s.nextBoundary z ≤ t.ext) ∧
  (∀ (s : State) (p : Nat) (plain : Bool), p < 64 → s.tail p = true → 
     exec (.frameBoundary p plain) s = .next (if s.flag Reg.Pon.LIGHT [p] = true ∧ s.flag Reg.Pon.TRAINING [p] = false ∧ s.flag Reg.Hid.MFG [0] = false then (s.yieldDark p).wr Reg.Pon.LIT [p] 1 else (s.cutBurst p).wr Reg.Pon.LIT [p] 0)) ∧
  (∀ (s : State) (z : Nat), s.framing z = true → s.flag Reg.Hid.F_RUN [z] = true → (s.tree z).fixed = none → s.flag Reg.Pon.BOND_PARTNER [z] = false → s.understudy z = false → s.flag Reg.Cue.LOADED [z] = true → (s.tree z).sealed = true → (s.tree z).late = false → 
     ∃ t, exec (.sheetDeadline z) s = .next t ∧ t = s.fixSheet z ∧ (t.tree z).fixed ≠ none ∧ t.rd Reg.Cue.SHEETS_OK [z] = (s.rd Reg.Cue.SHEETS_OK [z] + 1) % 2 ^ Reg.Cue.SHEETS_OK.w ∧ t.rd Reg.Cue.LATE_SHEETS [z] = s.rd Reg.Cue.LATE_SHEETS [z] ∧ t.ext = (s.advanceTo (s.rd Reg.Hid.D_EXT [z])).ext) ∧
  (∀ (s : State) (z : Nat), s.framing z = true → s.flag Reg.Hid.F_RUN [z] = true → (s.tree z).fixed = none → s.flag Reg.Pon.BOND_PARTNER [z] = false → s.understudy z = false → s.flag Reg.Cue.LOADED [z] = true → (s.tree z).sealed = false → 
     ∃ t, exec (.sheetDeadline z) s = .next t ∧ t = s.fixSheet z ∧ (t.tree z).fixed ≠ none ∧ t.rd Reg.Cue.LATE_SHEETS [z] = (s.rd Reg.Cue.LATE_SHEETS [z] + 1) % 2 ^ Reg.Cue.LATE_SHEETS.w ∧ t.rd Reg.Cue.SHEETS_OK [z] = s.rd Reg.Cue.SHEETS_OK [z] ∧ t.rd Reg.Cue.SEAL_CYCLE [z] = 0xFFFFF) ∧
  (∀ (s : State) (z m : Nat) (rest : List Nat), z < 64 → s.server z < 64 → s.flag Reg.Cue.IDLE_TREE [z] = false → s.rd Reg.Hid.SPARE_STEP [z] = 0 → s.rd Reg.Hid.TEST_STEP [z] = 0 → s.freeWings = m :: rest → m ≠ s.server z → 64 ≤ m → m < 72 → 
     ∃ t, exec (.lockstepMismatch z) s = .next t ∧ t.isRetired (s.server z) = true ∧ t.rd Reg.Hid.SPARE_CORE [z] = m + 1 ∧ t.rd Reg.Hid.SPARE_STEP [z] = 2 ∧ t.ctx? ⟨s.server z, 0⟩ = none ∧ t.rd Reg.Cue.LOCKSTEP_RETIRES [z] = (s.rd Reg.Cue.LOCKSTEP_RETIRES [z] + 1) % 2 ^ Reg.Cue.LOCKSTEP_RETIRES.w)

/-- The candidate with the highest score of at least 58, the earliest of equals, is the burst; it is kept for decoding with its offset and score and the verdict on its
header. A window without one is missed, which counts; at the second miss in a row the preset is invalid. A discovery window keeps its good candidates with their times. A
burst whose header failed is discarded whole; the codewords of another are counted. Energy outside every window is rogue evidence of kind 0 without a suspect. -/
def Obligations.Bursts : Prop :=
  (∀ (s : State) (z : Nat) (w : Win) (ws : List Win) (obs : BurstObs) (d : Int) (sc : Nat), z < 64 → s.head z = true → takeWin .grant (s.tree z).wins = some (w, ws) → w.wide = false → w.term < 1020 → s.ponClock = true → s.timeOn = true → searchDelim (s.searchReach z w) obs.scores = some (d, sc) → 
     ∃ t, exec (.burstReceive z obs) s = .next t ∧ t.rd Reg.Hid.W_FOUND [z] = 1 ∧ t.rd Reg.Hid.MISS_RUN [z, w.term] = 0 ∧ w.fin ≤ t.ext ∧
      (t.tree z).bursts.map (fun b => (b.term, b.allocs, b.d, b.score, b.ok)) = (s.tree z).bursts.map (fun b => (b.term, b.allocs, b.d, b.score, b.ok)) ++ [(w.term, w.allocs, d, sc, obs.headerOk && obs.onu == w.term)]) ∧
  (∀ (s : State) (z : Nat) (w : Win) (ws : List Win) (obs : BurstObs), z < 64 → s.head z = true → takeWin .grant (s.tree z).wins = some (w, ws) → w.wide = false → obs.overrun = false → searchDelim (s.searchReach z w) obs.scores = none → 
     exec (.burstReceive z obs) s = exec (.burstWindowMissed z) s) ∧
  (∀ (s : State) (z : Nat) (w : Win) (ws : List Win), z < 64 → s.head z = true → takeWin .grant (s.tree z).wins = some (w, ws) → 
     exec (.burstWindowMissed z) s = .next (((((s.modTree z (fun tr => { tr with wins := ws })).advanceTo w.closes).armDue z).burstPins z w).missWindow z w)) ∧
  (∀ (s : State) (z : Nat) (w : Win) (ws : List Win), z < 64 → s.head z = true → takeWin .grant (s.tree z).wins = some (w, ws) → w.term < 1020 → s.timeOn = true → s.rd Reg.Hid.MISS_RUN [z, w.term] = 0 → 
     ∃ t, exec (.burstWindowMissed z) s = .next t ∧ t.rd Reg.Hid.MISS_RUN [z, w.term] = 1 ∧ t.rd Reg.Pon.VALID [z, w.term] = s.rd Reg.Pon.VALID [z, w.term] ∧ t.rd Reg.Cnt.CNT [114688 + 32 * z + 5] = (s.rd Reg.Cnt.CNT [114688 + 32 * z + 5] + 1) % 2 ^ 40 ∧ w.fin ≤ t.ext ∧ (t.tree z).bursts = (s.tree z).bursts) ∧
  (∀ (s : State) (z : Nat) (w : Win) (ws : List Win), z < 64 → s.head z = true → takeWin .grant (s.tree z).wins = some (w, ws) → w.term < 1020 → s.rd Reg.Hid.MISS_RUN [z, w.term] = 1 → 
     ∃ t, exec (.burstWindowMissed z) s = .next t ∧ t.rd Reg.Hid.MISS_RUN [z, w.term] = 0 ∧ t.rd Reg.Pon.VALID [z, w.term] = 0 ∧ t.rd Reg.Pon.PRESET_LOST [z] = (s.rd Reg.Pon.PRESET_LOST [z] + s.rd Reg.Pon.VALID [z, w.term]) % 2 ^ Reg.Pon.PRESET_LOST.w) ∧
  (∀ (lim : Int) (l : List (Int × Nat)) (d : Int) (sc : Nat), searchDelim lim l = some (d, sc) → 
     (d, sc) ∈ l ∧ 58 ≤ sc ∧ -lim ≤ d ∧ d ≤ lim ∧ ∀ c ∈ l, 58 ≤ c.2 → c.2 ≤ 64 → -lim ≤ c.1 → c.1 ≤ lim → c.2 < sc ∨ (c.2 = sc ∧ d ≤ c.1)) ∧
  (∀ (s : State) (z : Nat) (w : Win) (ws : List Win) (cs : List Candidate), s.ranges z = true → takeWin .disc (s.tree z).wins = some (w, ws) → 
     exec (.discoveryWindow z cs) s = .next ((((s.modTree z (fun tr => { tr with wins := ws })).advanceTo w.fin).brstAt z w.p).modTree z (fun tr => { tr with found := tr.found ++ (s.goodCands z w cs).map (fun c => (s.candAt z w c, c)) }))) ∧
  (∀ (s : State) (z : Nat) (d : Decoded) (b : Burst) (rest : List Burst), z < 64 → (s.tree z).bursts = b :: rest → b.ok = false → 
     ∃ t, exec (.burstDecoded z d) s = .next t ∧ (t.tree z).bursts = rest ∧ t.rd Reg.Cnt.CNT [114688 + 32 * z + 6] = (s.rd Reg.Cnt.CNT [114688 + 32 * z + 6] + 1) % 2 ^ 40 ∧ t.rd Reg.Cnt.CNT [114688 + 32 * z + 7] = s.rd Reg.Cnt.CNT [114688 + 32 * z + 7] ∧ t.ext = s.ext) ∧
  (∀ (s : State) (z : Nat) (d : Decoded) (b : Burst) (rest : List Burst), z < 64 → (s.tree z).bursts = b :: rest → b.ok = true → d.frames = [] → 
     ∃ t, exec (.burstDecoded z d) s = .next t ∧ (t.tree z).bursts = rest ∧ t.rd Reg.Cnt.CNT [114688 + 32 * z + 4] = (s.rd Reg.Cnt.CNT [114688 + 32 * z + 4] + 1) % 2 ^ 40 ∧ t.rd Reg.Cnt.CNT [114688 + 32 * z + 7] = (s.rd Reg.Cnt.CNT [114688 + 32 * z + 7] + d.codewords) % 2 ^ 40 ∧ t.rd Reg.Cnt.CNT [114688 + 32 * z + 8] = (s.rd Reg.Cnt.CNT [114688 + 32 * z + 8] + d.corrected) % 2 ^ 40 ∧ t.rd Reg.Cnt.CNT [114688 + 32 * z + 9] = (s.rd Reg.Cnt.CNT [114688 + 32 * z + 9] + d.uncorrectable) % 2 ^ 40) ∧
  (∀ (s : State) (z : Nat), z < 64 → s.head z = true → 
     exec (.energyDetected z) s = .next ((s.wr Reg.Hid.W_ENERGY [z] 1).evidence z .energy none)) ∧
  (∀ (s : State) (z : Nat), z < 64 → s.head z = true → s.understudy z = false → 
     ∃ t, exec (.energyDetected z) s = .next t ∧ t.rd Reg.Hid.W_ENERGY [z] = 1 ∧ (t.tree z).kinds = (s.tree z).kinds ||| 1 ∧ (t.tree z).suspects = (s.tree z).suspects ∧ t.ext = s.ext)

/-- A serial number that matches an admitted idle record takes it to SN_KNOWN, one that matches none is counted. A ranging response sets the equalisation delay D_pre - x and
takes the terminal to ACTIVE; a window without one fails the ranging. A REGISTER_REQ with a round trip in range takes an idle EPON terminal to RANGING, REGISTER_ACK to
ACTIVE. A REPORT reaches the digest. LOST_TO deactivates; an unacknowledged Ranging_Time is queued again, a send is counted when it leaves and, after the third, an active
terminal is lost; an Acknowledge ends its wait. Under an integrity slot a message is acted on once its check has completed. A watch that ends holds the terminal tested
alone and clean, or moves the bisection on. -/
def Obligations.RangingOfTerminals : Prop :=
  (∀ (s : State) (z a : Nat) (c : Candidate) (rest : List (Nat × Candidate)) (n : Nat), s.ranges z = true → s.isEpon z = false → (s.tree z).found = (a, c) :: rest → s.recordOf z c.snHi c.snLo = some n → n < 1020 → s.term z n = stIDLE → s.flag Reg.Rng.ADMIN [z, n] = true → 
     ∃ t, exec (.serialNumberOnu z) s = .next t ∧ t.term z n = stSN_KNOWN ∧ (t.tree z).found = rest ∧ t.rd Reg.Rng.SN_UNKNOWN_CNT [z] = s.rd Reg.Rng.SN_UNKNOWN_CNT [z]) ∧
  (∀ (s : State) (z a : Nat) (c : Candidate) (rest : List (Nat × Candidate)), s.ranges z = true → s.isEpon z = false → (s.tree z).found = (a, c) :: rest → s.recordOf z c.snHi c.snLo = none → 
     ∃ t, exec (.serialNumberOnu z) s = .next t ∧ t.rd Reg.Rng.SN_UNKNOWN_CNT [z] = (s.rd Reg.Rng.SN_UNKNOWN_CNT [z] + 1) % 2 ^ Reg.Rng.SN_UNKNOWN_CNT.w ∧ (t.tree z).found = rest) ∧
  (∀ (s : State) (z : Nat) (w : Win) (ws : List Win) (cs : List Candidate) (c : Candidate) (g h ph sd : Nat), s.ranges z = true → s.isEpon z = false → takeWin .rng (s.tree z).wins = some (w, ws) → w.term < 1020 → w.swWrote = false → s.term z w.term = stRANGING → (s.goodCands z w cs).find? (fun x => x.onu == w.term) = some c → c.x ≤ (s.rate z).tickBits (s.dPre z) → (s.rate z).bitTicks ((s.rate z).tickBits (s.dPre z) - c.x) ≤ 2438553 → 
     ∃ t, exec (.rangingResponse z cs g h ph sd) s = .next t ∧ t.term z w.term = stACTIVE ∧ t.rd Reg.Rng.EQD_RTT [z, w.term] = (s.rate z).bitTicks ((s.rate z).tickBits (s.dPre z) - c.x) ∧ t.rd Reg.Pon.VALID [z, w.term] = 1 ∧ t.ext = (s.advanceTo (w.fin)).ext) ∧
  (∀ (s : State) (z : Nat) (w : Win) (ws : List Win) (cs : List Candidate) (g h ph sd : Nat), s.ranges z = true → s.isEpon z = false → takeWin .rng (s.tree z).wins = some (w, ws) → s.goodCands z w cs = [] → 
     exec (.rangingResponse z cs g h ph sd) s = .next ((((((s.modTree z (fun tr => { tr with wins := ws })).advanceTo w.fin).armDue z).brstAt z w.p)).rangeFailed z w.term)) ∧
  (∀ (s : State) (z : Nat) (w : Win) (ws : List Win), s.ranges z = true → takeWin .rng (s.tree z).wins = some (w, ws) → 
     exec (.rangingWindowEnd z) s = .next ((((s.modTree z (fun tr => { tr with wins := ws })).advanceTo w.fin).brstAt z w.p).rangeFailed z w.term)) ∧
  (∀ (s : State) (z : Nat) (w : Win) (ws : List Win), s.ranges z = true → takeWin .rng (s.tree z).wins = some (w, ws) → w.term < 1020 → s.term z w.term = stRANGING → s.rd Reg.Rng.RANGE_TRY [z, w.term] < s.rd Reg.Rng.RANGE_TRIES [z] → s.rd Reg.Hid.RNG_PREV [z, w.term] < 8 → 
     ∃ t, exec (.rangingWindowEnd z) s = .next t ∧ t.term z w.term = s.rd Reg.Hid.RNG_PREV [z, w.term] ∧ t.rd Reg.Rng.RANGE_FAILS [z] = (s.rd Reg.Rng.RANGE_FAILS [z] + 1) % 2 ^ Reg.Rng.RANGE_FAILS.w ∧ t.rd Reg.Rng.RANGE_TRY [z, w.term] = s.rd Reg.Rng.RANGE_TRY [z, w.term]) ∧
  (∀ (s : State) (z n : Nat) (id : List Nat), s.ranges z = true → s.isEpon z = false → n < 1020 → s.rd Reg.Key.MIC_SLOT [z, n] = 0 → 
     ∃ t, exec (.registration z n id) s = .next t ∧ t.rd Reg.Rng.REG_SEEN [z, n] = 1 ∧ .copied z n id ∈ t.out ∧ t.cpu = s.cpu ∧ t.trees = s.trees ∧ t.term z n = s.term z n) ∧
  (∀ (s : State) (z n : Nat) (id : List Nat), s.ranges z = true → s.isEpon z = false → n < 1020 → s.rd Reg.Key.MIC_SLOT [z, n] ≠ 0 → 
     exec (.registration z n id) s = .next (s.hwRequest (.mic z n) none (some (.registration id)))) ∧
  (∀ (s : State) (z n : Nat), s.ranges z = true → s.isEpon z = false → n < 1020 → s.rd Reg.Key.MIC_SLOT [z, n] = 0 → s.rd Reg.Hid.DRIFT_SENDS [z, n] ≠ 0 → 
     exec (.acknowledge z n .rangingTime) s = .next ((s.wr Reg.Hid.DRIFT_SENDS [z, n] 0).wr Reg.Hid.DRIFT_HOLD [z, n] (s.ext + 2 * 777600))) ∧
  (∀ (s : State) (z n : Nat), s.ranges z = true → s.isEpon z = false → n < 1020 → s.rd Reg.Key.MIC_SLOT [z, n] = 0 → 
     exec (.acknowledge z n .changePower) s = .next (s.setTerm Reg.Rng.PWR_BUSY z n 0) ∧ (s.setTerm Reg.Rng.PWR_BUSY z n 0).rd Reg.Rng.PWR_BUSY [z, n] = 0 ∧ exec (.acknowledge z n .other) s = .next s) ∧
  (∀ (s : State) (z n : Nat) (k : AckKind), s.ranges z = true → s.isEpon z = false → n < 1020 → s.rd Reg.Key.MIC_SLOT [z, n] ≠ 0 → 
     exec (.acknowledge z n k) s = .next (s.hwRequest (.mic z n) none (some (.ack k)))) ∧
  (∀ (s : State) (z n : Nat), s.ranges z = true → n < 1020 → 3 ≤ s.rd Reg.Hid.DRIFT_SENDS [z, n] → (s.tree z).ctrl.any (fun m => m.kind == .rangingTime && m.term == n) = false → 
     ∃ t, exec (.rangingTimeAckTimeout z n) s = .next t ∧ t.term z n = (if s.term z n = stACTIVE then stLOST else s.term z n) ∧ t.rd Reg.Hid.DRIFT_SENDS [z, n] = 0 ∧ t.ext = (s.advanceTo (s.rd Reg.Hid.DRIFT_SENT_AT [z, n] + 4 * 777600)).ext) ∧
  (∀ (s : State) (z n : Nat), s.ranges z = true → n < 1020 → s.rd Reg.Hid.DRIFT_SENDS [z, n] = 1 ∨ s.rd Reg.Hid.DRIFT_SENDS [z, n] = 2 → (s.tree z).ctrl.any (fun m => m.kind == .rangingTime && m.term == n) = false → 
     exec (.rangingTimeAckTimeout z n) s = .next ((s.advanceTo (s.rd Reg.Hid.DRIFT_SENT_AT [z, n] + 4 * 777600)).ploam z .rangingTime n [s.eqdBits z n, 1])) ∧
  (∀ (s : State) (z n b : Nat), n < 1020 → s.rd Reg.Hid.DRIFT_SENDS [z, n] < 3 → 
     (s.correctionSent z n b).rd Reg.Hid.DRIFT_SENDS [z, n] = s.rd Reg.Hid.DRIFT_SENDS [z, n] + 1 ∧ (s.correctionSent z n b).rd Reg.Hid.DRIFT_SENT_AT [z, n] = b % 2 ^ Reg.Hid.DRIFT_SENT_AT.w ∧ (s.correctionSent z n b).out = s.out) ∧
  (∀ (s : State) (z a : Nat) (c : Candidate) (rest : List (Nat × Candidate)) (n : Nat), s.ranges z = true → s.isEpon z = true → (s.tree z).found = (a, c) :: rest → s.recordOf z c.snHi c.snLo = some n → n < 1020 → s.term z n = stIDLE → s.flag Reg.Rng.ADMIN [z, n] = true → s.roundTrip z a c.ts ≤ s.rd Reg.Rng.EQD_ZERO [z] → s.rd Reg.Rng.EQD_ZERO [z] ≤ s.roundTrip z a c.ts + 2438553 → 
     ∃ t, exec (.registerReq z) s = .next t ∧ t.term z n = stRANGING ∧ t.rd Reg.Rng.EQD_RTT [z, n] = s.roundTrip z a c.ts % 2 ^ Reg.Rng.EQD_RTT.w ∧ t.rd Reg.Rng.R_MEAS [z, n] = s.roundTrip z a c.ts % 2 ^ Reg.Rng.R_MEAS.w ∧ (t.tree z).found = rest) ∧
  (∀ (s : State) (z n : Nat), s.ranges z = true → s.isEpon z = true → n < 1020 → s.term z n = stRANGING → 
     ∃ t, exec (.registerAck z n) s = .next t ∧ t = (s.enter z n stACTIVE).raise 0x95 (termObj z n) [] ∧ t.term z n = stACTIVE ∧ t.rd Reg.Rng.ACT_STAMP [z, n] = s.now ∧ t.ext = s.ext) ∧
  (∀ (s : State) (z : Nat) (r : BufReport), z < 64 → s.head z = true → s.isEpon z = true → r.alloc < 4096 → 
     ∃ t, exec (.report z [r]) s = .next t ∧ t.regs = s.regs ∧ ∃ d, (t.tree z).dig.get? r.alloc = some d ∧ d.invalid = !r.valid ∧ (r.valid = true → d.backlog = min r.backlog 0xFFFFFF ∧ d.age = 0 ∧ d.fresh = true)) ∧
  (∀ (s : State) (z n : Nat), s.ranges z = true → n < 1020 → s.term z n = stLOST ∨ s.term z n = stSN_KNOWN ∨ (s.term z n = stRANGING ∧ s.isEpon z = true) → 
     ∃ t, exec (.lostToExpiry z n) s = .next t ∧ t.term z n = stIDLE ∧ t.rd Reg.Pon.VALID [z, n] = 0 ∧ t.ext = (s.advanceTo (s.rd Reg.Hid.TERM_SINCE [z, n] + msTicks (s.rd Reg.Rng.LOST_TO [z]))).ext) ∧
  (∀ (s : State) (z n : Nat), s.ranges z = true → (s.tree z).iso.on = true → (s.tree z).iso.watch = 0 → (s.tree z).iso.attributed = true ∨ s.flag Reg.Rng.ROGUE_METHOD [z] = false → (s.tree z).iso.test = [n] → (s.tree z).iso.dirty = false → 
     exec (.rogueWatchEnd z) s = .next (s.isoHold z n)) ∧
  (∀ (s : State) (z a b : Nat) (h rest : List Nat), s.ranges z = true → (s.tree z).iso.on = true → (s.tree z).iso.watch = 0 → (s.tree z).iso.attributed = false → s.flag Reg.Rng.ROGUE_METHOD [z] = true → (s.tree z).iso.test = a :: b :: h → (s.tree z).iso.rest = rest → 
     exec (.rogueWatchEnd z) s = .next (if (s.tree z).iso.dirty then ((a :: b :: h).foldl (fun u t => u.isoEnable z t) s).isoNext z rest else (rest.foldl (fun u t => u.isoEnable z t) s).isoNext z (a :: b :: h))) ∧
  (∀ (s : State) (z n : Nat), s.ranges z = true → (s.tree z).iso.on = true → (s.tree z).iso.watch = 0 → (s.tree z).iso.attributed = true → (s.tree z).iso.test = [n] → n < 1020 → (s.tree z).iso.dirty = false → 
     ∃ t, exec (.rogueWatchEnd z) s = .next t ∧ t.rd Reg.Rng.ROGUE_HELD [z, n] = 1 ∧ t.rd Reg.Rng.ROGUE_STATE [z] = s.rd Reg.Rng.ROGUE_STATE [z] ∧ (t.tree z).iso.on = false ∧ t.term z n = s.term z n) ∧
  (∀ (s : State) (z n : Nat), s.ranges z = true → (s.tree z).iso.on = true → (s.tree z).iso.watch = 0 → (s.tree z).iso.attributed = true → (s.tree z).iso.test = [n] → n < 1020 → (s.tree z).iso.dirty = true → 
     ∃ t, exec (.rogueWatchEnd z) s = .next t ∧ t.rd Reg.Rng.ROGUE_STATE [z] = 3 ∧ (t.tree z).iso.on = false ∧ t.rd Reg.Rng.ROGUE_HELD [z, n] = s.rd Reg.Rng.ROGUE_HELD [z, n])

/-- A pattern at the expected place in SYNC is kept, a fourth miss in a row leaves SYNC; a candidate met twice enters it. A map entry derives its time to one bit from the
frame, the equalisation delay and the start, with the random delay for a serial-number grant; a burst that may be sent raises and drops its enable, another passes; the
guard darkens the port; TAIL_TO2 forgets ONU-ID and delay. Defects follow their intervals. Each consumed message writes what it names and is acknowledged where the port
may send. -/
def Obligations.TailPorts : Prop :=
  (∀ (s : State) (p : Nat) (o : SyncObs), p < 64 → s.tail p = true → s.rd Reg.Pon.TAIL_SYNC [p] = 2 → o.pos = (s.tree p).syncs.getD 0 0 + s.frameBits p → o.errors ≤ 2 → 
     exec (.tailSyncPattern p o) s = .next (s.modTree p (fun tr => { tr with syncs := [o.pos, 0] }))) ∧
  (∀ (s : State) (p : Nat) (o : SyncObs), p < 64 → s.tail p = true → s.rd Reg.Pon.TAIL_SYNC [p] = 2 → o.pos = (s.tree p).syncs.getD 0 0 + s.frameBits p → 2 < o.errors → 3 ≤ (s.tree p).syncs.getD 1 0 → 
     ∃ t, exec (.tailSyncPattern p o) s = .next t ∧ t.rd Reg.Pon.TAIL_SYNC [p] = 0 ∧ (t.rd Reg.Pon.DEFECT [p]).testBit 3 = true ∧ (t.tree p).syncs = [] ∧ (t.tree p).tailQ = []) ∧
  (∀ (s : State) (p : Nat) (o : SyncObs), p < 64 → s.tail p = true → s.rd Reg.Pon.TAIL_SYNC [p] ≠ 2 → o.errors ≤ 2 → (s.tree p).syncs = [o.pos - s.frameBits p] → s.frameBits p ≤ o.pos → 
     ∃ t, exec (.tailSyncPattern p o) s = .next t ∧ t.rd Reg.Pon.TAIL_SYNC [p] = 2 ∧ (t.tree p).syncs = [o.pos, 0] ∧ (t.rd Reg.Pon.DEFECT [p]).testBit 3 = false) ∧
  (∀ (s : State) (p : Nat) (a start size frame : Nat), s.tailSynced p = true → a < 16 → s.flag Reg.Pon.TAIL_ID_VALID [p] = true → 
     exec (.tailMapEntry p a start size frame) s = .next (s.modTree p (fun tr => { tr with tailQ := tr.tailQ ++ [(a, 8 * (frame + 217728) + 8 * (s.rate p).bNum * (s.rd Reg.Pon.TAIL_EQD [p] + 32 * start) / (s.rate p).bDen, size)] }))) ∧
  (∀ (s : State) (p : Nat) (start size frame : Nat), s.tailSynced p = true → s.flag Reg.Pon.TAIL_ID_VALID [p] = false → 
     exec (.tailMapEntry p 16 start size frame) s = .next ((s.randomDelay p).2.modTree p (fun tr => { tr with tailQ := tr.tailQ ++ [(16, 8 * (frame + 217728) + 8 * (s.rate p).bNum * (s.rd Reg.Pon.TAIL_EQD [p] + 32 * start + (s.randomDelay p).1) / (s.rate p).bDen, size)] })) ∧ (s.randomDelay p).1 ≤ (s.rate p).tickBits (usTicks 48)) ∧
  (∀ (s : State) (p : Nat) (ploam : Bool) (a d size : Nat) (rest : List (Nat × Nat × Nat)), s.tailSynced p = true → (s.tree p).tailQ = (a, d, size) :: rest → s.tailMaySend p = true → 
     ∃ t, exec (.tailBurstSend p ploam) s = .next t ∧ (t.tree p).tailQ = rest ∧ t.ext = (s.advanceTo (d / 8)).ext ∧
      .pin .txen p 1 ((d / 8 - (s.rate p).bitTicks (s.tailPre p + 64) - s.rd Reg.Pon.TX_ON_LEAD [p]) / 4 * 4) ∈ t.out ∧ .pin .txen p 0 ((d / 8 + (s.rate p).ticks size + s.rd Reg.Pon.TX_OFF_HOLD [p]) / 4 * 4) ∈ t.out) ∧
  (∀ (s : State) (p : Nat) (ploam : Bool) (a d size : Nat) (rest : List (Nat × Nat × Nat)), s.tailSynced p = true → (s.tree p).tailQ = (a, d, size) :: rest → s.tailMaySend p = false → 
     exec (.tailBurstSend p ploam) s = .next ((s.modTree p (fun tr => { tr with tailQ := rest })).advanceTo (d / 8))) ∧
  (∀ (s : State) (p : Nat), p < 64 → s.tail p = true → s.flag Reg.Pon.LIT [p] = true → 
     exec (.tailTxGuard p) s = .next ((((s.edge .txen p 0 s.ext).wr Reg.Pon.LIT [p] 0).wr Reg.Pon.LIGHT [p] 0).raise 0x92 (portObj p) [])) ∧
  (∀ (s : State) (p : Nat), p < 64 → s.tail p = true → s.rd Reg.Hid.TAIL_LOST_AT [p] ≠ 0 → 
     ∃ t, exec (.tailTo2Expiry p) s = .next t ∧ t.rd Reg.Pon.TAIL_ONU_ID [p] = 0 ∧ t.rd Reg.Pon.TAIL_ID_VALID [p] = 0 ∧ t.rd Reg.Pon.TAIL_EQD [p] = 0 ∧ (t.tree p).tailQ = [] ∧ t.rd Reg.Hid.TAIL_LOST_AT [p] = 0 ∧ t.cpu = s.cpu ∧ t.out = s.out) ∧
  (∀ (s : State) (p : Nat) (v : Bool), p < 64 → s.flag Reg.Pon.LOS_IN [p] ≠ v → 
     exec (.ponpLos p v) s = .next ((s.wr Reg.Pon.LOS_IN [p] (bit v)).wr Reg.Hid.DEF_AT [p, 0] s.ext)) ∧
  (∀ (s : State) (p : Nat) (still : Bool), p < 64 → s.tail p = true → (s.rd Reg.Pon.DEFECT [p]).testBit 2 ≠ (s.flag Reg.Pon.LOS_IN [p] || still || !s.ponClock) → 
     ∃ t, exec (.portDefectInterval p (.los still)) s = .next t ∧ (t.rd Reg.Pon.DEFECT [p]).testBit 2 = (s.flag Reg.Pon.LOS_IN [p] || still || !s.ponClock)) ∧
  (∀ (s : State) (p : Nat) (n k : Nat), p < 64 → s.tail p = true → 0 < n → n < k * 10 ^ s.rd Reg.Pon.SD_LIM [p] → (s.rd Reg.Pon.DEFECT [p]).testBit 4 = false → 
     ∃ t, exec (.portDefectInterval p (.dnSd n k)) s = .next t ∧ (t.rd Reg.Pon.DEFECT [p]).testBit 4 = true) ∧
  (∀ (s : State) (p : Nat), p < 64 → s.head p = true → s.rd Reg.Hid.UNC_RUN [p] = 9 → s.rd Reg.Pon.UNC_LIM [p] * s.rd Reg.Hid.CW_INT [p] < s.rd Reg.Hid.UNC_INT [p] * 1000000 → (s.rd Reg.Pon.DEFECT [p]).testBit 1 = false → 
     ∃ t, exec (.portDefectInterval p .upDeg) s = .next t ∧ (t.rd Reg.Pon.DEFECT [p]).testBit 1 = true ∧ t.rd Reg.Hid.CW_INT [p] = 0 ∧ t.rd Reg.Hid.UNC_INT [p] = 0 ∧ t.rd Reg.Hid.UNC_RUN [p] = 0) ∧
  (∀ (s : State) (p : Nat) (n : Nat), s.tailSynced p = true → n < 2 ^ Reg.Hid.TAIL_PRE.w → 
     ∃ t, exec (.burstProfile p n) s = .next t ∧ t.rd Reg.Hid.TAIL_PRE [p] = n ∧ t.out = s.out ++ (if s.tailMaySend p = true then [.ctrl p { kind := .acknowledge, term := s.rd Reg.Pon.TAIL_ONU_ID [p], args := [0] } s.ext] else [])) ∧
  (∀ (s : State) (p : Nat) (id ven num : Nat), s.tailSn p ven num = true → id < 1023 → 
     ∃ t, exec (.assignOnuId p id ven num) s = .next t ∧ t.rd Reg.Pon.TAIL_ONU_ID [p] = id ∧ t.rd Reg.Pon.TAIL_ID_VALID [p] = 1 ∧ t.out = s.out ++ (if s.tailMaySend p = true then [.ctrl p { kind := .acknowledge, term := id, args := [2] } s.ext] else [])) ∧
  (∀ (s : State) (p : Nat) (id e : Nat), s.tailFor p id = true → e < 2 ^ Reg.Pon.TAIL_EQD.w → 
     ∃ t, exec (.rangingTime p id e) s = .next t ∧ t.rd Reg.Pon.TAIL_EQD [p] = e ∧ t.out = s.out ++ (if s.tailMaySend p = true then [.ctrl p { kind := .acknowledge, term := s.rd Reg.Pon.TAIL_ONU_ID [p], args := [1] } s.ext] else [])) ∧
  (∀ (s : State) (p : Nat) (id : Nat), s.tailFor p id = true → 
     ∃ t, exec (.deactivateOnuId p id) s = .next t ∧ t.rd Reg.Pon.TAIL_ID_VALID [p] = 0 ∧ t.rd Reg.Pon.TAIL_EQD [p] = 0 ∧ t.rd Reg.Pon.TAIL_SYNC [p] = 2 ∧ t.out = s.out ++ (if s.tailMaySend p = true then [.ctrl p { kind := .acknowledge, term := s.rd Reg.Pon.TAIL_ONU_ID [p], args := [5] } s.ext] else [])) ∧
  (∀ (s : State) (p : Nat) (ven num : Nat) (en : Bool), s.tailSn p ven num = true → 
     exec (.disableSerialNumber p ven num en) s = .next (if en then (s.wr Reg.Hid.TAIL_SILENT [p] 0).tailAck p .snEnable else ((s.tailAck p .snDisable).wr Reg.Hid.TAIL_SILENT [p] 1).cutBurst p)) ∧
  (∀ (s : State) (p : Nat) (id k : Nat), s.tailFor p id = true → 
     ∃ t, exec (.keyControl p id k) s = .next t ∧ t.out = s.out ++ (if s.tailMaySend p = true then [.ctrl p { kind := .keyReport, term := s.rd Reg.Pon.TAIL_ONU_ID [p], args := [k] } s.ext, .ctrl p { kind := .acknowledge, term := s.rd Reg.Pon.TAIL_ONU_ID [p], args := [3] } s.ext] else []) ∧ t.regs = s.regs) ∧
  (∀ (s : State) (p : Nat) (id : Nat), s.tailFor p id = true → 
     ∃ t, exec (.changePowerLevel p id) s = .next t ∧ t.out = s.out ++ (if s.tailMaySend p = true then [.ctrl p { kind := .acknowledge, term := s.rd Reg.Pon.TAIL_ONU_ID [p], args := [4] } s.ext] else []) ∧ t.regs = s.regs)

/-- Without an answered probe stage time starts at 0, the unit alone; a held unit starts from the time of a running twin plus the latency, and a running one finds its
alignment good within two ticks; a unit that started alone stays apart from a twin that runs and did so too. Until its start stage time does not move. Each cue light
frame numbers on, carries every claim, goes out in the layout of R239 and over the twin lanes as well, and is followed by the next 49,760 or 49,800 ticks later. The
descrambler undoes the scrambler, and a frame keeps its fields and a good CRC. A received frame whose SYNC stands is judged: a good one is taken over, a bad CRC or type
counted, a wrong unit or mode is a mismatch. Four missing patterns lose frame lock; 24 us without a carrier lose the twin claim; a wait to restore that has run asks for a
dark rehearsal. -/
def Obligations.PairTimeAndClaims : Prop :=
  (∀ (s : State), s.pairing ≠ 0 → s.flag Reg.Twn.PAIR_SET [] = true → s.timeOn = false → s.flag Reg.Hid.PROBED [0] = false → 
     exec .pairWaitExpiry s = .next (((s.startTime 0).wr Reg.Hid.ALONE [0] 1).wr Reg.Hid.BOOT_ADD [0] (msTicks (s.rd Reg.Hid.PAIR_WAIT_SET [0])))) ∧
  (∀ (s : State) (e : Nat), s.timeOn = false → 
     (s.startTime e).timeOn = true ∧ (s.startTime e).ext = e ∧ (s.startTime e).cpu = s.cpu ∧ (s.startTime e).out = s.out) ∧
  (∀ (s : State) (t : Nat), 
     (s.advanceTo t).ext = (if s.timeOn then max s.ext t else s.ext) ∧ (s.advanceTo t).regs = s.regs ∧ (s.advanceTo t).out = s.out) ∧
  (∀ (s : State) (p : Probe), s.pairing ≠ 0 → s.flag Reg.Twn.LANES_UP [] = true → s.timeOn = false → p.running = true → 
     exec (.alignmentProbe p) s = .next ((if p.alone then (s.emit (.twin 2 [0, s.ext])).wr Reg.Hid.PROBED [0] 1 else ((s.emit (.twin 2 [0, s.ext])).wr Reg.Hid.PROBED [0] 1).wr Reg.Hid.ALONE [0] 0).startTime (p.twinExt + p.latency))) ∧
  (∀ (s : State) (p : Probe), s.pairing ≠ 0 → s.flag Reg.Twn.LANES_UP [] = true → s.timeOn = false → p.running = false → 
     exec (.alignmentProbe p) s = .next (if s.env.unit = 0 then ((((s.emit (.twin 2 [0, s.ext])).wr Reg.Hid.PROBED [0] 1).wr Reg.Hid.ALONE [0] 0).startTime 0) else (((s.emit (.twin 2 [0, s.ext])).wr Reg.Hid.PROBED [0] 1).wr Reg.Hid.ALONE [0] 0))) ∧
  (∀ (s : State) (p : Probe), s.pairing ≠ 0 → s.flag Reg.Twn.LANES_UP [] = true → s.timeOn = true → -128 ≤ p.err → p.err ≤ 127 → 
     ∃ t, exec (.alignmentProbe p) s = .next t ∧ t.rd Reg.Twn.ALIGN_ERR [] = unsigned 8 p.err ∧ t.rd Reg.Twn.ALIGN_OK [] = bit (decide (p.err.natAbs ≤ 2)) ∧ t.ext = s.ext ∧ t.out = s.out ++ [.twin 2 [1, s.ext]] ∧ t.rd Reg.Hid.ALONE [0] = (if p.running && p.alone then s.rd Reg.Hid.ALONE [0] else 0) ∧ t.cpu = s.cpu) ∧
  (∀ (s : State), s.pairing ≠ 0 → s.rd Reg.Hid.CUE_ACC [0] < 400 → 
     ∃ t, exec .cueLightFrameTx s = .next t ∧ t.rd Reg.Twn.HB_TX [] = (s.rd Reg.Twn.HB_TX [] + 1) % 2 ^ 24 ∧ t.ext = (s.advanceTo (s.rd Reg.Hid.CUE_NEXT [0])).ext ∧
      t.rd Reg.Hid.CUE_NEXT [0] = (t.ext + (if 336 ≤ s.rd Reg.Hid.CUE_ACC [0] then 49800 else 49760)) % 2 ^ Reg.Hid.CUE_NEXT.w ∧ t.rd Reg.Hid.CUE_ACC [0] = (s.rd Reg.Hid.CUE_ACC [0] + 64) % 400 ∧
      (t.pair.sent.head?.map (fun f => (f.hb, f.stamp, f.lit, f.claims))) = some (t.rd Reg.Twn.HB_TX [], t.ext, s.litMask, (List.range 64).map s.claim)) ∧
  (∀ (s : State), s.pairing ≠ 0 → s.rd Reg.Hid.CUE_ACC [0] < 336 → 
     ∃ t, exec .cueLightFrameTx s = .next t ∧ (t.pair.sent.head?.any (fun f => t.out == s.out ++ [.cueLight f (cueLine (s.rd Reg.Hid.CUE_SCR_TX [0]) s.env.unit s.pairing f).1 none] ++
      (if s.flag Reg.Twn.LANES_UP [] then [.twin 1 [ofBits (cuePayload s.env.unit s.pairing f)]] else []))) = true) ∧
  (∀ (r : Nat) (l : List Nat), r < 2 ^ 58 → (∀ b ∈ l, b < 2) → 
     (descramble r (scramble r l).1).1 = l ∧ (descramble r (scramble r l).1).2 = (scramble r l).2) ∧
  (∀ (lanes : Bool) (unit mode : Nat) (f : CueFrame), unit < 2 → mode < 4 → f.flags < 256 → f.hb < 2 ^ 24 → f.stamp < 2 ^ 40 → 
     (cueFields lanes (cuePayload unit mode f)).crcOk = true ∧ (cueFields lanes (cuePayload unit mode f)).typ = 1 ∧ (cueFields lanes (cuePayload unit mode f)).unit = unit ∧ (cueFields lanes (cuePayload unit mode f)).mode = mode ∧ (cueFields lanes (cuePayload unit mode f)).flags = f.flags ∧ (cueFields lanes (cuePayload unit mode f)).hb = f.hb ∧ (cueFields lanes (cuePayload unit mode f)).stamp = BitVec.ofNat 40 f.stamp) ∧
  (∀ (s : State) (r : RxFrame), s.pairing ≠ 0 → r.lanes = true → s.flag Reg.Twn.LANES_UP [] = true → 
     exec (.cueLightFrameRx r) s = .next (s.judgeFrame (cueFields true (bitList 1212 r.line)))) ∧
  (∀ (s : State) (r : RxFrame), s.pairing ≠ 0 → r.lanes = false → syncErrors r.line ≤ 2 → s.flag Reg.Twn.CUE_UP [] = true → 
     exec (.cueLightFrameRx r) s = .next ((s.cueReceived r).2.judgeFrame (s.cueReceived r).1)) ∧
  (∀ (s : State) (r : RxFrame), s.pairing ≠ 0 → r.lanes = false → syncErrors r.line ≤ 2 → s.flag Reg.Twn.CUE_UP [] = false → s.flag Reg.Hid.CUE_SYNCS [0] = true → r.spaced = true → 
     exec (.cueLightFrameRx r) s = .next (((s.cueReceived r).2.wr Reg.Twn.CUE_UP [] 1).judgeFrame (s.cueReceived r).1)) ∧
  (∀ (s : State) (r : CueRx), s.pairing ≠ 0 → r.crcOk = true → r.typ = 1 → (sdiff r.stamp s.nowW).natAbs ≤ 62208 → r.unit ≠ s.env.unit → r.mode = s.pairing → r.hb < 2 ^ 24 → s.rd Reg.Hid.CARRIER_HB [bit r.lanes] ≠ r.hb + 1 → (∀ f ∈ s.pair.rcvd, f.hb ≠ r.hb) → 
     (s.judgeFrame r).rd Reg.Twn.HB_RX [] = r.hb ∧ (s.judgeFrame r).rd Reg.Hid.CARRIER_AT [bit r.lanes] = (s.ext + 1) % 2 ^ Reg.Hid.CARRIER_AT.w ∧ (s.judgeFrame r).rd Reg.Twn.TWIN_LOST [] = 0 ∧
      (s.judgeFrame r).pair.rcvd.head?.map (fun f => (f.hb, f.stamp, f.claims)) = some (r.hb, s.extOf r.stamp, r.claims)) ∧
  (∀ (s : State) (r : CueRx), r.crcOk = false ∨ r.typ ≠ 1 → 
     s.judgeFrame r = s.addTo Reg.Twn.CUE_CRC_ERR [] 1) ∧
  (∀ (s : State) (r : CueRx), r.crcOk = true → r.typ = 1 → (sdiff r.stamp s.nowW).natAbs ≤ 62208 → s.rd Reg.Hid.CARRIER_HB [bit r.lanes] ≠ r.hb % 2 ^ 24 + 1 → r.unit = s.env.unit ∨ r.mode ≠ s.pairing → 
     (s.judgeFrame r).rd Reg.Twn.PAIR_MISMATCH [] = 1 ∧ (s.judgeFrame r).pair = s.pair) ∧
  (∀ (s : State), s.pairing ≠ 0 → s.flag Reg.Twn.CUE_UP [] = true → 
     exec .cueLink s = .next (((s.wr Reg.Twn.CUE_UP [] 0).wr Reg.Hid.CUE_SYNCS [0] 0).raise 0xA2 (Reg.Twn.CUE_UP.addr []) [0])) ∧
  (∀ (s : State), s.pairing ≠ 0 → s.flag Reg.Twn.TWIN_LOST [] = false → s.timeOn = true → 
     ∃ t, exec .twinClaimLost s = .next t ∧ t.rd Reg.Twn.TWIN_LOST [] = 1 ∧ t.rd Reg.Twn.CLAIM_LOSSES [] = (s.rd Reg.Twn.CLAIM_LOSSES [] + 1) % 2 ^ Reg.Twn.CLAIM_LOSSES.w ∧ (∀ z < 64, t.rd Reg.Twn.TWIN_VALID [z] = 0) ∧ max (s.carrierAt 0) (s.carrierAt 1) + t24 ≤ t.ext ∧ t.cpu = s.cpu ∧ t.out = s.out) ∧
  (∀ (s : State) (z : Nat), z < 64 → s.rd Reg.Hid.WTR_END [z] ≠ 0 → s.flag Reg.Twn.WTR_RUN [z] = true → 
     exec (.wtrExpiry z) s = .next ((((s.advanceTo (s.rd Reg.Hid.WTR_END [z] - 1)).wr Reg.Hid.WTR_END [z] 0).wr Reg.Hid.WTR_DARK [z] 1).wr Reg.Reh.DARK_BUSY [z] 1))

/-- The sheet of the twin completes the shadow sheet of its frame (the frame by this unit's own number of it on the shared grid: the model's reading, log 102), and a
difference is counted; a sheet that does not come is counted missing and the shadow is used. A verification without a delimiter fails with code 0x71. A mirrored write
takes effect on this unit's copy and is acknowledged, from unit 0 for a shared object once unit 1 has acknowledged what it sends back; a remote access is judged and
answered with its outcome, or with FAULT 4 while PAIR_OK is 0; a forming pair takes over what the twin's copy wins. A message in the blocks of R424 passes their checks;
each kind has its effect, a bad or cut one is counted, and lost cross traffic too; messages leave by class, lowest first. An unacknowledged message is sent again, three
times, and then lost. -/
def Obligations.PairSheetsAndMirrors : Prop :=
  (∀ (s : State) (z k : Nat) (m : SheetMsg) (es : List Entry) (al : Bool) (rest : List (Nat × List Entry × Bool)), s.framing z = true → s.understudy z = true → s.flag Reg.Twn.LANES_UP [] = true → s.ownFrame z m.frame = (k : Int) → (s.tree z).shadow = (k, es, al) :: rest → 
     ∃ t, exec (.sealedSheetRx z m) s = .next t ∧ (t.tree z).shadow = rest.filter (fun x => x.1 != k) ∧ t.rd Reg.Twn.DIVERGE [z] = (s.rd Reg.Twn.DIVERGE [z] + bit (firstDiff m.entries (es.map Entry.msg) 0).isSome) % 2 ^ Reg.Twn.DIVERGE.w ∧ t.rd Reg.Hid.SA [z] = unsigned 32 m.shift % 2 ^ Reg.Hid.SA.w ∧ t.cpu = s.cpu) ∧
  (∀ (s : State) (z k : Nat) (es : List Entry) (al : Bool) (rest : List (Nat × List Entry × Bool)), s.framing z = true → s.understudy z = true → (s.tree z).shadow = (k, es, al) :: rest → 
     exec (.sheetMissing z) s = .next ((((((s.advanceTo (s.rd Reg.Hid.F_EXT [z] + 124416)).addTo Reg.Twn.SHEETS_MISSING [] 1).modTree z (fun tr => { tr with shadow := rest })).arm z k false es)).completeSheet z k (sheetWord es al))) ∧
  (∀ (s : State) (z : Nat), z < 64 → s.flag Reg.Twn.VERIFYING [z] = true → s.rd Reg.Twn.N_VERIFY [] ≤ s.rd Reg.Hid.VERIFY_N [z] → 
     exec (.verificationEnd z) s = .next ((((s.wr Reg.Twn.VERIFYING [z] 0).wr Reg.Twn.TKO_CODE [z] 0x71).raise 0xA9 (Reg.Twn.TKO_CODE.addr [z]) [0x71]).setPen z 6 true)) ∧
  (∀ (s : State) (z : Nat), z < 64 → (s.rd Reg.Twn.PEN [z]).testBit 6 = false → 
     (s.setPen z 6 true).rd Reg.Twn.TKO_FAIL [z] = 1 ∧ ((s.setPen z 6 true).rd Reg.Twn.PEN [z]).testBit 6 = true) ∧
  (∀ (s : State) (seq : Nat) (m : MirrorOp), s.pairing ≠ 0 → s.flag Reg.Twn.LANES_UP [] = true → s.env.unit ≠ 0 ∨ sharedOp m = false → 
     exec (.mirroredWrite seq m) s = .next ((s.mirrored m).emit (.twin 5 [0xAC, seq]))) ∧
  (∀ (s : State) (seq : Nat) (m : MirrorOp), s.pairing ≠ 0 → s.flag Reg.Twn.LANES_UP [] = true → s.env.unit = 0 → sharedOp m = true → (match m with | .learn .. => true | _ => false) = false → 
     exec (.mirroredWrite seq m) s = .next ((s.mirrored m).sendTwin 4 ⟨127, 0⟩ 0 0 (mirrorPayload m) (.send [0xAC, seq]))) ∧
  (∀ (s : State) (seq a b d n : Nat) (w x : Bool), s.pairing ≠ 0 → s.flag Reg.Twn.LANES_UP [] = true → s.env.unit = 0 → 
     exec (.mirroredWrite seq (.learn a b d n w x)) s = .next (if (s.shareTable (s.mirrored (.learn a b d n w x))).sentSince s then (s.shareTable (s.mirrored (.learn a b d n w x))).lastFor (.send [0xAC, seq]) else (s.shareTable (s.mirrored (.learn a b d n w x))).emit (.twin 5 [0xAC, seq]))) ∧
  (∀ (s : State) (a : Nat) (v : Word), s.mirrors a = false → 
     s.mirrored (.word a v) = s ∧ s.mirrored (.copy a v) = s) ∧
  (∀ (s : State) (cx : Cx) (k : CtxKind) (n a : Nat), s.pairing ≠ 0 → s.flag Reg.Twn.LANES_UP [] = true → s.pairOk = true → 
     exec (.remoteAccess cx k n (.load a)) s =
        .next (remoteReply (s.loadWord { cx := cx, kind := k, tenant := n, remote := true } (a % 2 ^ 39)).1 (s.loadWord { cx := cx, kind := k, tenant := n, remote := true } (a % 2 ^ 39)).2.1 (s.loadWord { cx := cx, kind := k, tenant := n, remote := true } (a % 2 ^ 39)).2.2)) ∧
  (∀ (s : State) (cx : Cx) (k : CtxKind) (n a : Nat) (v : Word), s.pairing ≠ 0 → s.flag Reg.Twn.LANES_UP [] = true → s.pairOk = true → 
     exec (.remoteAccess cx k n (.store a v)) s =
        .next (remoteReplyBoth s (s.storeWord { cx := cx, kind := k, tenant := n, remote := true } (a % 2 ^ 39) 0 v).1 0 (s.storeWord { cx := cx, kind := k, tenant := n, remote := true } (a % 2 ^ 39) 0 v).2)) ∧
  (∀ (s : State) (cx : Cx) (k : CtxKind) (n a : Nat) (x : AccKind) (b c : Word), s.pairing ≠ 0 → s.flag Reg.Twn.LANES_UP [] = true → s.pairOk = true → 
     exec (.remoteAccess cx k n (.atomic x a b c)) s =
        .next (remoteReplyBoth s (s.access { cx := cx, kind := k, tenant := n, remote := true } (a % 2 ^ 39) 0 x b c).1 (s.access { cx := cx, kind := k, tenant := n, remote := true } (a % 2 ^ 39) 0 x b c).2.1 (s.access { cx := cx, kind := k, tenant := n, remote := true } (a % 2 ^ 39) 0 x b c).2.2)) ∧
  (∀ (s : State) (cx : Cx) (k : CtxKind) (n a : Nat) (ws : List Word), s.pairing ≠ 0 → s.flag Reg.Twn.LANES_UP [] = true → s.pairOk = true → 
     exec (.remoteAccess cx k n (.issue a ws)) s = .next (s.remoteIssue cx k n a ws)) ∧
  (∀ (s : State) (cx : Cx) (k : CtxKind) (n : Nat) (op : RemoteOp), s.pairing ≠ 0 → s.flag Reg.Twn.LANES_UP [] = true → s.pairOk = false → 
     exec (.remoteAccess cx k n op) s = .next (s.emit (.twin 5 [0x7E, 4, 0]))) ∧
  (∀ (s : State) (ms : List MirrorOp), s.pairLive = true → s.flag Reg.Hid.FORMED [0] = false → (((ms.filter s.replacesOp).foldl State.resynced (s.wr Reg.Hid.FORMED [0] 1)).raise 0xAA (Reg.Twn.PAIRING.addr []) [(ms.filter s.replacesOp).length]).pairing ≠ 2 → 
     exec (.mirrorResync ms) s = .next (((ms.filter s.replacesOp).foldl State.resynced (s.wr Reg.Hid.FORMED [0] 1)).raise 0xAA (Reg.Twn.PAIRING.addr []) [(ms.filter s.replacesOp).length]).tellFlows) ∧
  (∀ (s : State) (ms : List MirrorOp), s.pairLive = true → s.flag Reg.Hid.FORMED [0] = false → (((ms.filter s.replacesOp).foldl State.resynced (s.wr Reg.Hid.FORMED [0] 1)).raise 0xAA (Reg.Twn.PAIRING.addr []) [(ms.filter s.replacesOp).length]).pairing = 2 → 
     exec (.mirrorResync ms) s = .next (upTo (fun z u => if u.twinLit z then u.startWtr z else u) 64 (((ms.filter s.replacesOp).foldl State.resynced (s.wr Reg.Hid.FORMED [0] 1)).raise 0xAA (Reg.Twn.PAIRING.addr []) [(ms.filter s.replacesOp).length]))) ∧
  (∀ (c q : Nat) (data : List Nat), 1 ≤ c → c ≤ 6 → q < 2 ^ 16 → data.length < 2 ^ 24 → 
     messageOk ((nextBlocks (data.length + 2) [txMsg q (c, data)]).1.map TwBlock.blk) = true ∧ (nextBlocks (data.length + 2) [txMsg q (c, data)]).2 = []) ∧
  (∀ (l : List TxMsg), 
     (rowOrder l).Pairwise (fun a b => a.cls ≤ b.cls) ∧ ((rowOrder l).map TxMsg.seq).Perm (l.map TxMsg.seq) ∧ ∀ m ∈ (rowOrder l).drop 1, m.opened = false) ∧
  (∀ (s : State) (rx : TwinRx) (q m r z f t p : Nat) (x : TwinReply) (b y : Bool) (l : List Nat), s.pairing ≠ 0 → s.flag Reg.Lan.RX_UP [] = true → messageOk rx.wire = true → rx.waiting < chanDepth 4 → z < 64 → f < 16384 → q < 147456 → 
     exec (.twinMessageRx rx (.ack q)) s = .next (s.ackTwin q) ∧
      exec (.twinMessageRx rx (.reply q x)) s = .next (s.replied q x) ∧
      exec (.twinMessageRx rx (.curtain b)) s = .next (s.curtainTwin b) ∧
      exec (.twinMessageRx rx (.keyDone q m)) s = .next (s.twinKeyDone q m) ∧
      exec (.twinMessageRx rx (.nextPn q p)) s = .next (s.putSlot q { s.slot q with twinPn := p }) ∧
      exec (.twinMessageRx rx (.keyBound q b)) s = .next (s.wr Reg.Hid.TWIN_BOUND [q] (bit b)) ∧
      exec (.twinMessageRx rx (.flowTag z f t p)) s = .next ((s.wr Reg.Hid.TWIN_FT [z, f] t).wr Reg.Hid.TWIN_DP [z, f] p) ∧
      exec (.twinMessageRx rx (.cross p t y b l)) s = .next (s.crossIn p t y b l) ∧
      exec (.twinMessageRx rx (.portCfg z m r)) s = .next (((s.wr Reg.Hid.TWIN_MODE [z] m).wr Reg.Hid.TWIN_RATE [z] r).wr Reg.Hid.TWIN_CFG_V [z] 1)) ∧
  (∀ (s : State) (rx : TwinRx) (m : TwinMsg), s.pairing ≠ 0 → s.flag Reg.Lan.RX_UP [] = false ∨ messageOk rx.wire = false → 
     exec (.twinMessageRx rx m) s = .next (if (match m with | .cross .. => true | _ => false) then (s.addTo Reg.Lan.MSG_ERR [] 1).addTo Reg.Twn.CROSS_DROP [] 1 else s.addTo Reg.Lan.MSG_ERR [] 1)) ∧
  (∀ (s : State) (rx : TwinRx) (q : Nat), s.pairing ≠ 0 → s.flag Reg.Lan.RX_UP [] = true → messageOk rx.wire = true → chanDepth 4 ≤ rx.waiting → 
     exec (.twinMessageRx rx (.ack q)) s = .next (s.addTo Reg.Sve.CTRL_DROP [4] 1)) ∧
  (∀ (s : State) (m : TwinOut), s.unacked.find? (fun x => x.seq == m.seq) = some m → m.acked = false → m.tries < 3 → 
     ∃ t, exec (.twinRetransmit m.seq) s = .next t ∧ t.rd Reg.Lan.RETRANS [] = (s.rd Reg.Lan.RETRANS [] + 1) % 2 ^ Reg.Lan.RETRANS.w ∧ t.out = s.out ++ [.twin m.cls (m.seq :: m.payload)] ∧ t.unacked.map (fun x => x.seq) = s.unacked.map (fun x => x.seq) ∧ t.cpu = s.cpu ∧ t.ext = (s.advanceTo (m.sent + usTicks 20)).ext) ∧
  (∀ (s : State) (m : TwinOut), s.unacked.find? (fun x => x.seq == m.seq) = some m → m.acked = false → 3 ≤ m.tries → 
     exec (.twinRetransmit m.seq) s = .next (({ s.advanceTo (m.sent + usTicks 20) with unacked := s.unacked.filter (fun x => x.seq != m.seq) } : State).lostMessage m))

/-- Negotiation that resolves to the configured mode and FEC brings the link up with every lane in lock; one that does not leaves local fault and AN_FAIL, the lanes no longer
in training. A link that is forced comes up, and one that goes down shows a local fault. A marker row sets the receive set, with what the far side can receive, counts the
lanes that disagree, and, when it asks for a re-form, sets the transmit set to what the far side can receive. A loss of lock of a lane in the set takes the direction and
LANES_UP down and counts a re-form. A lane usable for TW_RESTORE is advertised again, in a marker row. Error ratios at or above the exponents set SD and SF, and SF takes
an uplink down; counts, sync headers, markers, locks and PRBS units each take their effect. Adaptation keeps the CTLE value within its limits, takes the wanted value
inside them, and holds each tap within TAP_LIM; a table-driven lane stays as it is; a negotiating uplink takes the far end's training requests within TX_LIM. -/
def Obligations.LanesAndLinks : Prop :=
  (∀ (s : State) (u : Nat), s.linkable u = true → s.flag Reg.Lan.AN_EN [u] = true → s.rd Reg.Lan.UL_MODE [u] ≤ 9 → 
     ∃ t, exec (.autoNegotiationDone u ⟨s.rd Reg.Lan.UL_MODE [u], s.fecSel u⟩) s = .next t ∧ t = s.linkUp u true false ∧ t.rd Reg.Lan.LINK_UP [u] = 1 ∧ t.rd Reg.Lan.LOCAL_FAULT [u] = 0 ∧ ∀ l ∈ s.portLanes u, t.rd Reg.Lan.BLOCK_LOCK [l] = 1 ∧ t.rd Reg.Lan.ALIGN_LOCK [l] = 1 ∧ t.rd Reg.Lan.TX_TRAINED [l] = 1) ∧
  (∀ (s : State) (u m f : Nat), s.linkable u = true → s.flag Reg.Lan.AN_EN [u] = true → m ≠ s.rd Reg.Lan.UL_MODE [u] ∨ f ≠ s.fecSel u → 
     exec (.autoNegotiationDone u ⟨m, f⟩) s = .next ((((((s.portLanes u).foldl (fun s l => s.wr Reg.Lan.TRAINING [l] 0) s).wr Reg.Lan.LINK_UP [u] 0).setLocal u true).wr Reg.Lan.AN_FAIL [u] 1).raise 0xD0 (Reg.Lan.LINK_UP.addr [u]) [0, 1])) ∧
  (∀ (s : State) (u : Nat) (v : Bool), s.flag Reg.Lan.LOCAL_FAULT [u] ≠ v → 
     (s.setLocal u v).out = s.out ++ [.remoteFault u v] ∧ (s.setLocal u v).rd Reg.Lan.LOCAL_FAULT [u] = bit v) ∧
  (∀ (s : State) (u : Nat) (r : Bool), s.linkable u = true → s.flag Reg.Lan.AN_EN [u] = false → 
     ∃ t, exec (.ulLink u true r) s = .next t ∧ t = s.linkUp u (s.flag Reg.Lan.TX_TRAINED [u]) r ∧ t.rd Reg.Lan.LINK_UP [u] = 1 ∧ t.rd Reg.Lan.LOCAL_FAULT [u] = 0 ∧ t.rd Reg.Lan.REMOTE_FAULT [u] = bit r) ∧
  (∀ (s : State) (u : Nat) (r : Bool), u < 32 → s.flag Reg.Lan.MEMBER [u] = false → s.rd Reg.Lan.UL_MODE [u] ≠ 0 → 
     ∃ t, exec (.ulLink u false r) s = .next t ∧ t = s.setLink u false r ∧ t.rd Reg.Lan.LINK_UP [u] = 0 ∧ t.rd Reg.Lan.LOCAL_FAULT [u] = 1 ∧ t.rd Reg.Lan.REMOTE_FAULT [u] = bit r) ∧
  (∀ (s : State) (ms : List Marker) (m : Marker), s.pairing ≠ 0 → majority ms = some m → m.reform = false → m.ack = false → m.txSet < 2 ^ 24 → m.rxUsable < 2 ^ 24 → 
     ∃ t, exec (.alignmentMarker ms) s = .next t ∧ t.rd Reg.Lan.RX_SET [] = m.txSet ∧ t.rd Reg.Lan.FAR_USABLE [] = m.rxUsable ∧ t.rd Reg.Lan.RX_UP [] = bit (decide (s.rd Reg.Lan.TW_MIN_LANES [] ≤ lanesIn m.txSet) && !s.flag Reg.Hid.RX_REFORM [0]) ∧ t.rd Reg.Lan.MARKER_ERR [] = (s.rd Reg.Lan.MARKER_ERR [] + ms.countP (fun x => !sameMarker m x)) % 2 ^ Reg.Lan.MARKER_ERR.w) ∧
  (∀ (s : State) (ms : List Marker) (m : Marker), s.pairing ≠ 0 → majority ms = some m → m.reform = true → (∀ l < 24, s.rd Reg.Lan.PWR_TX [64 + l] = 0) → m.txSet < 2 ^ 24 → m.rxUsable < 2 ^ 24 → s.unacked = [] → s.cipher.slots = [] → 
     ∃ t, exec (.alignmentMarker ms) s = .next t ∧ t.rd Reg.Lan.TX_SET [] = m.rxUsable ∧ t.rd Reg.Lan.RX_SET [] = m.txSet ∧ t.cpu = s.cpu) ∧
  (∀ (s : State) (l : Nat) (b : Bool), l < 24 → s.pairing ≠ 0 → (s.rd Reg.Lan.RX_SET []).testBit l = true → s.flag Reg.Lan.BLOCK_LOCK [64 + l] = true → s.flag Reg.Lan.ALIGN_LOCK [64 + l] = true → 
     ∃ t, exec (.twinReform l b) s = .next t ∧ t = s.laneLock (64 + l) (!b) false ∧ t.rd Reg.Lan.BLOCK_LOCK [64 + l] = bit (!b) ∧ t.rd Reg.Lan.ALIGN_LOCK [64 + l] = 0 ∧ t.rd Reg.Lan.SF [64 + l] = 1 ∧ t.rd Reg.Lan.RX_UP [] = 0 ∧ t.rd Reg.Lan.REFORMS [] = (s.rd Reg.Lan.REFORMS [] + 1) % 2 ^ Reg.Lan.REFORMS.w ∧ t.rd Reg.Twn.LANES_UP [] = 0) ∧
  (∀ (s : State) (l : Nat), l < 24 → s.pairing ≠ 0 → s.usable l = true → s.rd Reg.Hid.TW_SINCE [l] ≠ 0 → s.flag Reg.Hid.TW_FORMED [0] = true → (s.rd Reg.Hid.TW_ADV [0]).testBit l = false → 
     exec (.twRestoreExpiry l) s = .next (((s.advanceTo (s.rd Reg.Hid.TW_SINCE [l] - 1 + msTicks (s.rd Reg.Lan.TW_RESTORE []))).wr Reg.Hid.TW_ADV [0] (s.rd Reg.Hid.TW_ADV [0] + 2 ^ l)).sendMarker s.markerRow false false)) ∧
  (∀ (s : State) (l n : Nat), l < 32 → s.flag Reg.Lan.SD [l] = false → n < s.rd Reg.Hid.LANE_ERR [l, 0] * 10 ^ s.rd Reg.Lan.SD_EXP [l] → s.pairing = 0 → 
     exec (.laneDefectEval l (.sd n)) s = .next (((s.wr Reg.Hid.LANE_ERR [l, 0] 0).wr Reg.Lan.SD [l] 1).raise 0xD3 (Reg.Lan.SD.addr [l]) [1])) ∧
  (∀ (s : State) (l n : Nat), l < 32 → s.flag Reg.Lan.SF [l] = false → n < s.rd Reg.Hid.LANE_ERR [l, 1] * 10 ^ s.rd Reg.Lan.SF_EXP [l] → s.pairing = 0 → s.firstLane l < 32 → 
     ∃ t, exec (.laneDefectEval l (.sf n)) s = .next t ∧ t.rd Reg.Lan.SF [l] = 1 ∧ t.rd Reg.Lan.LINK_UP [s.firstLane l] = 0) ∧
  (∀ (s : State) (l a b : Nat), s.laneLives l = true → 
     exec (.laneDefectEval l (.counts a b)) s = .next (((if s.fecLane l then s.laneErrs l a else s).addTo Reg.Lan.CORR_BITS [l] a).addTo Reg.Lan.UNCORR_CW [l] b) ∧ ∀ i < 2, (s.laneErrs l a).rd Reg.Hid.LANE_ERR [l, i] = (s.rd Reg.Hid.LANE_ERR [l, i] + a) % 2 ^ Reg.Hid.LANE_ERR.w) ∧
  (∀ (s : State) (l : Nat) (vs : List Bool), s.laneLives l = true → 
     exec (.laneDefectEval l (.headers vs)) s = .next (vs.foldl (State.syncHeader l) s) ∧ (64 ≤ l → exec (.laneDefectEval l (.markers vs)) s = .next (vs.foldl (State.markerDue l) s))) ∧
  (∀ (s : State) (l : Nat) (b a : Bool), l < 32 → 
     exec (.laneDefectEval l (.lock b a)) s = .next (s.laneLock l b a)) ∧
  (∀ (s : State) (l : Nat) (es : List Nat), s.laneLives l = true → s.rd Reg.Lan.PRBS_CHK [l] ≠ 0 → 
     exec (.laneDefectEval l (.prbs es)) s = .next (es.foldl (State.prbsUnit l) s)) ∧
  (∀ (s : State) (l : Nat) (g : Int) (w : TapWish), s.laneLives l = true → s.flag Reg.Lan.EQ_MODE [l] = true → s.rd Reg.Lan.PWR_RX [l] = 0 → s.rd Reg.Lan.CTLE_MIN [l] ≤ s.rd Reg.Lan.CTLE_MAX [l] → 
     ∃ t, exec (.eqUpdate l g w) s = .next t ∧ s.rd Reg.Lan.CTLE_MIN [l] ≤ t.rd Reg.Lan.CTLE [l] ∧ t.rd Reg.Lan.CTLE [l] ≤ s.rd Reg.Lan.CTLE_MAX [l] ∧ ((s.rd Reg.Lan.CTLE_MIN [l] : Int) ≤ g → g ≤ s.rd Reg.Lan.CTLE_MAX [l] → t.rd Reg.Lan.CTLE [l] = g.toNat)) ∧
  (∀ (s : State) (l i : Nat) (g v : Int) (w : TapWish), s.laneLives l = true → s.flag Reg.Lan.EQ_MODE [l] = true → s.rd Reg.Lan.PWR_RX [l] = 0 → i < lanesTaps l → w.rx[i]? = some v → 
     ∃ t, exec (.eqUpdate l g w) s = .next t ∧ t.rd Reg.Lan.TAP [l, i] = unsigned 8 (clamp (-(s.rd Reg.Lan.TAP_LIM [l, i] : Nat)) (s.rd Reg.Lan.TAP_LIM [l, i] : Nat) v).1 ∧ t.cpu = s.cpu) ∧
  (∀ (s : State) (l : Nat) (g : Int) (ts : List Int), s.flag Reg.Lan.EQ_MODE [l] = false → 
     exec (.eqUpdate l g ⟨ts, none⟩) s = .next s) ∧
  (∀ (s : State) (l : Nat) (g : Int) (ts : List Int) (a b c : Int), l < 32 → s.flag Reg.Lan.EQ_MODE [l] = false → s.flag Reg.Lan.AN_EN [s.firstLane l] = true → 
     ∃ t, exec (.eqUpdate l g ⟨ts, some (a, b, c)⟩) s = .next t ∧ t.rd Reg.Lan.TX_PRE [l] = unsigned 6 (clamp (-(s.rd Reg.Lan.TX_LIM [l] : Nat)) (s.rd Reg.Lan.TX_LIM [l] : Nat) a).1 ∧ t.rd Reg.Lan.TX_MAIN [l] = unsigned 7 (clamp (-(s.rd Reg.Lan.TX_LIM [l] : Nat)) (s.rd Reg.Lan.TX_LIM [l] : Nat) b).1 ∧ t.rd Reg.Lan.TX_POST [l] = unsigned 6 (clamp (-(s.rd Reg.Lan.TX_LIM [l] : Nat)) (s.rd Reg.Lan.TX_LIM [l] : Nat) c).1 ∧ t.cpu = s.cpu ∧ t.out = s.out)

/-- A domain without an offset for HOLD_ENTRY loses its master, with no other change where it is not the output domain; the output domain gives way to the other with a
master, its epoch kept, or goes into holdover with event 0xCA. The timestamp of a frame that carries an event message is queued with its adjustment, or, when the queue is
full, counted lost; a one-step Sync goes out with its origin time and is queued nowhere; another frame leaves nothing behind (the header's layout is that of IEEE 1588:
PRESUMED, log 147). A latch shows the output time of its superframe; PPS_IN records its time and counts, or is counted a glitch; the PPS output rises when it is not
suppressed; stage time wraps at 2^40. -/
def Obligations.ClocksAndLatches : Prop :=
  (∀ (s : State) (d : Nat), d < 2 → s.flag Reg.Tim.MASTER [d] = true → s.outDom ≠ d → 
     exec (.holdEntryExpiry d) s = .next ((s.advanceTo (s.rd Reg.Hid.MASTER_AT [d] + msTicks (s.rd Reg.Tim.HOLD_ENTRY []))).wr Reg.Tim.MASTER [d] 0)) ∧
  (∀ (s : State) (d : Nat), d < 2 → s.flag Reg.Tim.MASTER [d] = true → s.outDom = d → s.flag Reg.Tim.OUT_VALID [] = true → s.flag Reg.Tim.AUTO_SW [] = true → s.flag Reg.Tim.MASTER [1 - d] = true → 
     ∃ t, exec (.holdEntryExpiry d) s = .next t ∧ t.rd Reg.Tim.MASTER [d] = 0 ∧ t.outDom = 1 - d ∧ t.rd Reg.Tim.EPOCH [] = s.rd Reg.Tim.EPOCH []) ∧
  (∀ (s : State) (d : Nat), d < 2 → s.flag Reg.Tim.MASTER [d] = true → s.outDom = d → s.flag Reg.Tim.OUT_VALID [] = true → s.flag Reg.Tim.AUTO_SW [] = true → s.flag Reg.Tim.MASTER [1 - d] = false → 
     ∃ t, exec (.holdEntryExpiry d) s = .next t ∧ t = ((s.advanceTo (s.rd Reg.Hid.MASTER_AT [d] + msTicks (s.rd Reg.Tim.HOLD_ENTRY []))).wr Reg.Tim.MASTER [d] 0).raise 0xCA (Reg.Tim.OUT_DOM.addr []) [] ∧ t.outDom = d) ∧
  (∀ (s : State) (f : PtpFrame) (m : PtpMsg), f.port < 32 → ptpMsg f.bytes = some m → m.mtype = 0 → f.rx = false → m.twoStep = false → m.trailer f.bytes = true → s.flag Reg.Tim.ONE_STEP [f.port] = true → 
     exec (.ptpTimestamp f) s = .next ((s.emit (.oneStep f.port (oneStepFrame f.bytes m (ptpParts (s.outAt (Int.ofNat s.ext + signed 16 (s.rd Reg.Tim.TS_ADJ_TX [f.port])).toNat)).1 (ptpParts (s.outAt (Int.ofNat s.ext + signed 16 (s.rd Reg.Tim.TS_ADJ_TX [f.port])).toNat)).2))).countUplink f.port 6)) ∧
  (∀ (s : State) (f : PtpFrame) (m : PtpMsg), f.port ≤ 32 → ptpMsg f.bytes = some m → f.rx = true → s.flag Reg.Tim.TS_EN [f.port] = true → (s.tsq f.port 1).length < 64 → 
     ∃ t, exec (.ptpTimestamp f) s = .next t ∧ t.tsq f.port 1 = s.tsq f.port 1 ++ [s.tsRecord f.port true m (Int.ofNat s.ext + signed 16 (s.rd Reg.Tim.TS_ADJ_RX [f.port])).toNat] ∧ t.rd Reg.Tim.TS_FILL [f.port, 1] = (s.tsq f.port 1).length + 1 ∧ t.tsq f.port 0 = s.tsq f.port 0) ∧
  (∀ (s : State) (f : PtpFrame) (m : PtpMsg), f.port ≤ 32 → ptpMsg f.bytes = some m → f.rx = true → s.flag Reg.Tim.TS_EN [f.port] = true → 64 ≤ (s.tsq f.port 1).length → 
     ∃ t, exec (.ptpTimestamp f) s = .next t ∧ t.tsq f.port 1 = s.tsq f.port 1 ∧ t.rd Reg.Tim.TS_OVF [f.port, 1] = 1 ∧ t.rd Reg.Tim.TS_LOST [f.port, 1] = (s.rd Reg.Tim.TS_LOST [f.port, 1] + 1) % 2 ^ Reg.Tim.TS_LOST.w) ∧
  (∀ (s : State) (f : PtpFrame), ptpMsg f.bytes = none ∨ 32 < f.port → 
     exec (.ptpTimestamp f) s = .next s) ∧
  (∀ (b : List Nat) (o : Nat), typeAt b = o → netNum b o 2 = 0x88F7 → o + 36 ≤ b.length → netNum b (o + 2) 1 % 16 ≤ 3 → 
     (ptpMsg b).map (fun m => (m.mtype, m.domain, m.seqId, m.carry)) = some (netNum b (o + 2) 1 % 16, netNum b (o + 6) 1, netNum b (o + 32) 2, .eth)) ∧
  (∀ (s : State) (z : Nat) (x : Tod), z < 64 → s.ptp.tod.get? z = some x → x.pred = none → 0 ≤ s.outAt s.ext → 
     ∃ t, exec (.todLatched z) s = .next t ∧ t.ptp.tod.get? z = none ∧ t.rd Reg.Tim.TOD_VALID [z] = 1 ∧ t.rd Reg.Tim.TOD_PRED [z] = 0 ∧ t.rd Reg.Tim.TOD_NS [z] = (ptpParts (s.outAt s.ext)).2 ∧ t.rd Reg.Tim.TOD_STAGE [z] = s.now ∧ t.ext = s.ext) ∧
  (∀ (s : State), s.rd Reg.Hid.PPSI_AT [0] = 0 → s.flag Reg.Tim.SRC [0] = false → s.flag Reg.Tim.SRC [1] = false → 
     ∃ t, exec .ppsIn s = .next t ∧ t.rd Reg.Tim.PPSI_CNT [] = (s.rd Reg.Tim.PPSI_CNT [] + 1) % 2 ^ Reg.Tim.PPSI_CNT.w ∧ t.rd Reg.Tim.PPSI_STAGE [] = (Int.ofNat s.ext + signed 16 (s.rd Reg.Tim.PPS_OFS_IN [])).toNat % 2 ^ Reg.Tim.PPSI_STAGE.w ∧ t.rd Reg.Tim.OFS_CNT [0] = s.rd Reg.Tim.OFS_CNT [0]) ∧
  (∀ (s : State), s.rd Reg.Hid.PPSI_AT [0] ≠ 0 → (Int.ofNat s.ext + signed 16 (s.rd Reg.Tim.PPS_OFS_IN [])).toNat < s.rd Reg.Hid.PPSI_AT [0] - 1 + msTicks 900 → 
     exec .ppsIn s = .next (s.addTo Reg.Tim.PPSI_GLITCH [] 1)) ∧
  (∀ (s : State), s.flag Reg.Tim.PPS_EN [] = true → s.flag Reg.Tim.OUT_VALID [] = true → s.rd Reg.Hid.PPS_AT [0] = 0 → 
     ∃ t, exec .ppsOutEdge s = .next t ∧ t.rd Reg.Tim.PPSO_SUPPR [] = s.rd Reg.Tim.PPSO_SUPPR [] ∧ t.rd Reg.Hid.PPS_AT [0] ≠ 0 ∧ t.out.length = s.out.length + 2 ∧ .pin .ppsOut 0 1 (t.rd Reg.Hid.PPS_AT [0] - 1) ∈ t.out) ∧
  (∀ (s : State), s.timeOn = true → 
     ∃ t, exec .stageWrap s = .next t ∧ t = s.advanceTo ((s.ext / 2 ^ 40 + 1) * 2 ^ 40) ∧ t.now = 0 ∧ t.ext / 2 ^ 40 = s.ext / 2 ^ 40 + 1)

/-- A threshold sample above its level counts the sample and, when the last was not above, the crossing, with an event where the threshold asks for one; a sample not above
clears the flag. The oldest accepted record goes into the history and to no ring when the host takes no events, and to the host ring at its tail with its phase when it
does. A window that counted nothing closes without a record; one that counted raises one more record with the count. A corrected unit counts an error of its channel; an
uncorrectable one from 16 MiB up is marked bad, its content kept; a good unit changes nothing. -/
def Obligations.ObservationAndScrub : Prop :=
  (∀ (s : State) (j : Nat), j < 4096 → s.flag Reg.Cnt.TH_EN [j] = true → s.rd Reg.Cnt.TH_N [j] < s.signal (s.rd Reg.Cnt.TH_KIND [j]) (s.rd Reg.Cnt.TH_INDEX [j]) → s.flag Reg.Cnt.TH_ABOVE [j] = false → s.flag Reg.Cnt.TH_EVENT [j] = false → 
     exec (.thresholdSample j) s = .next ((({ s.wr Reg.Cnt.TH_ABOVE [j] 1 with freeCtr := s.freeCtr + bit (s.rd Reg.Cnt.TH_KIND [j] == 7) } : State).count (106496 + j)).count (110592 + j))) ∧
  (∀ (s : State) (j : Nat), j < 4096 → s.flag Reg.Cnt.TH_EN [j] = true → s.rd Reg.Cnt.TH_N [j] < s.signal (s.rd Reg.Cnt.TH_KIND [j]) (s.rd Reg.Cnt.TH_INDEX [j]) → s.flag Reg.Cnt.TH_ABOVE [j] = false → s.flag Reg.Cnt.TH_EVENT [j] = true → 
     exec (.thresholdSample j) s = .next (((({ s.wr Reg.Cnt.TH_ABOVE [j] 1 with freeCtr := s.freeCtr + bit (s.rd Reg.Cnt.TH_KIND [j] == 7) } : State).count (106496 + j)).count (110592 + j)).raiseRated rateMs 0xE0 j (tagOf ((({ s.wr Reg.Cnt.TH_ABOVE [j] 1 with freeCtr := s.freeCtr + bit (s.rd Reg.Cnt.TH_KIND [j] == 7) } : State).count (106496 + j)).count (110592 + j)) 0 (Reg.Cnt.TH_KIND.addr [j])) (Reg.Cnt.TH_KIND.addr [j]) [])) ∧
  (∀ (s : State) (j : Nat), j < 4096 → s.flag Reg.Cnt.TH_EN [j] = true → s.signal (s.rd Reg.Cnt.TH_KIND [j]) (s.rd Reg.Cnt.TH_INDEX [j]) ≤ s.rd Reg.Cnt.TH_N [j] → 
     exec (.thresholdSample j) s = .next ({ s.wr Reg.Cnt.TH_ABOVE [j] 0 with freeCtr := s.freeCtr + bit (s.rd Reg.Cnt.TH_KIND [j] == 7) } : State)) ∧
  (∀ (s : State) (e : Ev) (q : List Ev), s.evs.queue = e :: q → s.evs.dropped = 0 → s.flag Reg.Bar.EQ_EN [0] = false → s.vfOf e.tenant = none → 
     ∃ t, exec .eventDeliver s = .next t ∧ t.evs.queue = q ∧ t.rd Reg.Cnt.EV_QFILL [] = q.length % 2 ^ Reg.Cnt.EV_QFILL.w ∧ t.rd Reg.Cnt.EV_HEAD [] = (s.rd Reg.Cnt.EV_HEAD [] + 1) % 2 ^ Reg.Cnt.EV_HEAD.w ∧ t.out = s.out) ∧
  (∀ (s : State) (e : Ev) (q : List Ev), s.evs.queue = e :: q → s.evs.dropped = 0 → s.flag Reg.Bar.EQ_EN [0] = true → s.vfOf e.tenant = none → (s.rd Reg.Bar.EQ_TAIL [0] + 1) % 2 ^ s.rd Reg.Bar.EQ_LOG2 [0] ≠ s.rd Reg.Bar.EQ_HEAD [0] → (s.rd Reg.Bar.IRQ_EN [0]).testBit 1 = false → 
     ∃ t, exec .eventDeliver s = .next t ∧ t.out = s.out ++ [.event 0 (s.rd Reg.Bar.EQ_TAIL [0]) e (e.ringBytes (s.rd Reg.Hid.EQ_PHASE [0]))] ∧ t.evs.queue = q) ∧
  (∀ (s : State) (w : RateWin), s.window? w.code w.key = some w → w.count = 0 → 
     ∃ t, exec (.eventWindowClose w.code w.key) s = .next t ∧ t = (s.advanceTo w.closes).closeWindow w ∧ t.window? w.code w.key = none ∧ t.evs.queue = s.evs.queue ∧ t.ext = (s.advanceTo (w.closes)).ext ∧ t.regs = s.regs) ∧
  (∀ (s : State) (w : RateWin), s.window? w.code w.key = some w → w.count ≠ 0 → w.last.tenant = 0 → s.evs.queue.length < 1024 → severity w.last.code = 4 → 
     ∃ t, exec (.eventWindowClose w.code w.key) s = .next t ∧ t.evs.queue.map (fun e => (e.code, e.object, e.count)) = s.evs.queue.map (fun e => (e.code, e.object, e.count)) ++ [(w.last.code, w.last.object, w.count)]) ∧
  (∀ (s : State) (n : Nat), s.flag Reg.Mem.MEM_OPEN [] = true → 32 * n < s.memBytes → 
     ∃ t, exec (.patrolScrub n 1) s = .next t ∧ t = s.memCe (32 * n) ∧ t.rd Reg.Mem.CE_CNT [memChannel (32 * n)] = (s.rd Reg.Mem.CE_CNT [memChannel (32 * n)] + 1) % 2 ^ Reg.Mem.CE_CNT.w ∧ t.xmem = s.xmem) ∧
  (∀ (s : State) (n : Nat), s.flag Reg.Mem.MEM_OPEN [] = true → 32 * n < s.memBytes → 16777216 ≤ 32 * n → 
     ∃ t, exec (.patrolScrub n 2) s = .next t ∧ n ∈ t.xmem.bad ∧ t.rd Reg.Mem.UE_CNT [memChannel (32 * n)] = (s.rd Reg.Mem.UE_CNT [memChannel (32 * n)] + 1) % 2 ^ Reg.Mem.UE_CNT.w ∧ t.xmem.words = s.xmem.words) ∧
  (∀ (s : State) (n : Nat), 
     exec (.patrolScrub n 0) s = .next s)

/-- An arriving packet is counted at its port; one with a bad FCS goes no further, an over-long uplink frame is counted, and an encrypted one is decrypted first; a PLOAM or
OMCI message is checked under its slot. A good PLOAM message for software joins the queue of channel 0 and goes to the system program, and a control frame that finds its
channel's queue full is counted in CTRL_DROP of the channel. An upstream frame that no flow record names is counted in UNKNOWN_FLOW. Any other packet of a linked uplink
that is no MAC control frame enters the sieve: where the input queue is full it is dropped and counted, and where a buffer is free it makes its first pass under the
current version. A pass whose walk ends in drop counts in NO_PARSE; a drop for want of a rule counts as the profile's miss; a version no longer live goes to the slow
path. A recirculated packet starts its next pass at its node. The system context and tenant 0 scripts inject, into the action stage; any other context is refused. A bad
row is disabled and counted, found by the scrub or by a read of the rule; a spare bank takes over a bank by one switch of PHYS. -/
def Obligations.SievePackets : Prop :=
  (∀ (s : State) (p : Packet), 64 ≤ p.ingress → p.ingress < 96 → s.flag Reg.Lan.LINK_UP [p.ingress - 64] = true → s.flag Reg.Lan.UL_EN [p.ingress - 64] = true → frameLen p.bytes ≤ 10240 → p.fcsOk = false → 
     exec (.sievePacket p) s = .next (((s.chanTaken 5 p.full.punt).countArrival p).countUplink (p.ingress - 64) 4)) ∧
  (∀ (s : State) (p : Packet), 64 ≤ p.ingress → p.ingress < 96 → s.flag Reg.Lan.LINK_UP [p.ingress - 64] = true → s.flag Reg.Lan.UL_EN [p.ingress - 64] = true → frameLen p.bytes ≤ 10240 → p.fcsOk = true → s.flag Reg.Key.MACSEC_EN [p.ingress - 64] = false ∨ etherType p.bytes = 0x8808 → 
     exec (.sievePacket p) s = .next (((s.chanTaken 5 p.full.punt).countArrival p).arriveGood p)) ∧
  (∀ (s : State) (p : Packet), 64 ≤ p.ingress → p.ingress < 96 → s.flag Reg.Lan.LINK_UP [p.ingress - 64] = true → s.flag Reg.Lan.UL_EN [p.ingress - 64] = true → 10240 < frameLen p.bytes → p.fcsOk = true → 
     exec (.sievePacket p) s = .next (((s.chanTaken 5 p.full.punt).countArrival p).addTo Reg.Lan.OVERSIZE [p.ingress - 64] 1)) ∧
  (∀ (s : State) (p : Packet) (x : Seal), 64 ≤ p.ingress → p.ingress < 96 → s.flag Reg.Lan.LINK_UP [p.ingress - 64] = true → s.flag Reg.Lan.UL_EN [p.ingress - 64] = true → frameLen p.bytes ≤ 10240 → p.fcsOk = true → s.flag Reg.Key.MACSEC_EN [p.ingress - 64] = true → etherType p.bytes ≠ 0x8808 → p.crypt = some x → 
     exec (.sievePacket p) s = .next (((s.chanTaken 5 p.full.punt).countArrival p).hwRequest (.macRx (p.ingress - 64) x.idx x.pn) none (some (.frame p)))) ∧
  (∀ (s : State) (p : Packet), p.ingress < 64 → s.mode p.ingress ≠ 0 → s.head p.ingress = true → p.kind ≠ 3 → p.fcsOk = true → p.crypt = none → p.kind ≠ 1 → p.kind ≠ 2 → 
     exec (.sievePacket p) s = .next ((((s.chanTaken 5 p.full.punt).countArrival p).countFlow p).arriveGood p)) ∧
  (∀ (s : State) (p : Packet), p.ingress < 64 → s.mode p.ingress ≠ 0 → s.head p.ingress = true → p.kind ≠ 3 → p.fcsOk = true → p.crypt = none → p.kind = 1 ∨ p.kind = 2 → s.isEpon p.ingress = false → s.understudy p.ingress = false → p.term < 1020 → 
     exec (.sievePacket p) s = .next ((((s.chanTaken 5 p.full.punt).countArrival p).countFlow p).checked p.ingress p.term (.frame p))) ∧
  (∀ (s : State) (p : Packet), p.ingress < 64 → s.mode p.ingress ≠ 0 → s.head p.ingress = true → p.kind ≠ 3 → p.fcsOk = false → p.crypt = none → 
     exec (.sievePacket p) s = .next (((s.chanTaken 5 p.full.punt).countArrival p).countFlow p)) ∧
  (∀ (s : State) (p : Packet) (x : Seal), p.ingress < 64 → s.mode p.ingress ≠ 0 → s.head p.ingress = true → p.kind ≠ 3 → p.crypt = some x → s.understudy p.ingress = false → s.isEpon p.ingress = true ∨ p.kind ≠ 0 ∨ (s.flowOf p.ingress p.flowId p.term).isSome = true → 
     exec (.sievePacket p) s = .next ((((s.chanTaken 5 p.full.punt).countArrival p).countFlow p).hwRequest (.up p.ingress p.term x.idx) none (some (.frame p)))) ∧
  (∀ (s : State) (p : Packet) (c : Nat), s.channelFor p = some c → c = 0 → s.head p.ingress = false ∨ s.understudy p.ingress = false → (((s.strike p.full.ents).strikeRows p.full.rows).chanTaken c p.full.taken).rd Reg.Hid.CHQ [c] < chanDepth c → 
     s.arriveGood p = ((((s.strike p.full.ents).strikeRows p.full.rows).chanTaken c p.full.taken).wr Reg.Hid.CHQ [c] ((((s.strike p.full.ents).strikeRows p.full.rows).chanTaken c p.full.taken).rd Reg.Hid.CHQ [c] + 1)).emit (.channel 0 p.ingress p.term p.bytes)) ∧
  (∀ (s : State) (p : Packet) (c : Nat), s.channelFor p = some c → s.head p.ingress = false ∨ s.understudy p.ingress = false → c ≠ 2 ∨ isReport p.bytes = false → chanDepth c ≤ (((s.strike p.full.ents).strikeRows p.full.rows).chanTaken c p.full.taken).rd Reg.Hid.CHQ [c] → 
     s.arriveGood p = (((s.strike p.full.ents).strikeRows p.full.rows).chanTaken c p.full.taken).addTo Reg.Sve.CTRL_DROP [c] 1) ∧
  (∀ (s : State) (p : Packet), p.ingress < 64 → s.head p.ingress = true → s.channelFor p = none → s.flowOf p.ingress p.flowId p.term = none → 
     s.arriveGood p = ((s.strike p.full.ents).strikeRows p.full.rows).addTo Reg.Fwd.UNKNOWN_FLOW [] 1) ∧
  (∀ (s : State) (p : Packet), 64 ≤ p.ingress → p.ingress < 96 → s.channelFor p = none → etherType p.bytes ≠ 0x8808 → 
     s.arriveGood p = ((s.strike p.full.ents).strikeRows p.full.rows).enterSieve p 0 0xFFFF 0xFFFF) ∧
  (∀ (s : State) (p : Packet) (n x f : Nat), p.full.input = true → 
     s.enterSieve p n x f = (s.addTo Reg.Sve.SIEVE_DROP [p.ingress] 1).raiseRated rateMs 0xB0 p.ingress (tagOf s 0 (ingressObj p.ingress)) (ingressObj p.ingress) []) ∧
  (∀ (s t : State) (p : Packet) (n x f k : Nat), p.full.input = false → s.allocBuf (frameLen p.bytes) false (ownerHw 4 p.ingress) n = (some k, t) → 
     s.enterSieve p n x f = t.pass { bytes := p.bytes, ingress := p.ingress, tenant := n, term := x, flow := f, ver := t.rd Reg.Sve.V_CUR [], pass := 1, node := 0, buf := k, stamp := t.now, full := p.full } (fun v => v.start p.ingress)) ∧
  (∀ (s : State) (p : RPkt) (v : VSet) (nx : VSet → Nat) (w : Walk), s.setOf p.ver = some v → v.walk p.bytes 17 (nx v) 0 0 p.bytes.length [] = w → w.fin = .drop → 
     s.pass p nx = (s.addTo Reg.Sve.NO_PARSE [p.ingress] 1).hwDone p.buf) ∧
  (∀ (s : State) (p : RPkt) (v : VSet) (nx : VSet → Nat) (w : Walk) (k : Nat), s.setOf p.ver = some v → v.walk p.bytes 17 (nx v) 0 0 p.bytes.length [] = w → w.fin = .profile k → s.classify v k p.tenant (v.key k p w (v.pattern k p.bytes)) = none → actDisp (v.profiles.get (32 * k + 3)).toNat = 0 → 
     s.pass p nx = (s.addTo Reg.Hid.MISS_DROP [k] 1).act p w (v.profiles.get (32 * k + 3)).toNat 0) ∧
  (∀ (s : State) (p : RPkt) (nx : VSet → Nat), s.setOf p.ver = none → 
     s.pass p nx = (s.addTo Reg.Sve.RETIRED_CNT [] 1).slow p ⟨.drop, 0, p.bytes.length, []⟩ 5) ∧
  (∀ (s : State) (p : RPkt) (rest : List RPkt), s.sieve.recirc = p :: rest → 
     exec .recircPass s = .next (({ s with sieve := { s.sieve with recirc := rest } } : State).pass p (fun _ => p.node))) ∧
  (∀ (s : State) (cx : Cx) (c : Ctx) (a : Word) (b : List Nat) (fl : Full) (k : Nat), s.ctx? cx = some c → c.tenant = 0 → c.tree? = none → actionOk a.toNat = true → (s.chanTaken 5 fl.punt).rd Reg.Hid.CHQ [5] < chanDepth 5 → ((s.chanTaken 5 fl.punt).allocBuf (frameLen b) true (ownerHw 4 127) 0).1 = some k → 
     exec (.puntInject cx a b fl) s = .next (((((s.chanTaken 5 fl.punt).allocBuf (frameLen b) true (ownerHw 4 127) 0).2.strike fl.ents).strikeRows fl.rows).act { bytes := b, ingress := 127, tenant := 0, term := 0xFFFF, flow := 0xFFFF, ver := 0, pass := 1, node := 0, buf := k, stamp := ((s.chanTaken 5 fl.punt).allocBuf (frameLen b) true (ownerHw 4 127) 0).2.now, full := fl } ⟨.drop, 0, b.length, []⟩ a.toNat 0)) ∧
  (∀ (s : State) (cx : Cx) (c : Ctx) (a : Word) (b : List Nat) (fl : Full), s.ctx? cx = some c → c.tenant ≠ 0 ∨ c.tree? ≠ none → 
     exec (.puntInject cx a b fl) s = .next ((s.chanTaken 5 fl.punt).refuseInject cx c 1)) ∧
  (∀ (s : State) (cx : Cx) (c : Ctx) (a : Word) (b : List Nat) (fl : Full), s.ctx? cx = some c → c.tenant = 0 → c.tree? = none → actionOk a.toNat = true → chanDepth 5 ≤ (s.chanTaken 5 fl.punt).rd Reg.Hid.CHQ [5] → 
     exec (.puntInject cx a b fl) s = .next ((s.chanTaken 5 fl.punt).addTo Reg.Sve.CTRL_DROP [5] 1)) ∧
  (∀ (s : State) (bk row : Nat), row ∈ s.rowsHeld bk → (4096 * bk + row) ∉ s.sieve.bad → 
     ∃ t, exec (.parityScrub bk row true) s = .next t ∧ t.sieve = { s.sieve with bad := s.sieve.bad ++ [4096 * bk + row], struck := s.sieve.struck.filter (· != 4096 * bk + row) } ∧ t.rd Reg.Sve.PARITY_ERR [] = (s.rd Reg.Sve.PARITY_ERR [] + 1) % 2 ^ Reg.Sve.PARITY_ERR.w ∧ t.fwd = s.fwd ∧ t.cpu = s.cpu ∧ t.out = s.out) ∧
  (∀ (s : State) (r : Rule) (bk : Nat), bk ∈ r.banks → 4096 * bk + r.row ∈ s.sieve.struck → 4096 * bk + r.row ∉ s.sieve.bad → 
     4096 * bk + r.row ∈ (s.checkRule r).sieve.bad ∧ (s.checkRule r).ruleOk r = false) ∧
  (∀ (s : State) (r : Rule) (bk : Nat), bk ∈ r.banks → (4096 * bk + r.row) ∈ s.sieve.bad → 
     s.ruleOk r = false) ∧
  (∀ (s : State) (bk ph : Nat), bk < 64 → ph < 66 → (∀ b < 64, s.rd Reg.Sve.PHYS [b] ≠ ph) → (∀ x ∈ s.reh.slices, x.target ≠ .bank ph ∧ (x.target = .bank bk → 64 ≤ ph)) → 
     exec (.spareBankSwitch bk ph) s = .next (s.wr Reg.Sve.PHYS [bk] ph))

/-- QUEUE_SEND sends the front frame of the queue that the hierarchy picks, on a lit port, in clear only for a flow without ENC, counted at its port; with ENC it becomes a
request, and with no key slot it is never sent. An uplink serves its highest queue that holds a frame, sealed where MACSEC_EN is 1, and sends nothing while a remote fault
arrives or its link is down. The oldest learn leaves the queue, is published here unless unit 0 serialises it, and what it changes is shared with the twin, and none is
while the pair is apart; a learn of a key not in the table, with a way free, becomes an entry with its destination and tags; a station move is made or counted dropped by
MOVE_OK; static and bound entries stay. A read of an entry whose parity is wrong disables and counts it. At a visit of a unit alone the rake clears HIT and sets AGE to
the epoch, removes an entry whose age reaches its service's limit, keeps the age at 15 where the limit is 0, and leaves a static entry. -/
def Obligations.ForwardingEngines : Prop :=
  (∀ (s : State) (z q n : Nat) (f : QFrame) (rest : List QFrame), z < 64 → s.head z = true → s.flag Reg.Pon.LIT [z] = true → s.hasMax 1 z = true → s.pick 3 1 z = some (q, n) → s.queue q = f :: rest → f.buf / 4194304 ≠ 4 → (s.rd Reg.Key.ENC [z, f.flow / 32]).testBit (f.flow % 32) = false → 
     ∃ t, exec (.queueSend z) s = .next t ∧ t.queue q = rest ∧ .down z f.flow f.bytes ∈ t.out ∧ t.rd Reg.Cnt.CNT [114688 + 32 * z + 0] = (s.rd Reg.Cnt.CNT [114688 + 32 * z + 0] + 1) % 2 ^ 40 ∧ t.rd Reg.Cnt.CNT [114688 + 32 * z + 1] = (s.rd Reg.Cnt.CNT [114688 + 32 * z + 1] + frameLen f.bytes) % 2 ^ 40 ∧ t.cipher = s.cipher ∧ t.fwd.table = s.fwd.table) ∧
  (∀ (s : State) (z q n : Nat) (f : QFrame) (rest : List QFrame), z < 64 → s.head z = true → s.flag Reg.Pon.LIT [z] = true → s.hasMax 1 z = true → s.pick 3 1 z = some (q, n) → s.queue q = f :: rest → f.buf / 4194304 ≠ 4 → (s.rd Reg.Key.ENC [z, f.flow / 32]).testBit (f.flow % 32) = true → s.flag Reg.Fwd.MCAST [z, f.flow] = false → s.rd Reg.Key.DN_SLOT [z, s.rd Reg.Fwd.TERM [z, f.flow]] = 0 → s.queueRoom (.down z (s.rd Reg.Fwd.TERM [z, f.flow])) = true → 
     ∃ t, exec (.queueSend z) s = .next t ∧ t.queue q = rest ∧ t.out = s.out ∧ t.rd Reg.Key.KEY_ABSENT_CNT [] = (s.rd Reg.Key.KEY_ABSENT_CNT [] + 1) % 2 ^ Reg.Key.KEY_ABSENT_CNT.w) ∧
  (∀ (s v : State) (z q n : Nat) (f : QFrame), z < 64 → s.head z = true → s.flag Reg.Pon.LIT [z] = true → s.hasMax 1 z = true → s.pick 3 1 z = some (q, n) → s.takeFrame 1 q = some (f, v) → f.buf / 4194304 ≠ 4 → 
     exec (.queueSend z) s = .next (if (v.rd Reg.Key.ENC [z, f.flow / 32]).testBit (f.flow % 32) then v.hwRequest (if v.flag Reg.Fwd.MCAST [z, f.flow] then .bcast z else .down z (v.rd Reg.Fwd.TERM [z, f.flow])) (some f) none else ((((v.countPort z 0).countPort z 1 (frameLen f.bytes)).emit (.down z f.flow f.bytes)).leave f))) ∧
  (∀ (s : State) (u c : Nat) (f : QFrame) (rest : List QFrame), u < 32 → c < 8 → s.flag Reg.Lan.LINK_UP [u] = true → s.flag Reg.Lan.UL_EN [u] = true → s.flag Reg.Lan.REMOTE_FAULT [u] = false → (∀ i < modeLanes (s.rd Reg.Lan.UL_MODE [u]), s.rd Reg.Lan.PRBS_GEN [u + i] = 0) → s.upQueue (8 * u + c) = f :: rest → (∀ d < 8, c < d → s.upQueue (8 * u + d) = []) → f.buf / 4194304 ≠ 4 → s.flag Reg.Key.MACSEC_EN [u] = false → 
     ∃ t, exec (.uplinkFrameSend u) s = .next t ∧ t.upQueue (8 * u + c) = rest ∧ .uplink u f.bytes ∈ t.out ∧ t.rd Reg.Que.UQ_DEPTH [u, c] = queueBytes rest % 2 ^ Reg.Que.UQ_DEPTH.w ∧ t.fwd.queues = s.fwd.queues ∧ t.fwd.table = s.fwd.table) ∧
  (∀ (s : State) (u c : Nat) (f : QFrame) (rest : List QFrame), u < 32 → c < 8 → s.flag Reg.Lan.LINK_UP [u] = true → s.flag Reg.Lan.UL_EN [u] = true → s.flag Reg.Lan.REMOTE_FAULT [u] = false → (∀ i < modeLanes (s.rd Reg.Lan.UL_MODE [u]), s.rd Reg.Lan.PRBS_GEN [u + i] = 0) → s.upQueue (8 * u + c) = f :: rest → (∀ d < 8, c < d → s.upQueue (8 * u + d) = []) → f.buf / 4194304 ≠ 4 → s.flag Reg.Key.MACSEC_EN [u] = true → 
     exec (.uplinkFrameSend u) s = .next (({ s.wr Reg.Que.UQ_DEPTH [u, c] (queueBytes rest) with fwd := { s.fwd with upq := if rest.isEmpty then s.fwd.upq.del (8 * u + c) else s.fwd.upq.put (8 * u + c) rest } } : State).hwRequest (.macTx u) (some f) none)) ∧
  (∀ (s : State) (u : Nat), s.flag Reg.Lan.REMOTE_FAULT [u] = true ∨ s.flag Reg.Lan.LINK_UP [u] = false → 
     exec (.uplinkFrameSend u) s = .next s) ∧
  (∀ (s : State) (l : Learn) (rest : List Learn), s.fwd.learns = l :: rest → s.learning = true → s.learnsAtUnit0 = false → 
     exec .learn s = .next (({ s.wr Reg.Fwd.LEARN_Q [] rest.length with fwd := { s.fwd with learns := rest } } : State).shareTable (({ s.wr Reg.Fwd.LEARN_Q [] rest.length with fwd := { s.fwd with learns := rest } } : State).publish l))) ∧
  (∀ (s : State) (l : Learn) (rest : List Learn), s.fwd.learns = l :: rest → s.learning = true → s.learnsAtUnit0 = true → 
     exec .learn s = .next (({ s.wr Reg.Fwd.LEARN_Q [] rest.length with fwd := { s.fwd with learns := rest } } : State).shareLearn l none)) ∧
  (∀ (s : State), s.learning = false → 
     exec .learn s = .next s) ∧
  (∀ (s : State) (l : Learn), (∀ x ∈ s.fwd.table, x.2.struck = false) → s.entOf l.svc l.mac = none → s.freeWays (bucketOf 0 l.svc l.mac) ≠ [] → 
     ((s.publish l).entOf l.svc l.mac).map (fun x => (x.2.dest, x.2.tenant, x.2.bound, x.2.static, x.2.age)) = some (l.dest, l.tenant, l.bound, false, s.rd Reg.Fwd.EPOCH []) ∧ (s.publish l).fwd.queues = s.fwd.queues ∧ (s.publish l).cpu = s.cpu ∧ (s.publish l).evs = s.evs) ∧
  (∀ (s : State) (l : Learn) (h : Nat) (e : FEnt), (∀ x ∈ s.fwd.table, x.2.struck = false) → s.entOf l.svc l.mac = some (h, e) → e.parity = false → e.static = true ∨ e.bound = true → 
     s.publish l = s) ∧
  (∀ (s : State) (l : Learn) (h : Nat) (e : FEnt), (∀ x ∈ s.fwd.table, x.2.struck = false) → s.entOf l.svc l.mac = some (h, e) → e.parity = false → e.static = false → e.bound = false → dKind e.dest < 2 → s.samePoint e.dest l.dest = false → 
     s.publish l = if s.flag Reg.Fwd.MOVE_OK [l.svc] then (s.modEnt h (fun e => { e with dest := l.dest })).addTo Reg.Fwd.MOVES [] 1 else s.addTo Reg.Fwd.MOVE_DROP [] 1) ∧
  (∀ (s : State) (h : Nat) (e : FEnt), s.fwd.table.get? h = some e → e.struck = true → e.parity = false → 
     (s.checkEnt h).fwd.table.get? h = some { e with parity := true, struck := false } ∧ (s.checkEnt h).rd Reg.Fwd.PARITY_ERR [] = (s.rd Reg.Fwd.PARITY_ERR [] + 1) % 2 ^ Reg.Fwd.PARITY_ERR.w ∧ (s.checkEnt h).fwd.queues = s.fwd.queues) ∧
  (∀ (s : State) (b w h : Nat) (e : FEnt), b < 262144 → b ≠ 0 → s.pairing = 0 → (s.fwd.table.map Prod.fst).Nodup → w < 4 → s.inWay b w = some (h, e) → e.static = false → e.parity = false → e.struck = false → e.hit = true → 
     ∃ t, exec (.rakeVisit b [] []) s = .next t ∧ t.fwd.table.get? h = some { e with hit := false, age := s.rd Reg.Fwd.EPOCH [] } ∧ t.rd Reg.Fwd.EPOCH [] = s.rd Reg.Fwd.EPOCH [] ∧ t.fwd.queues = s.fwd.queues) ∧
  (∀ (s : State) (b w h : Nat) (e : FEnt), b < 262144 → b ≠ 0 → s.pairing = 0 → (s.fwd.table.map Prod.fst).Nodup → w < 4 → s.inWay b w = some (h, e) → e.static = false → e.parity = false → e.struck = false → e.hit = false → 1 ≤ s.rd Reg.Fwd.AGE_LIMIT [e.svc] → s.rd Reg.Fwd.AGE_LIMIT [e.svc] ≤ (s.rd Reg.Fwd.EPOCH [] + 16 - e.age) % 16 → 
     ∃ t, exec (.rakeVisit b [] []) s = .next t ∧ t.fwd.table.get? h = none ∧ t.fwd.queues = s.fwd.queues) ∧
  (∀ (s : State) (b w h : Nat) (e : FEnt), b < 262144 → b ≠ 0 → s.pairing = 0 → (s.fwd.table.map Prod.fst).Nodup → w < 4 → s.inWay b w = some (h, e) → e.static = false → e.parity = false → e.struck = false → e.hit = false → s.rd Reg.Fwd.AGE_LIMIT [e.svc] = 0 → 
     ∃ t, exec (.rakeVisit b [] []) s = .next t ∧ t.fwd.table.get? h = some { e with age := (s.rd Reg.Fwd.EPOCH [] + 1) % 16 }) ∧
  (∀ (s : State) (b w h : Nat) (e : FEnt), b < 262144 → b ≠ 0 → s.pairing = 0 → (s.fwd.table.map Prod.fst).Nodup → w < 4 → s.inWay b w = some (h, e) → e.static = true → e.struck = false → 
     ∃ t, exec (.rakeVisit b [] []) s = .next t ∧ t.fwd.table.get? h = some e)

/-- A hardware user's request without room in the queue is dropped and counted. One that enters is bound to the slot that serves it and counted in INFLIGHT; while a swap is
pending it is held and counted in HELD_REQ; with no slot it is refused as KEY_ABSENT. The completion of an upstream request takes it out of INFLIGHT, lets the frame it
decrypted go on, and a wrong tag is counted. A Key_Report, checked first where the terminal has an integrity slot, loads the reported key index into the successor,
switches the transmit side and clears REKEY_BUSY. 100 ms without an answer send Key_Control again, and after three sends fail the re-key. A failing sample clears ENT_OK
and counts; 1,024 good ones in a row set it, and fewer only count. -/
def Obligations.CipherRequests : Prop :=
  (∀ (s : State) (u : CUser), s.requests u = true → 
     exec (.cipherRequest u) s = .next (s.hwRequest u none none)) ∧
  (∀ (s : State) (u : CUser), s.queueRoom u = false → 
     s.hwRequest u none none = s.addTo Reg.Key.CIPHER_DROP [] 1) ∧
  (∀ (s : State) (u : CUser) (n : Nat), s.requests u = true → s.queueRoom u = true → n < 147456 → s.pairing = 0 → s.route u (s.bindingOf u) = .serve n → s.spent n = false → 
     ∃ t, exec (.cipherRequest u) s = .next t ∧ t.cipher.bound.map (fun r => (r.user, r.slot, r.mode)) = s.cipher.bound.map (fun r => (r.user, r.slot, r.mode)) ++ [(u, n, s.rd Reg.Key.MODE [n])] ∧
      t.cipher.held = s.cipher.held ∧ t.rd Reg.Key.INFLIGHT [n] = (s.rd Reg.Key.INFLIGHT [n] + 1) % 2 ^ Reg.Key.INFLIGHT.w ∧ t.fwd = s.fwd ∧ t.bufs = s.bufs) ∧
  (∀ (s : State) (u : CUser) (n : Nat), s.requests u = true → s.queueRoom u = true → n < 147456 → s.route u (s.bindingOf u) = .hold n → 
     ∃ t, exec (.cipherRequest u) s = .next t ∧ t.cipher.held.map (fun r => (r.user, r.slot)) = s.cipher.held.map (fun r => (r.user, r.slot)) ++ [(u, n)] ∧ t.cipher.bound = s.cipher.bound ∧
      t.rd Reg.Key.HELD_REQ [] = (s.rd Reg.Key.HELD_REQ [] + 1) % 2 ^ Reg.Key.HELD_REQ.w ∧ t.rd Reg.Key.HELD [n] = (s.rd Reg.Key.HELD [n] + 1) % 2 ^ Reg.Key.HELD.w ∧ t.rd Reg.Key.INFLIGHT [n] = s.rd Reg.Key.INFLIGHT [n]) ∧
  (∀ (s : State) (u : CUser), s.requests u = true → s.queueRoom u = true → s.route u (s.bindingOf u) = .refuse 0x20 → 
     ∃ t, exec (.cipherRequest u) s = .next t ∧ t.cipher = s.cipher ∧ t.rd Reg.Key.KEY_ABSENT_CNT [] = (s.rd Reg.Key.KEY_ABSENT_CNT [] + 1) % 2 ^ Reg.Key.KEY_ABSENT_CNT.w ∧ t.out = s.out) ∧
  (∀ (s : State) (z t n k : Nat) (r : CReq) (rest : List CReq), z < 64 → n < 147456 → takeReq (.up z t k) n s.cipher.bound = some (r, rest) → r.msg = none → s.cipher.waiting = [] → s.rd Reg.Key.INFLIGHT [n] ≠ 0 → 
     ∃ u, exec (.cipherRequestDone (.up z t k) n true) s = .next u ∧ u.cipher.bound = rest ∧ u.rd Reg.Key.INFLIGHT [n] + 1 = s.rd Reg.Key.INFLIGHT [n] ∧ u.rd Reg.Key.Q_FREE [] = (4096 - (rest.length + s.cipher.held.length)) % 2 ^ Reg.Key.Q_FREE.w ∧ u.fwd = s.fwd) ∧
  (∀ (s : State) (z t n k : Nat) (r : CReq) (rest : List CReq), z < 64 → n < 147456 → takeReq (.up z t k) n s.cipher.bound = some (r, rest) → r.verifies = true → s.cipher.waiting = [] → 
     ∃ u, exec (.cipherRequestDone (.up z t k) n false) s = .next u ∧ u.rd Reg.Key.AUTH_FAILS [] = (s.rd Reg.Key.AUTH_FAILS [] + 1) % 2 ^ Reg.Key.AUTH_FAILS.w ∧ u.rd Reg.Key.AUTH_FAIL_S [n] = (s.rd Reg.Key.AUTH_FAIL_S [n] + 1) % 2 ^ Reg.Key.AUTH_FAIL_S.w ∧ u.cipher.bound = rest) ∧
  (∀ (s : State) (z t n k : Nat) (r : CReq) (rest : List CReq) (p : Packet), z < 64 → n < 147456 → takeReq (.up z t k) n s.cipher.bound = some (r, rest) → r.msg = some (.frame p) → p.crypt = none → 
     exec (.cipherRequestDone (.up z t k) n true) s = .next (State.showFree (State.admitWaiting (State.opened { s.wr Reg.Key.INFLIGHT [n] (s.rd Reg.Key.INFLIGHT [n] - 1) with cipher := { s.cipher with bound := rest } } (r.open p 0))))) ∧
  (∀ (s : State) (z t i m : Nat) (fr : List Nat), z < 64 → t < 1020 → s.pairing = 0 → s.rd Reg.Key.MIC_SLOT [z, t] = 0 → s.flag Reg.Key.REKEY_BUSY [z, t] = true → s.rd Reg.Key.TKEK_SLOT [z, t] ≠ 0 → s.rd Reg.Key.TKEK_SLOT [z, t] < 147456 → s.rd Reg.Key.STATE [s.rd Reg.Key.TKEK_SLOT [z, t]] = 1 → s.rd Reg.Key.MODE [s.rd Reg.Key.TKEK_SLOT [z, t]] = 4 → s.rd Reg.Key.DN_SLOT [z, t] = s.rd Reg.Key.UP_SLOT [z, t] → s.rekeySlots z t = some [s.rd Reg.Key.DN_SLOT [z, t]] → s.rd Reg.Key.STATE [s.rd Reg.Key.DN_SLOT [z, t]] = 1 → s.rd Reg.Key.K256 [s.rd Reg.Key.DN_SLOT [z, t]] = 0 → s.rd Reg.Key.DN_SLOT [z, t] < 147456 → s.rd Reg.Key.SUCC [s.rd Reg.Key.DN_SLOT [z, t]] = m → m < 147456 → s.rd Reg.Key.INFLIGHT [m] = 0 → (s.slot m).ops = [] → s.cipher.held = [] → s.cipher.waiting = [] → 
     ∃ u, exec (.keyReport z t i fr) s = .next u ∧ u.rd Reg.Key.REKEY_BUSY [z, t] = 0 ∧ u.rd Reg.Key.STATE [m] = 1 ∧ u.rd Reg.Key.KEYIDX [m] = i % 256 ∧ u.rd Reg.Key.MODE [m] = s.rd Reg.Key.MODE [s.rd Reg.Key.DN_SLOT [z, t]] ∧
      u.rd Reg.Key.STATE [s.rd Reg.Key.DN_SLOT [z, t]] = 2 ∧ u.rd Reg.Key.SWITCHES [] = (s.rd Reg.Key.SWITCHES [] + 1) % 2 ^ Reg.Key.SWITCHES.w) ∧
  (∀ (s : State) (z t i : Nat) (fr : List Nat), z < 64 → t < 1020 → s.flag Reg.Key.REKEY_BUSY [z, t] = true → s.rd Reg.Key.MIC_SLOT [z, t] ≠ 0 → 
     exec (.keyReport z t i fr) s = .next (s.hwRequest (.mic z t) none (some (.keyReport i fr)))) ∧
  (∀ (s : State) (z t : Nat), z < 64 → t < 1020 → s.flag Reg.Key.REKEY_BUSY [z, t] = true → s.rd Reg.Hid.REKEY_TRY [z, t] < 3 → 
     ∃ u, exec (.rekeyTimeout z t) s = .next u ∧ u = (s.advanceTo (s.rd Reg.Hid.REKEY_AT [z, t] + msTicks 100)).keyControl z t ∧ u.rd Reg.Hid.REKEY_TRY [z, t] = s.rd Reg.Hid.REKEY_TRY [z, t] + 1 ∧ u.rd Reg.Key.REKEY_BUSY [z, t] = 1 ∧ u.rd Reg.Key.REKEY_FAILS [] = s.rd Reg.Key.REKEY_FAILS [] ∧ u.cipher = s.cipher) ∧
  (∀ (s : State) (z t : Nat), z < 64 → t < 1020 → s.flag Reg.Key.REKEY_BUSY [z, t] = true → 3 ≤ s.rd Reg.Hid.REKEY_TRY [z, t] → 
     ∃ u, exec (.rekeyTimeout z t) s = .next u ∧ u = (s.advanceTo (s.rd Reg.Hid.REKEY_AT [z, t] + msTicks 100)).rekeyFailed z t ∧ u.rd Reg.Key.REKEY_BUSY [z, t] = 0 ∧ u.rd Reg.Key.REKEY_FAILS [] = (s.rd Reg.Key.REKEY_FAILS [] + 1) % 2 ^ Reg.Key.REKEY_FAILS.w ∧ u.cipher = s.cipher) ∧
  (∀ (s : State), 1023 ≤ s.rd Reg.Hid.ENT_RUN [0] → 
     exec (.entropySample true) s = .next ((s.wr Reg.Hid.ENT_RUN [0] 1024).wr Reg.Key.ENT_OK [] 1)) ∧
  (∀ (s : State), s.rd Reg.Hid.ENT_RUN [0] < 1023 → 
     exec (.entropySample true) s = .next (s.wr Reg.Hid.ENT_RUN [0] (s.rd Reg.Hid.ENT_RUN [0] + 1))) ∧
  (∀ (s : State), 
     exec (.entropySample false) s = .next ((((s.wr Reg.Hid.ENT_RUN [0] 0).wr Reg.Key.ENT_OK [] 0).addTo Reg.Key.ENT_FAILS [] 1).raise 0xC4 (Reg.Key.ENT_OK.addr []) []))

/-- A slice whose condition does not hold is not started and is counted in SKIPPED, and one on a buffer that finds none to lend is INCOMPLETE; in SCRAP none starts; one that
starts is listed with its end, its block and its instance; one of a serving pair waits for the boundary at which a wings pair takes the tree. A classifier bank is ready
while a spare serves it and it serves none, a receiver while time is left for it, a dark path while its port is not lit. An ended slice is judged by its segments, and a
yielded one as if none had run. A slice of a bank passes only when every segment it started ran its full count with the expected signature; a full count with another
signature fails it and retires the bank, and any other slice is INCOMPLETE. A cycle past 20 minutes sets CYCLE_LATE. -/
def Obligations.RehearsalSlices : Prop :=
  (∀ (s : State) (e : Nat) (t : SliceTarget), e < 1024 → s.lifecycle ≠ 4 → s.flag Reg.Reh.REH_EN [] = true → s.reh.slices.length < 8 → (∀ x ∈ s.reh.slices, targetPlace x.target ≠ targetPlace t ∧ x.entry ≠ e) → s.entryWaits e = false → t ∉ s.reh.retired → s.sliceReady t = none → s.noFreeBuf t = false → 
     exec (.sliceStart e t) s = .next (s.addTo Reg.Reh.SKIPPED [] 1)) ∧
  (∀ (s : State) (e : Nat) (t : SliceTarget), e < 1024 → s.lifecycle ≠ 4 → s.flag Reg.Reh.REH_EN [] = true → s.reh.slices.length < 8 → (∀ x ∈ s.reh.slices, targetPlace x.target ≠ targetPlace t ∧ x.entry ≠ e) → s.entryWaits e = false → t ∉ s.reh.retired → s.sliceReady t = none → s.noFreeBuf t = true → 
     ∃ u, exec (.sliceStart e t) s = .next u ∧ u.rd Reg.Reh.E_CODE [e] = 3 ∧ u.rd Reg.Reh.SLICES_INCOMPLETE [] = (s.rd Reg.Reh.SLICES_INCOMPLETE [] + 1) % 2 ^ Reg.Reh.SLICES_INCOMPLETE.w ∧ u.rd Reg.Reh.SKIPPED [] = s.rd Reg.Reh.SKIPPED [] ∧ u.bufs = s.bufs) ∧
  (∀ (s : State) (e : Nat) (t : SliceTarget), s.lifecycle = 4 → 
     exec (.sliceStart e t) s = .next s) ∧
  (∀ (s v : State) (e : Nat) (t : SliceTarget), e < 1024 → s.lifecycle ≠ 4 → s.flag Reg.Reh.REH_EN [] = true → s.reh.slices.length < 8 → (∀ x ∈ s.reh.slices, targetPlace x.target ≠ targetPlace t ∧ x.entry ≠ e) → s.entryWaits e = false → t ∉ s.reh.retired → s.sliceReady t = some v → (∀ z < 64, t ≠ .dark z) → v.sliceWaits t = none → 
     exec (.sliceStart e t) s =
        .next { (v.wr Reg.Reh.E_BLOCK [e] (targetPlace t).1).wr Reg.Reh.E_INST [e] (targetPlace t).2 with reh := { v.reh with slices := v.reh.slices ++ [Slice.mk e t (s.ext + s.sliceTicks t)] } }) ∧
  (∀ (s v : State) (e z : Nat) (t : SliceTarget), e < 1024 → s.lifecycle ≠ 4 → s.flag Reg.Reh.REH_EN [] = true → s.reh.slices.length < 8 → (∀ x ∈ s.reh.slices, targetPlace x.target ≠ targetPlace t ∧ x.entry ≠ e) → s.entryWaits e = false → t ∉ s.reh.retired → s.sliceReady t = some v → v.sliceWaits t = some z → 
     exec (.sliceStart e t) s = .next (((v.wr Reg.Reh.E_BLOCK [e] (targetPlace t).1).wr Reg.Reh.E_INST [e] (targetPlace t).2).wr Reg.Hid.TEST_ENTRY [z] (e + 1))) ∧
  (∀ (s : State) (b : Nat), b < 64 → 64 ≤ s.rd Reg.Sve.PHYS [b] → (∀ x < 64, s.rd Reg.Sve.PHYS [x] ≠ b) → 
     s.sliceReady (.bank b) = some s) ∧
  (∀ (s : State) (b x : Nat), x < 64 → s.rd Reg.Sve.PHYS [x] = b → 
     s.sliceReady (.bank b) = none) ∧
  (∀ (s : State) (z : Nat), z < 64 → 
     s.sliceReady (.receiver z) = (if 0 < s.spanLeft z then some s else none) ∧ s.sliceReady (.dark z) = (if s.flag Reg.Pon.LIT [z] then none else some s)) ∧
  (∀ (s : State) (e : Nat) (os : List SegObs) (w : Bool) (x : Slice), s.reh.slices.find? (fun x => x.entry == e) = some x → 
     exec (.sliceEnd e os w) s = .next (s.judgeSlice x os w) ∧ exec (.sliceYield e) s = .next (s.judgeSlice x [] false)) ∧
  (∀ (s : State) (e b : Nat) (os : List SegObs) (w : Bool) (x : Slice), e < 1024 → s.reh.slices.find? (fun x => x.entry == e) = some x → x.target = .bank b → s.flag Reg.Reh.E_FAILED [e] = false → os ≠ [] → (∀ o ∈ os, o.run = o.expected ∧ o.sig = o.expSig) → 
     ∃ u, exec (.sliceEnd e os w) s = .next u ∧ u.rd Reg.Reh.E_CODE [e] = 0 ∧ u.rd Reg.Reh.SLICES_OK [] = (s.rd Reg.Reh.SLICES_OK [] + 1) % 2 ^ Reg.Reh.SLICES_OK.w ∧ u.rd Reg.Reh.SLICES_FAIL [] = s.rd Reg.Reh.SLICES_FAIL [] ∧ u.reh.slices = s.reh.slices.filter (fun x => x.entry != e) ∧ u.sieve = s.sieve) ∧
  (∀ (s : State) (e b : Nat) (os : List SegObs) (w : Bool) (x : Slice) (o : SegObs), e < 1024 → s.reh.slices.find? (fun x => x.entry == e) = some x → x.target = .bank b → o ∈ os → o.run = o.expected → o.sig ≠ o.expSig → 
     ∃ u, exec (.sliceEnd e os w) s = .next u ∧ u.rd Reg.Reh.E_FAILED [e] = 1 ∧ u.rd Reg.Reh.SLICES_FAIL [] = (s.rd Reg.Reh.SLICES_FAIL [] + 1) % 2 ^ Reg.Reh.SLICES_FAIL.w ∧ u.rd Reg.Reh.SLICES_OK [] = s.rd Reg.Reh.SLICES_OK [] ∧ SliceTarget.bank b ∈ u.reh.retired) ∧
  (∀ (s : State) (e b : Nat) (os : List SegObs) (w : Bool) (x : Slice), e < 1024 → s.reh.slices.find? (fun x => x.entry == e) = some x → x.target = .bank b → (∃ o ∈ os, o.run ≠ o.expected) → (∀ o ∈ os, o.run = o.expected → o.sig = o.expSig) → 
     ∃ u, exec (.sliceEnd e os w) s = .next u ∧ u.rd Reg.Reh.E_CODE [e] = 3 ∧ u.rd Reg.Reh.SLICES_INCOMPLETE [] = (s.rd Reg.Reh.SLICES_INCOMPLETE [] + 1) % 2 ^ Reg.Reh.SLICES_INCOMPLETE.w ∧ u.rd Reg.Reh.SLICES_OK [] = s.rd Reg.Reh.SLICES_OK [] ∧ u.reh.retired = s.reh.retired) ∧
  (∀ (s : State) (e b : Nat) (x : Slice), e < 1024 → s.reh.slices.find? (fun x => x.entry == e) = some x → x.target = .bank b → 
     ∃ u, exec (.sliceYield e) s = .next u ∧ u.rd Reg.Reh.E_CODE [e] = 3 ∧ u.rd Reg.Reh.SLICES_INCOMPLETE [] = (s.rd Reg.Reh.SLICES_INCOMPLETE [] + 1) % 2 ^ Reg.Reh.SLICES_INCOMPLETE.w ∧ u.reh.slices = s.reh.slices.filter (fun x => x.entry != e) ∧ u.sieve = s.sieve) ∧
  (∀ (s : State), s.timeOn = true → s.rd Reg.Reh.CYCLE_LEFT [] ≠ 0 → s.flag Reg.Reh.CYCLE_LATE [] = false → 
     exec .coverageCycleLate s = .next ((s.advanceTo (s.extOf (BitVec.ofNat 40 (s.rd Reg.Reh.CYCLE_START [])) + secTicks 1200)).wr Reg.Reh.CYCLE_LATE [] 1))

/-- In a context that executes, with room in its image: LI alone loads a constant of 18 significant bits, signed; LI and one LIM load one whose upper part is 0 or all ones;
LI of bits [39:36] and two LIM load any constant. The destination is any register but w0. -/
def Obligations.ConstantsAreBuilt : Prop :=
  (∀ (s : State) (cx : Cx) (c : Ctx) (n : BitVec 5) (v : Word), s.Runs cx c → n ≠ 0 → (v.setWidth 18).signExtend 40 = v → 
     s.regAfter [.li cx ⟨n, 0, 0, v.setWidth 18⟩] cx n.toNat = some v) ∧
  (∀ (s : State) (cx : Cx) (c : Ctx) (n : BitVec 5) (v : Word), s.Runs cx c → c.pc + 1 < c.icount → n ≠ 0 → ((v >>> 18).setWidth 18).signExtend 22 = (v >>> 18).setWidth 22 → 
     s.regAfter [.li cx ⟨n, 0, 0, (v >>> 18).setWidth 18⟩, .lim cx ⟨n, n, 0, v.setWidth 18⟩] cx n.toNat = some v) ∧
  (∀ (s : State) (cx : Cx) (c : Ctx) (n : BitVec 5) (v : Word), s.Runs cx c → c.pc + 2 < c.icount → n ≠ 0 → 
     s.regAfter [.li cx ⟨n, 0, 0, (v >>> 36).setWidth 18⟩, .lim cx ⟨n, n, 0, (v >>> 18).setWidth 18⟩, .lim cx ⟨n, n, 0, v.setWidth 18⟩] cx n.toNat = some v)

/-- In every context that executes, TRAP raises an exception with code FAULT (0x7E) and subcause 0x08 at its own address, with its 18-bit immediate in EADDR; with a handler
and DEPTH 0, ECAUSE holds 0x87E and EADDR the immediate. -/
def Obligations.TrapRaisesItsImmediate : Prop :=
  (∀ (s : State) (cx : Cx) (f : Fields) (c : Ctx), s.Runs cx c → useImm.ok f = true → 
     exec (.trap cx f) s = .next ((s.trace cx.core 6 c.pc (if s.dataWord cx 5 = 0 then (s.dataWord cx 0).toNat % 2 ^ 17 else 0) cx.ctx).takeException cx (c.spend 6) 0x7E 8 c.pc
        (f.imm.setWidth 40) (ertenWord 0x61 f) false)) ∧
  (∀ (s : State) (cx : Cx) (f : Fields) (c : Ctx), s.Runs cx c → useImm.ok f = true → s.dataWord cx 0 ≠ 0 → (s.dataWord cx 0).toNat < 2 ^ 17 → s.dataWord cx 5 = 0 → 
     ∃ t, exec (.trap cx f) s = .next t ∧ t.dataWord cx 2 = BitVec.ofNat 40 (0x7E + 256 * 8) ∧ t.dataWord cx 3 = BitVec.ofNat 40 f.imm.toNat ∧ t.dataWord cx 1 = BitVec.ofNat 40 c.pc)

/-- For every state whose queue starts with a command, step answers what exec answers for that command in the state with the queue's rest. With an empty queue step answers
the state in which one tick of stage time has passed where stage time runs, and the same state where it does not; in a paired device the twin lanes send the row that
begins in the tick, if one does (the idle tick is the model's choice, log 7). -/
def Obligations.StepRunsTheFrontCommand : Prop :=
  (∀ (s : State) (c : Instr) (rest : List Instr), s.pending = c :: rest → 
     step s = exec c { s with pending := rest }) ∧
  (∀ (s : State), s.pending = [] → 
     step s = .next s.idle) ∧
  (∀ (s : State), s.timeOn = false ∨ s.pairing = 0 → 
     s.idle = if s.timeOn then { s with ext := s.ext + 1 } else s) ∧
  (∀ (s : State), s.timeOn = true → 
     s.idle.ext = s.ext + 1 ∧ s.idle.cpu = s.cpu ∧ s.idle.pending = s.pending ∧ s.idle.out.length ≤ s.out.length + 1 ∧ ∀ o ∈ s.out, o ∈ s.idle.out)

/-- After reset no context, ticket, table entry, rule or queued command exists; stage time does not run; every PON port is MODE 0 and dark; every key slot is empty; every
classifier bank serves itself; every port start of the sieve is drop; the rake and the rehearsal have their default settings; and every store has its canonical form. -/
def Obligations.AfterReset : Prop :=
  (
     State.reset.cpu.ctxs = [] ∧ State.reset.cpu.tickets = [] ∧ State.reset.fwd.table = [] ∧ State.reset.sieve.cur = emptySet ∧ State.reset.pending = [] ∧ State.reset.timeOn = false) ∧
  (∀ (p : Nat), p < 64 → 
     State.reset.rd Reg.Pon.MODE [p] = 0 ∧ State.reset.rd Reg.Pon.LIT [p] = 0 ∧ State.reset.rd Reg.Sve.PHYS [p] = p ∧ emptySet.start p = 0x300) ∧
  (∀ (n : Nat), n < 147456 → 
     State.reset.rd Reg.Key.STATE [n] = 0 ∧ State.reset.slot n = emptySlot) ∧
  (
     State.reset.rd Reg.Fwd.RAKE_PERIOD [] = 20 ∧ State.reset.rd Reg.Fwd.AGE_LIMIT [5] = 15 ∧ State.reset.rd Reg.Reh.REH_EN [] = 1 ∧ State.reset.rd Reg.Key.LANE_OK [] = 0x1FFFF ∧ State.reset.rd Reg.Key.SPARE_FOR [] = 0x1F ∧ State.reset.rd Reg.Sve.SLOW_RATE [] = 200000) ∧
  (
     State.reset.Canonical)

/-- If the registers, data memories, tree state windows, checkpoints and flow counters of a state have their canonical form, they have it after every step that answers a next
state, whatever command stands in front; so equal contents stay equal data. -/
def Obligations.StepsKeepTheStoresCanonical : Prop :=
  ∀ (s t : State), s.Canonical → step s = .next t → 
    t.Canonical

/-- Whatever a command does, resets included, the commands that wait behind it stay as they were, in their order: the queue is the model's own and no rule of the spec reaches
it. -/
def Obligations.CommandsLeaveTheQueue : Prop :=
  ∀ (c : Instr) (s t : State), exec c s = .next t → 
    t.pending = s.pending

/-- For every Erten instruction but ISSUE, whose row is named by a descriptor, with every field at every value: its word decodes in its context to it. Every word that decodes
to an instruction is that instruction's word. -/
def Obligations.ErtenWordsRoundTrip : Prop :=
  (∀ (i : Instr) (op : Nat) (cx : Cx) (f : Fields), ertenOf i = some (op, cx, f) → 
     encodeErten i = some (ertenWord op f) ∧ decodeErten cx (ertenWord op f) = some i) ∧
  (∀ (i : Instr) (cx : Cx) (w : Word), decodeErten cx w = some i → 
     encodeErten i = some w ∧ ∃ op f, ertenOf i = some (op, cx, f))
end

