-- ==== Sys2Proof/Laws/State.lean ====
section
/-! SUPPORT. What each basic update of the state leaves as it was, field by field, and what it makes of the field it changes. -/

namespace Sys2Proof.Machine

variable (s : State)

/-! ### `wr` -/

@[simp] theorem State.wr_env (f : Field) (ix : List Nat) (v : Nat) : (s.wr f ix v).env = s.env := rfl
@[simp] theorem State.wr_ext (f : Field) (ix : List Nat) (v : Nat) : (s.wr f ix v).ext = s.ext := rfl
@[simp] theorem State.wr_timeOn (f : Field) (ix : List Nat) (v : Nat) : (s.wr f ix v).timeOn = s.timeOn := rfl
@[simp] theorem State.wr_cpu (f : Field) (ix : List Nat) (v : Nat) : (s.wr f ix v).cpu = s.cpu := rfl
@[simp] theorem State.wr_host (f : Field) (ix : List Nat) (v : Nat) : (s.wr f ix v).host = s.host := rfl
@[simp] theorem State.wr_evs (f : Field) (ix : List Nat) (v : Nat) : (s.wr f ix v).evs = s.evs := rfl
@[simp] theorem State.wr_trees (f : Field) (ix : List Nat) (v : Nat) : (s.wr f ix v).trees = s.trees := rfl
@[simp] theorem State.wr_pair (f : Field) (ix : List Nat) (v : Nat) : (s.wr f ix v).pair = s.pair := rfl
@[simp] theorem State.wr_bufs (f : Field) (ix : List Nat) (v : Nat) : (s.wr f ix v).bufs = s.bufs := rfl
@[simp] theorem State.wr_xmem (f : Field) (ix : List Nat) (v : Nat) : (s.wr f ix v).xmem = s.xmem := rfl
@[simp] theorem State.wr_sieve (f : Field) (ix : List Nat) (v : Nat) : (s.wr f ix v).sieve = s.sieve := rfl
@[simp] theorem State.wr_fwd (f : Field) (ix : List Nat) (v : Nat) : (s.wr f ix v).fwd = s.fwd := rfl
@[simp] theorem State.wr_cipher (f : Field) (ix : List Nat) (v : Nat) : (s.wr f ix v).cipher = s.cipher := rfl
@[simp] theorem State.wr_ptp (f : Field) (ix : List Nat) (v : Nat) : (s.wr f ix v).ptp = s.ptp := rfl
@[simp] theorem State.wr_unacked (f : Field) (ix : List Nat) (v : Nat) : (s.wr f ix v).unacked = s.unacked := rfl
@[simp] theorem State.wr_reh (f : Field) (ix : List Nat) (v : Nat) : (s.wr f ix v).reh = s.reh := rfl
@[simp] theorem State.wr_out (f : Field) (ix : List Nat) (v : Nat) : (s.wr f ix v).out = s.out := rfl
@[simp] theorem State.wr_freeCtr (f : Field) (ix : List Nat) (v : Nat) : (s.wr f ix v).freeCtr = s.freeCtr := rfl
@[simp] theorem State.wr_pending (f : Field) (ix : List Nat) (v : Nat) : (s.wr f ix v).pending = s.pending := rfl

/-! ### `addTo` -/

@[simp] theorem State.addTo_env (f : Field) (ix : List Nat) (n : Nat) : (s.addTo f ix n).env = s.env := rfl
@[simp] theorem State.addTo_ext (f : Field) (ix : List Nat) (n : Nat) : (s.addTo f ix n).ext = s.ext := rfl
@[simp] theorem State.addTo_timeOn (f : Field) (ix : List Nat) (n : Nat) : (s.addTo f ix n).timeOn = s.timeOn := rfl
@[simp] theorem State.addTo_cpu (f : Field) (ix : List Nat) (n : Nat) : (s.addTo f ix n).cpu = s.cpu := rfl
@[simp] theorem State.addTo_host (f : Field) (ix : List Nat) (n : Nat) : (s.addTo f ix n).host = s.host := rfl
@[simp] theorem State.addTo_evs (f : Field) (ix : List Nat) (n : Nat) : (s.addTo f ix n).evs = s.evs := rfl
@[simp] theorem State.addTo_trees (f : Field) (ix : List Nat) (n : Nat) : (s.addTo f ix n).trees = s.trees := rfl
@[simp] theorem State.addTo_pair (f : Field) (ix : List Nat) (n : Nat) : (s.addTo f ix n).pair = s.pair := rfl
@[simp] theorem State.addTo_bufs (f : Field) (ix : List Nat) (n : Nat) : (s.addTo f ix n).bufs = s.bufs := rfl
@[simp] theorem State.addTo_xmem (f : Field) (ix : List Nat) (n : Nat) : (s.addTo f ix n).xmem = s.xmem := rfl
@[simp] theorem State.addTo_sieve (f : Field) (ix : List Nat) (n : Nat) : (s.addTo f ix n).sieve = s.sieve := rfl
@[simp] theorem State.addTo_fwd (f : Field) (ix : List Nat) (n : Nat) : (s.addTo f ix n).fwd = s.fwd := rfl
@[simp] theorem State.addTo_cipher (f : Field) (ix : List Nat) (n : Nat) : (s.addTo f ix n).cipher = s.cipher := rfl
@[simp] theorem State.addTo_ptp (f : Field) (ix : List Nat) (n : Nat) : (s.addTo f ix n).ptp = s.ptp := rfl
@[simp] theorem State.addTo_unacked (f : Field) (ix : List Nat) (n : Nat) : (s.addTo f ix n).unacked = s.unacked := rfl
@[simp] theorem State.addTo_reh (f : Field) (ix : List Nat) (n : Nat) : (s.addTo f ix n).reh = s.reh := rfl
@[simp] theorem State.addTo_out (f : Field) (ix : List Nat) (n : Nat) : (s.addTo f ix n).out = s.out := rfl
@[simp] theorem State.addTo_freeCtr (f : Field) (ix : List Nat) (n : Nat) : (s.addTo f ix n).freeCtr = s.freeCtr := rfl
@[simp] theorem State.addTo_pending (f : Field) (ix : List Nat) (n : Nat) : (s.addTo f ix n).pending = s.pending := rfl

/-! ### `bump` -/

@[simp] theorem State.bump_env (f : Field) (ix : List Nat) (n : Nat) : (s.bump f ix n).env = s.env := rfl
@[simp] theorem State.bump_ext (f : Field) (ix : List Nat) (n : Nat) : (s.bump f ix n).ext = s.ext := rfl
@[simp] theorem State.bump_timeOn (f : Field) (ix : List Nat) (n : Nat) : (s.bump f ix n).timeOn = s.timeOn := rfl
@[simp] theorem State.bump_cpu (f : Field) (ix : List Nat) (n : Nat) : (s.bump f ix n).cpu = s.cpu := rfl
@[simp] theorem State.bump_host (f : Field) (ix : List Nat) (n : Nat) : (s.bump f ix n).host = s.host := rfl
@[simp] theorem State.bump_evs (f : Field) (ix : List Nat) (n : Nat) : (s.bump f ix n).evs = s.evs := rfl
@[simp] theorem State.bump_trees (f : Field) (ix : List Nat) (n : Nat) : (s.bump f ix n).trees = s.trees := rfl
@[simp] theorem State.bump_pair (f : Field) (ix : List Nat) (n : Nat) : (s.bump f ix n).pair = s.pair := rfl
@[simp] theorem State.bump_bufs (f : Field) (ix : List Nat) (n : Nat) : (s.bump f ix n).bufs = s.bufs := rfl
@[simp] theorem State.bump_xmem (f : Field) (ix : List Nat) (n : Nat) : (s.bump f ix n).xmem = s.xmem := rfl
@[simp] theorem State.bump_sieve (f : Field) (ix : List Nat) (n : Nat) : (s.bump f ix n).sieve = s.sieve := rfl
@[simp] theorem State.bump_fwd (f : Field) (ix : List Nat) (n : Nat) : (s.bump f ix n).fwd = s.fwd := rfl
@[simp] theorem State.bump_cipher (f : Field) (ix : List Nat) (n : Nat) : (s.bump f ix n).cipher = s.cipher := rfl
@[simp] theorem State.bump_ptp (f : Field) (ix : List Nat) (n : Nat) : (s.bump f ix n).ptp = s.ptp := rfl
@[simp] theorem State.bump_unacked (f : Field) (ix : List Nat) (n : Nat) : (s.bump f ix n).unacked = s.unacked := rfl
@[simp] theorem State.bump_reh (f : Field) (ix : List Nat) (n : Nat) : (s.bump f ix n).reh = s.reh := rfl
@[simp] theorem State.bump_out (f : Field) (ix : List Nat) (n : Nat) : (s.bump f ix n).out = s.out := rfl
@[simp] theorem State.bump_freeCtr (f : Field) (ix : List Nat) (n : Nat) : (s.bump f ix n).freeCtr = s.freeCtr := rfl
@[simp] theorem State.bump_pending (f : Field) (ix : List Nat) (n : Nat) : (s.bump f ix n).pending = s.pending := rfl

/-! ### `clearRange` -/

@[simp] theorem State.clearRange_env (lo hi : Nat) : (s.clearRange lo hi).env = s.env := rfl
@[simp] theorem State.clearRange_ext (lo hi : Nat) : (s.clearRange lo hi).ext = s.ext := rfl
@[simp] theorem State.clearRange_timeOn (lo hi : Nat) : (s.clearRange lo hi).timeOn = s.timeOn := rfl
@[simp] theorem State.clearRange_regs (lo hi : Nat) : (s.clearRange lo hi).regs = s.regs.clear (lo * 64) (hi * 64) := rfl
@[simp] theorem State.clearRange_cpu (lo hi : Nat) : (s.clearRange lo hi).cpu = s.cpu := rfl
@[simp] theorem State.clearRange_host (lo hi : Nat) : (s.clearRange lo hi).host = s.host := rfl
@[simp] theorem State.clearRange_evs (lo hi : Nat) : (s.clearRange lo hi).evs = s.evs := rfl
@[simp] theorem State.clearRange_trees (lo hi : Nat) : (s.clearRange lo hi).trees = s.trees := rfl
@[simp] theorem State.clearRange_pair (lo hi : Nat) : (s.clearRange lo hi).pair = s.pair := rfl
@[simp] theorem State.clearRange_bufs (lo hi : Nat) : (s.clearRange lo hi).bufs = s.bufs := rfl
@[simp] theorem State.clearRange_xmem (lo hi : Nat) : (s.clearRange lo hi).xmem = s.xmem := rfl
@[simp] theorem State.clearRange_sieve (lo hi : Nat) : (s.clearRange lo hi).sieve = s.sieve := rfl
@[simp] theorem State.clearRange_fwd (lo hi : Nat) : (s.clearRange lo hi).fwd = s.fwd := rfl
@[simp] theorem State.clearRange_cipher (lo hi : Nat) : (s.clearRange lo hi).cipher = s.cipher := rfl
@[simp] theorem State.clearRange_ptp (lo hi : Nat) : (s.clearRange lo hi).ptp = s.ptp := rfl
@[simp] theorem State.clearRange_unacked (lo hi : Nat) : (s.clearRange lo hi).unacked = s.unacked := rfl
@[simp] theorem State.clearRange_reh (lo hi : Nat) : (s.clearRange lo hi).reh = s.reh := rfl
@[simp] theorem State.clearRange_out (lo hi : Nat) : (s.clearRange lo hi).out = s.out := rfl
@[simp] theorem State.clearRange_freeCtr (lo hi : Nat) : (s.clearRange lo hi).freeCtr = s.freeCtr := rfl
@[simp] theorem State.clearRange_pending (lo hi : Nat) : (s.clearRange lo hi).pending = s.pending := rfl

/-! ### `emit` -/

@[simp] theorem State.emit_env (o : Out) : (s.emit o).env = s.env := rfl
@[simp] theorem State.emit_ext (o : Out) : (s.emit o).ext = s.ext := rfl
@[simp] theorem State.emit_timeOn (o : Out) : (s.emit o).timeOn = s.timeOn := rfl
@[simp] theorem State.emit_regs (o : Out) : (s.emit o).regs = s.regs := rfl
@[simp] theorem State.emit_cpu (o : Out) : (s.emit o).cpu = s.cpu := rfl
@[simp] theorem State.emit_host (o : Out) : (s.emit o).host = s.host := rfl
@[simp] theorem State.emit_evs (o : Out) : (s.emit o).evs = s.evs := rfl
@[simp] theorem State.emit_trees (o : Out) : (s.emit o).trees = s.trees := rfl
@[simp] theorem State.emit_pair (o : Out) : (s.emit o).pair = s.pair := rfl
@[simp] theorem State.emit_bufs (o : Out) : (s.emit o).bufs = s.bufs := rfl
@[simp] theorem State.emit_xmem (o : Out) : (s.emit o).xmem = s.xmem := rfl
@[simp] theorem State.emit_sieve (o : Out) : (s.emit o).sieve = s.sieve := rfl
@[simp] theorem State.emit_fwd (o : Out) : (s.emit o).fwd = s.fwd := rfl
@[simp] theorem State.emit_cipher (o : Out) : (s.emit o).cipher = s.cipher := rfl
@[simp] theorem State.emit_ptp (o : Out) : (s.emit o).ptp = s.ptp := rfl
@[simp] theorem State.emit_unacked (o : Out) : (s.emit o).unacked = s.unacked := rfl
@[simp] theorem State.emit_reh (o : Out) : (s.emit o).reh = s.reh := rfl
@[simp] theorem State.emit_out (o : Out) : (s.emit o).out = s.out ++ [o] := rfl
@[simp] theorem State.emit_freeCtr (o : Out) : (s.emit o).freeCtr = s.freeCtr := rfl
@[simp] theorem State.emit_pending (o : Out) : (s.emit o).pending = s.pending := rfl

/-! ### `advanceTo` -/

@[simp] theorem State.advanceTo_env (t : Nat) : (s.advanceTo t).env = s.env := rfl
@[simp] theorem State.advanceTo_ext (t : Nat) : (s.advanceTo t).ext = if s.timeOn then max s.ext t else s.ext := rfl
@[simp] theorem State.advanceTo_timeOn (t : Nat) : (s.advanceTo t).timeOn = s.timeOn := rfl
@[simp] theorem State.advanceTo_regs (t : Nat) : (s.advanceTo t).regs = s.regs := rfl
@[simp] theorem State.advanceTo_cpu (t : Nat) : (s.advanceTo t).cpu = s.cpu := rfl
@[simp] theorem State.advanceTo_host (t : Nat) : (s.advanceTo t).host = s.host := rfl
@[simp] theorem State.advanceTo_evs (t : Nat) : (s.advanceTo t).evs = s.evs := rfl
@[simp] theorem State.advanceTo_trees (t : Nat) : (s.advanceTo t).trees = s.trees := rfl
@[simp] theorem State.advanceTo_pair (t : Nat) : (s.advanceTo t).pair = s.pair := rfl
@[simp] theorem State.advanceTo_bufs (t : Nat) : (s.advanceTo t).bufs = s.bufs := rfl
@[simp] theorem State.advanceTo_xmem (t : Nat) : (s.advanceTo t).xmem = s.xmem := rfl
@[simp] theorem State.advanceTo_sieve (t : Nat) : (s.advanceTo t).sieve = s.sieve := rfl
@[simp] theorem State.advanceTo_fwd (t : Nat) : (s.advanceTo t).fwd = s.fwd := rfl
@[simp] theorem State.advanceTo_cipher (t : Nat) : (s.advanceTo t).cipher = s.cipher := rfl
@[simp] theorem State.advanceTo_ptp (t : Nat) : (s.advanceTo t).ptp = s.ptp := rfl
@[simp] theorem State.advanceTo_unacked (t : Nat) : (s.advanceTo t).unacked = s.unacked := rfl
@[simp] theorem State.advanceTo_reh (t : Nat) : (s.advanceTo t).reh = s.reh := rfl
@[simp] theorem State.advanceTo_out (t : Nat) : (s.advanceTo t).out = s.out := rfl
@[simp] theorem State.advanceTo_freeCtr (t : Nat) : (s.advanceTo t).freeCtr = s.freeCtr := rfl
@[simp] theorem State.advanceTo_pending (t : Nat) : (s.advanceTo t).pending = s.pending := rfl

/-! ### `choose` -/

@[simp] theorem State.choose_env (n : Nat) : ((s.choose n).2).env = s.env := rfl
@[simp] theorem State.choose_ext (n : Nat) : ((s.choose n).2).ext = s.ext := rfl
@[simp] theorem State.choose_timeOn (n : Nat) : ((s.choose n).2).timeOn = s.timeOn := rfl
@[simp] theorem State.choose_regs (n : Nat) : ((s.choose n).2).regs = s.regs := rfl
@[simp] theorem State.choose_cpu (n : Nat) : ((s.choose n).2).cpu = s.cpu := rfl
@[simp] theorem State.choose_host (n : Nat) : ((s.choose n).2).host = s.host := rfl
@[simp] theorem State.choose_evs (n : Nat) : ((s.choose n).2).evs = s.evs := rfl
@[simp] theorem State.choose_trees (n : Nat) : ((s.choose n).2).trees = s.trees := rfl
@[simp] theorem State.choose_pair (n : Nat) : ((s.choose n).2).pair = s.pair := rfl
@[simp] theorem State.choose_bufs (n : Nat) : ((s.choose n).2).bufs = s.bufs := rfl
@[simp] theorem State.choose_xmem (n : Nat) : ((s.choose n).2).xmem = s.xmem := rfl
@[simp] theorem State.choose_sieve (n : Nat) : ((s.choose n).2).sieve = s.sieve := rfl
@[simp] theorem State.choose_fwd (n : Nat) : ((s.choose n).2).fwd = s.fwd := rfl
@[simp] theorem State.choose_cipher (n : Nat) : ((s.choose n).2).cipher = s.cipher := rfl
@[simp] theorem State.choose_ptp (n : Nat) : ((s.choose n).2).ptp = s.ptp := rfl
@[simp] theorem State.choose_unacked (n : Nat) : ((s.choose n).2).unacked = s.unacked := rfl
@[simp] theorem State.choose_reh (n : Nat) : ((s.choose n).2).reh = s.reh := rfl
@[simp] theorem State.choose_out (n : Nat) : ((s.choose n).2).out = s.out := rfl
@[simp] theorem State.choose_freeCtr (n : Nat) : ((s.choose n).2).freeCtr = s.freeCtr + 1 := rfl
@[simp] theorem State.choose_pending (n : Nat) : ((s.choose n).2).pending = s.pending := rfl

/-! ### `freeWord` -/

@[simp] theorem State.freeWord_env : (s.freeWord.2).env = s.env := rfl
@[simp] theorem State.freeWord_ext : (s.freeWord.2).ext = s.ext := rfl
@[simp] theorem State.freeWord_timeOn : (s.freeWord.2).timeOn = s.timeOn := rfl
@[simp] theorem State.freeWord_regs : (s.freeWord.2).regs = s.regs := rfl
@[simp] theorem State.freeWord_cpu : (s.freeWord.2).cpu = s.cpu := rfl
@[simp] theorem State.freeWord_host : (s.freeWord.2).host = s.host := rfl
@[simp] theorem State.freeWord_evs : (s.freeWord.2).evs = s.evs := rfl
@[simp] theorem State.freeWord_trees : (s.freeWord.2).trees = s.trees := rfl
@[simp] theorem State.freeWord_pair : (s.freeWord.2).pair = s.pair := rfl
@[simp] theorem State.freeWord_bufs : (s.freeWord.2).bufs = s.bufs := rfl
@[simp] theorem State.freeWord_xmem : (s.freeWord.2).xmem = s.xmem := rfl
@[simp] theorem State.freeWord_sieve : (s.freeWord.2).sieve = s.sieve := rfl
@[simp] theorem State.freeWord_fwd : (s.freeWord.2).fwd = s.fwd := rfl
@[simp] theorem State.freeWord_cipher : (s.freeWord.2).cipher = s.cipher := rfl
@[simp] theorem State.freeWord_ptp : (s.freeWord.2).ptp = s.ptp := rfl
@[simp] theorem State.freeWord_unacked : (s.freeWord.2).unacked = s.unacked := rfl
@[simp] theorem State.freeWord_reh : (s.freeWord.2).reh = s.reh := rfl
@[simp] theorem State.freeWord_out : (s.freeWord.2).out = s.out := rfl
@[simp] theorem State.freeWord_freeCtr : (s.freeWord.2).freeCtr = s.freeCtr + 1 := rfl
@[simp] theorem State.freeWord_pending : (s.freeWord.2).pending = s.pending := rfl

/-! ### `putCtx` -/

@[simp] theorem State.putCtx_env (cx : Cx) (c : Ctx) : (s.putCtx cx c).env = s.env := rfl
@[simp] theorem State.putCtx_ext (cx : Cx) (c : Ctx) : (s.putCtx cx c).ext = s.ext := rfl
@[simp] theorem State.putCtx_timeOn (cx : Cx) (c : Ctx) : (s.putCtx cx c).timeOn = s.timeOn := rfl
@[simp] theorem State.putCtx_regs (cx : Cx) (c : Ctx) : (s.putCtx cx c).regs = s.regs := rfl
@[simp] theorem State.putCtx_host (cx : Cx) (c : Ctx) : (s.putCtx cx c).host = s.host := rfl
@[simp] theorem State.putCtx_evs (cx : Cx) (c : Ctx) : (s.putCtx cx c).evs = s.evs := rfl
@[simp] theorem State.putCtx_trees (cx : Cx) (c : Ctx) : (s.putCtx cx c).trees = s.trees := rfl
@[simp] theorem State.putCtx_pair (cx : Cx) (c : Ctx) : (s.putCtx cx c).pair = s.pair := rfl
@[simp] theorem State.putCtx_bufs (cx : Cx) (c : Ctx) : (s.putCtx cx c).bufs = s.bufs := rfl
@[simp] theorem State.putCtx_xmem (cx : Cx) (c : Ctx) : (s.putCtx cx c).xmem = s.xmem := rfl
@[simp] theorem State.putCtx_sieve (cx : Cx) (c : Ctx) : (s.putCtx cx c).sieve = s.sieve := rfl
@[simp] theorem State.putCtx_fwd (cx : Cx) (c : Ctx) : (s.putCtx cx c).fwd = s.fwd := rfl
@[simp] theorem State.putCtx_cipher (cx : Cx) (c : Ctx) : (s.putCtx cx c).cipher = s.cipher := rfl
@[simp] theorem State.putCtx_ptp (cx : Cx) (c : Ctx) : (s.putCtx cx c).ptp = s.ptp := rfl
@[simp] theorem State.putCtx_unacked (cx : Cx) (c : Ctx) : (s.putCtx cx c).unacked = s.unacked := rfl
@[simp] theorem State.putCtx_reh (cx : Cx) (c : Ctx) : (s.putCtx cx c).reh = s.reh := rfl
@[simp] theorem State.putCtx_out (cx : Cx) (c : Ctx) : (s.putCtx cx c).out = s.out := rfl
@[simp] theorem State.putCtx_freeCtr (cx : Cx) (c : Ctx) : (s.putCtx cx c).freeCtr = s.freeCtr := rfl
@[simp] theorem State.putCtx_pending (cx : Cx) (c : Ctx) : (s.putCtx cx c).pending = s.pending := rfl

/-! ### `setDataWord` -/

@[simp] theorem State.setDataWord_env (cx : Cx) (a : Nat) (v : Word) : (s.setDataWord cx a v).env = s.env := rfl
@[simp] theorem State.setDataWord_ext (cx : Cx) (a : Nat) (v : Word) : (s.setDataWord cx a v).ext = s.ext := rfl
@[simp] theorem State.setDataWord_timeOn (cx : Cx) (a : Nat) (v : Word) : (s.setDataWord cx a v).timeOn = s.timeOn := rfl
@[simp] theorem State.setDataWord_regs (cx : Cx) (a : Nat) (v : Word) : (s.setDataWord cx a v).regs = s.regs := rfl
@[simp] theorem State.setDataWord_host (cx : Cx) (a : Nat) (v : Word) : (s.setDataWord cx a v).host = s.host := rfl
@[simp] theorem State.setDataWord_evs (cx : Cx) (a : Nat) (v : Word) : (s.setDataWord cx a v).evs = s.evs := rfl
@[simp] theorem State.setDataWord_trees (cx : Cx) (a : Nat) (v : Word) : (s.setDataWord cx a v).trees = s.trees := rfl
@[simp] theorem State.setDataWord_pair (cx : Cx) (a : Nat) (v : Word) : (s.setDataWord cx a v).pair = s.pair := rfl
@[simp] theorem State.setDataWord_bufs (cx : Cx) (a : Nat) (v : Word) : (s.setDataWord cx a v).bufs = s.bufs := rfl
@[simp] theorem State.setDataWord_xmem (cx : Cx) (a : Nat) (v : Word) : (s.setDataWord cx a v).xmem = s.xmem := rfl
@[simp] theorem State.setDataWord_sieve (cx : Cx) (a : Nat) (v : Word) : (s.setDataWord cx a v).sieve = s.sieve := rfl
@[simp] theorem State.setDataWord_fwd (cx : Cx) (a : Nat) (v : Word) : (s.setDataWord cx a v).fwd = s.fwd := rfl
@[simp] theorem State.setDataWord_cipher (cx : Cx) (a : Nat) (v : Word) : (s.setDataWord cx a v).cipher = s.cipher := rfl
@[simp] theorem State.setDataWord_ptp (cx : Cx) (a : Nat) (v : Word) : (s.setDataWord cx a v).ptp = s.ptp := rfl
@[simp] theorem State.setDataWord_unacked (cx : Cx) (a : Nat) (v : Word) : (s.setDataWord cx a v).unacked = s.unacked := rfl
@[simp] theorem State.setDataWord_reh (cx : Cx) (a : Nat) (v : Word) : (s.setDataWord cx a v).reh = s.reh := rfl
@[simp] theorem State.setDataWord_out (cx : Cx) (a : Nat) (v : Word) : (s.setDataWord cx a v).out = s.out := rfl
@[simp] theorem State.setDataWord_freeCtr (cx : Cx) (a : Nat) (v : Word) : (s.setDataWord cx a v).freeCtr = s.freeCtr := rfl
@[simp] theorem State.setDataWord_pending (cx : Cx) (a : Nat) (v : Word) : (s.setDataWord cx a v).pending = s.pending := rfl

/-! ### `putTree` -/

@[simp] theorem State.putTree_env (z : Nat) (t : Tree) : (s.putTree z t).env = s.env := rfl
@[simp] theorem State.putTree_ext (z : Nat) (t : Tree) : (s.putTree z t).ext = s.ext := rfl
@[simp] theorem State.putTree_timeOn (z : Nat) (t : Tree) : (s.putTree z t).timeOn = s.timeOn := rfl
@[simp] theorem State.putTree_regs (z : Nat) (t : Tree) : (s.putTree z t).regs = s.regs := rfl
@[simp] theorem State.putTree_cpu (z : Nat) (t : Tree) : (s.putTree z t).cpu = s.cpu := rfl
@[simp] theorem State.putTree_host (z : Nat) (t : Tree) : (s.putTree z t).host = s.host := rfl
@[simp] theorem State.putTree_evs (z : Nat) (t : Tree) : (s.putTree z t).evs = s.evs := rfl
@[simp] theorem State.putTree_trees (z : Nat) (t : Tree) : (s.putTree z t).trees = s.trees.put z t := rfl
@[simp] theorem State.putTree_pair (z : Nat) (t : Tree) : (s.putTree z t).pair = s.pair := rfl
@[simp] theorem State.putTree_bufs (z : Nat) (t : Tree) : (s.putTree z t).bufs = s.bufs := rfl
@[simp] theorem State.putTree_xmem (z : Nat) (t : Tree) : (s.putTree z t).xmem = s.xmem := rfl
@[simp] theorem State.putTree_sieve (z : Nat) (t : Tree) : (s.putTree z t).sieve = s.sieve := rfl
@[simp] theorem State.putTree_fwd (z : Nat) (t : Tree) : (s.putTree z t).fwd = s.fwd := rfl
@[simp] theorem State.putTree_cipher (z : Nat) (t : Tree) : (s.putTree z t).cipher = s.cipher := rfl
@[simp] theorem State.putTree_ptp (z : Nat) (t : Tree) : (s.putTree z t).ptp = s.ptp := rfl
@[simp] theorem State.putTree_unacked (z : Nat) (t : Tree) : (s.putTree z t).unacked = s.unacked := rfl
@[simp] theorem State.putTree_reh (z : Nat) (t : Tree) : (s.putTree z t).reh = s.reh := rfl
@[simp] theorem State.putTree_out (z : Nat) (t : Tree) : (s.putTree z t).out = s.out := rfl
@[simp] theorem State.putTree_freeCtr (z : Nat) (t : Tree) : (s.putTree z t).freeCtr = s.freeCtr := rfl
@[simp] theorem State.putTree_pending (z : Nat) (t : Tree) : (s.putTree z t).pending = s.pending := rfl

/-! ### `modTree` -/

@[simp] theorem State.modTree_env (z : Nat) (f : Tree → Tree) : (s.modTree z f).env = s.env := rfl
@[simp] theorem State.modTree_ext (z : Nat) (f : Tree → Tree) : (s.modTree z f).ext = s.ext := rfl
@[simp] theorem State.modTree_timeOn (z : Nat) (f : Tree → Tree) : (s.modTree z f).timeOn = s.timeOn := rfl
@[simp] theorem State.modTree_regs (z : Nat) (f : Tree → Tree) : (s.modTree z f).regs = s.regs := rfl
@[simp] theorem State.modTree_cpu (z : Nat) (f : Tree → Tree) : (s.modTree z f).cpu = s.cpu := rfl
@[simp] theorem State.modTree_host (z : Nat) (f : Tree → Tree) : (s.modTree z f).host = s.host := rfl
@[simp] theorem State.modTree_evs (z : Nat) (f : Tree → Tree) : (s.modTree z f).evs = s.evs := rfl
@[simp] theorem State.modTree_trees (z : Nat) (f : Tree → Tree) : (s.modTree z f).trees = s.trees.put z (f (s.tree z)) := rfl
@[simp] theorem State.modTree_pair (z : Nat) (f : Tree → Tree) : (s.modTree z f).pair = s.pair := rfl
@[simp] theorem State.modTree_bufs (z : Nat) (f : Tree → Tree) : (s.modTree z f).bufs = s.bufs := rfl
@[simp] theorem State.modTree_xmem (z : Nat) (f : Tree → Tree) : (s.modTree z f).xmem = s.xmem := rfl
@[simp] theorem State.modTree_sieve (z : Nat) (f : Tree → Tree) : (s.modTree z f).sieve = s.sieve := rfl
@[simp] theorem State.modTree_fwd (z : Nat) (f : Tree → Tree) : (s.modTree z f).fwd = s.fwd := rfl
@[simp] theorem State.modTree_cipher (z : Nat) (f : Tree → Tree) : (s.modTree z f).cipher = s.cipher := rfl
@[simp] theorem State.modTree_ptp (z : Nat) (f : Tree → Tree) : (s.modTree z f).ptp = s.ptp := rfl
@[simp] theorem State.modTree_unacked (z : Nat) (f : Tree → Tree) : (s.modTree z f).unacked = s.unacked := rfl
@[simp] theorem State.modTree_reh (z : Nat) (f : Tree → Tree) : (s.modTree z f).reh = s.reh := rfl
@[simp] theorem State.modTree_out (z : Nat) (f : Tree → Tree) : (s.modTree z f).out = s.out := rfl
@[simp] theorem State.modTree_freeCtr (z : Nat) (f : Tree → Tree) : (s.modTree z f).freeCtr = s.freeCtr := rfl
@[simp] theorem State.modTree_pending (z : Nat) (f : Tree → Tree) : (s.modTree z f).pending = s.pending := rfl

/-! ### `moveBuf` -/

@[simp] theorem State.moveBuf_env (k o : Nat) : (s.moveBuf k o).env = s.env := rfl
@[simp] theorem State.moveBuf_ext (k o : Nat) : (s.moveBuf k o).ext = s.ext := rfl
@[simp] theorem State.moveBuf_timeOn (k o : Nat) : (s.moveBuf k o).timeOn = s.timeOn := rfl
@[simp] theorem State.moveBuf_regs (k o : Nat) : (s.moveBuf k o).regs = s.regs := rfl
@[simp] theorem State.moveBuf_cpu (k o : Nat) : (s.moveBuf k o).cpu = s.cpu := rfl
@[simp] theorem State.moveBuf_host (k o : Nat) : (s.moveBuf k o).host = s.host := rfl
@[simp] theorem State.moveBuf_evs (k o : Nat) : (s.moveBuf k o).evs = s.evs := rfl
@[simp] theorem State.moveBuf_trees (k o : Nat) : (s.moveBuf k o).trees = s.trees := rfl
@[simp] theorem State.moveBuf_pair (k o : Nat) : (s.moveBuf k o).pair = s.pair := rfl
@[simp] theorem State.moveBuf_xmem (k o : Nat) : (s.moveBuf k o).xmem = s.xmem := rfl
@[simp] theorem State.moveBuf_sieve (k o : Nat) : (s.moveBuf k o).sieve = s.sieve := rfl
@[simp] theorem State.moveBuf_fwd (k o : Nat) : (s.moveBuf k o).fwd = s.fwd := rfl
@[simp] theorem State.moveBuf_cipher (k o : Nat) : (s.moveBuf k o).cipher = s.cipher := rfl
@[simp] theorem State.moveBuf_ptp (k o : Nat) : (s.moveBuf k o).ptp = s.ptp := rfl
@[simp] theorem State.moveBuf_unacked (k o : Nat) : (s.moveBuf k o).unacked = s.unacked := rfl
@[simp] theorem State.moveBuf_reh (k o : Nat) : (s.moveBuf k o).reh = s.reh := rfl
@[simp] theorem State.moveBuf_out (k o : Nat) : (s.moveBuf k o).out = s.out := rfl
@[simp] theorem State.moveBuf_freeCtr (k o : Nat) : (s.moveBuf k o).freeCtr = s.freeCtr := rfl
@[simp] theorem State.moveBuf_pending (k o : Nat) : (s.moveBuf k o).pending = s.pending := rfl

/-! ### `segWrite` -/

@[simp] theorem State.segWrite_env (w : Nat) (v : Word) : (s.segWrite w v).env = s.env := rfl
@[simp] theorem State.segWrite_ext (w : Nat) (v : Word) : (s.segWrite w v).ext = s.ext := rfl
@[simp] theorem State.segWrite_timeOn (w : Nat) (v : Word) : (s.segWrite w v).timeOn = s.timeOn := rfl
@[simp] theorem State.segWrite_regs (w : Nat) (v : Word) : (s.segWrite w v).regs = s.regs := rfl
@[simp] theorem State.segWrite_cpu (w : Nat) (v : Word) : (s.segWrite w v).cpu = s.cpu := rfl
@[simp] theorem State.segWrite_host (w : Nat) (v : Word) : (s.segWrite w v).host = s.host := rfl
@[simp] theorem State.segWrite_evs (w : Nat) (v : Word) : (s.segWrite w v).evs = s.evs := rfl
@[simp] theorem State.segWrite_trees (w : Nat) (v : Word) : (s.segWrite w v).trees = s.trees := rfl
@[simp] theorem State.segWrite_pair (w : Nat) (v : Word) : (s.segWrite w v).pair = s.pair := rfl
@[simp] theorem State.segWrite_bufs (w : Nat) (v : Word) : (s.segWrite w v).bufs = s.bufs := rfl
@[simp] theorem State.segWrite_sieve (w : Nat) (v : Word) : (s.segWrite w v).sieve = s.sieve := rfl
@[simp] theorem State.segWrite_fwd (w : Nat) (v : Word) : (s.segWrite w v).fwd = s.fwd := rfl
@[simp] theorem State.segWrite_cipher (w : Nat) (v : Word) : (s.segWrite w v).cipher = s.cipher := rfl
@[simp] theorem State.segWrite_ptp (w : Nat) (v : Word) : (s.segWrite w v).ptp = s.ptp := rfl
@[simp] theorem State.segWrite_unacked (w : Nat) (v : Word) : (s.segWrite w v).unacked = s.unacked := rfl
@[simp] theorem State.segWrite_reh (w : Nat) (v : Word) : (s.segWrite w v).reh = s.reh := rfl
@[simp] theorem State.segWrite_out (w : Nat) (v : Word) : (s.segWrite w v).out = s.out := rfl
@[simp] theorem State.segWrite_freeCtr (w : Nat) (v : Word) : (s.segWrite w v).freeCtr = s.freeCtr := rfl
@[simp] theorem State.segWrite_pending (w : Nat) (v : Word) : (s.segWrite w v).pending = s.pending := rfl

/-! ### `putSlot` -/

@[simp] theorem State.putSlot_env (n : Nat) (x : Slot) : (s.putSlot n x).env = s.env := rfl
@[simp] theorem State.putSlot_ext (n : Nat) (x : Slot) : (s.putSlot n x).ext = s.ext := rfl
@[simp] theorem State.putSlot_timeOn (n : Nat) (x : Slot) : (s.putSlot n x).timeOn = s.timeOn := rfl
@[simp] theorem State.putSlot_regs (n : Nat) (x : Slot) : (s.putSlot n x).regs = s.regs := rfl
@[simp] theorem State.putSlot_cpu (n : Nat) (x : Slot) : (s.putSlot n x).cpu = s.cpu := rfl
@[simp] theorem State.putSlot_host (n : Nat) (x : Slot) : (s.putSlot n x).host = s.host := rfl
@[simp] theorem State.putSlot_evs (n : Nat) (x : Slot) : (s.putSlot n x).evs = s.evs := rfl
@[simp] theorem State.putSlot_trees (n : Nat) (x : Slot) : (s.putSlot n x).trees = s.trees := rfl
@[simp] theorem State.putSlot_pair (n : Nat) (x : Slot) : (s.putSlot n x).pair = s.pair := rfl
@[simp] theorem State.putSlot_bufs (n : Nat) (x : Slot) : (s.putSlot n x).bufs = s.bufs := rfl
@[simp] theorem State.putSlot_xmem (n : Nat) (x : Slot) : (s.putSlot n x).xmem = s.xmem := rfl
@[simp] theorem State.putSlot_sieve (n : Nat) (x : Slot) : (s.putSlot n x).sieve = s.sieve := rfl
@[simp] theorem State.putSlot_fwd (n : Nat) (x : Slot) : (s.putSlot n x).fwd = s.fwd := rfl
@[simp] theorem State.putSlot_ptp (n : Nat) (x : Slot) : (s.putSlot n x).ptp = s.ptp := rfl
@[simp] theorem State.putSlot_unacked (n : Nat) (x : Slot) : (s.putSlot n x).unacked = s.unacked := rfl
@[simp] theorem State.putSlot_reh (n : Nat) (x : Slot) : (s.putSlot n x).reh = s.reh := rfl
@[simp] theorem State.putSlot_out (n : Nat) (x : Slot) : (s.putSlot n x).out = s.out := rfl
@[simp] theorem State.putSlot_freeCtr (n : Nat) (x : Slot) : (s.putSlot n x).freeCtr = s.freeCtr := rfl
@[simp] theorem State.putSlot_pending (n : Nat) (x : Slot) : (s.putSlot n x).pending = s.pending := rfl

/-! ### `putQueue` -/

@[simp] theorem State.putQueue_env (q : Nat) (l : List QFrame) : (s.putQueue q l).env = s.env := rfl
@[simp] theorem State.putQueue_ext (q : Nat) (l : List QFrame) : (s.putQueue q l).ext = s.ext := rfl
@[simp] theorem State.putQueue_timeOn (q : Nat) (l : List QFrame) : (s.putQueue q l).timeOn = s.timeOn := rfl
@[simp] theorem State.putQueue_regs (q : Nat) (l : List QFrame) : (s.putQueue q l).regs = s.regs := rfl
@[simp] theorem State.putQueue_cpu (q : Nat) (l : List QFrame) : (s.putQueue q l).cpu = s.cpu := rfl
@[simp] theorem State.putQueue_host (q : Nat) (l : List QFrame) : (s.putQueue q l).host = s.host := rfl
@[simp] theorem State.putQueue_evs (q : Nat) (l : List QFrame) : (s.putQueue q l).evs = s.evs := rfl
@[simp] theorem State.putQueue_trees (q : Nat) (l : List QFrame) : (s.putQueue q l).trees = s.trees := rfl
@[simp] theorem State.putQueue_pair (q : Nat) (l : List QFrame) : (s.putQueue q l).pair = s.pair := rfl
@[simp] theorem State.putQueue_bufs (q : Nat) (l : List QFrame) : (s.putQueue q l).bufs = s.bufs := rfl
@[simp] theorem State.putQueue_xmem (q : Nat) (l : List QFrame) : (s.putQueue q l).xmem = s.xmem := rfl
@[simp] theorem State.putQueue_sieve (q : Nat) (l : List QFrame) : (s.putQueue q l).sieve = s.sieve := rfl
@[simp] theorem State.putQueue_cipher (q : Nat) (l : List QFrame) : (s.putQueue q l).cipher = s.cipher := rfl
@[simp] theorem State.putQueue_ptp (q : Nat) (l : List QFrame) : (s.putQueue q l).ptp = s.ptp := rfl
@[simp] theorem State.putQueue_unacked (q : Nat) (l : List QFrame) : (s.putQueue q l).unacked = s.unacked := rfl
@[simp] theorem State.putQueue_reh (q : Nat) (l : List QFrame) : (s.putQueue q l).reh = s.reh := rfl
@[simp] theorem State.putQueue_out (q : Nat) (l : List QFrame) : (s.putQueue q l).out = s.out := rfl
@[simp] theorem State.putQueue_freeCtr (q : Nat) (l : List QFrame) : (s.putQueue q l).freeCtr = s.freeCtr := rfl
@[simp] theorem State.putQueue_pending (q : Nat) (l : List QFrame) : (s.putQueue q l).pending = s.pending := rfl

/-! ### `modEnt` -/

@[simp] theorem State.modEnt_env (h : Nat) (f : FEnt → FEnt) : (s.modEnt h f).env = s.env := rfl
@[simp] theorem State.modEnt_ext (h : Nat) (f : FEnt → FEnt) : (s.modEnt h f).ext = s.ext := rfl
@[simp] theorem State.modEnt_timeOn (h : Nat) (f : FEnt → FEnt) : (s.modEnt h f).timeOn = s.timeOn := rfl
@[simp] theorem State.modEnt_regs (h : Nat) (f : FEnt → FEnt) : (s.modEnt h f).regs = s.regs := rfl
@[simp] theorem State.modEnt_cpu (h : Nat) (f : FEnt → FEnt) : (s.modEnt h f).cpu = s.cpu := rfl
@[simp] theorem State.modEnt_host (h : Nat) (f : FEnt → FEnt) : (s.modEnt h f).host = s.host := rfl
@[simp] theorem State.modEnt_evs (h : Nat) (f : FEnt → FEnt) : (s.modEnt h f).evs = s.evs := rfl
@[simp] theorem State.modEnt_trees (h : Nat) (f : FEnt → FEnt) : (s.modEnt h f).trees = s.trees := rfl
@[simp] theorem State.modEnt_pair (h : Nat) (f : FEnt → FEnt) : (s.modEnt h f).pair = s.pair := rfl
@[simp] theorem State.modEnt_bufs (h : Nat) (f : FEnt → FEnt) : (s.modEnt h f).bufs = s.bufs := rfl
@[simp] theorem State.modEnt_xmem (h : Nat) (f : FEnt → FEnt) : (s.modEnt h f).xmem = s.xmem := rfl
@[simp] theorem State.modEnt_sieve (h : Nat) (f : FEnt → FEnt) : (s.modEnt h f).sieve = s.sieve := rfl
@[simp] theorem State.modEnt_cipher (h : Nat) (f : FEnt → FEnt) : (s.modEnt h f).cipher = s.cipher := rfl
@[simp] theorem State.modEnt_ptp (h : Nat) (f : FEnt → FEnt) : (s.modEnt h f).ptp = s.ptp := rfl
@[simp] theorem State.modEnt_unacked (h : Nat) (f : FEnt → FEnt) : (s.modEnt h f).unacked = s.unacked := rfl
@[simp] theorem State.modEnt_reh (h : Nat) (f : FEnt → FEnt) : (s.modEnt h f).reh = s.reh := rfl
@[simp] theorem State.modEnt_out (h : Nat) (f : FEnt → FEnt) : (s.modEnt h f).out = s.out := rfl
@[simp] theorem State.modEnt_freeCtr (h : Nat) (f : FEnt → FEnt) : (s.modEnt h f).freeCtr = s.freeCtr := rfl
@[simp] theorem State.modEnt_pending (h : Nat) (f : FEnt → FEnt) : (s.modEnt h f).pending = s.pending := rfl

/-! ### `dropEnt` -/

@[simp] theorem State.dropEnt_env (h : Nat) : (s.dropEnt h).env = s.env := rfl
@[simp] theorem State.dropEnt_ext (h : Nat) : (s.dropEnt h).ext = s.ext := rfl
@[simp] theorem State.dropEnt_timeOn (h : Nat) : (s.dropEnt h).timeOn = s.timeOn := rfl
@[simp] theorem State.dropEnt_regs (h : Nat) : (s.dropEnt h).regs = s.regs := rfl
@[simp] theorem State.dropEnt_cpu (h : Nat) : (s.dropEnt h).cpu = s.cpu := rfl
@[simp] theorem State.dropEnt_host (h : Nat) : (s.dropEnt h).host = s.host := rfl
@[simp] theorem State.dropEnt_evs (h : Nat) : (s.dropEnt h).evs = s.evs := rfl
@[simp] theorem State.dropEnt_trees (h : Nat) : (s.dropEnt h).trees = s.trees := rfl
@[simp] theorem State.dropEnt_pair (h : Nat) : (s.dropEnt h).pair = s.pair := rfl
@[simp] theorem State.dropEnt_bufs (h : Nat) : (s.dropEnt h).bufs = s.bufs := rfl
@[simp] theorem State.dropEnt_xmem (h : Nat) : (s.dropEnt h).xmem = s.xmem := rfl
@[simp] theorem State.dropEnt_sieve (h : Nat) : (s.dropEnt h).sieve = s.sieve := rfl
@[simp] theorem State.dropEnt_cipher (h : Nat) : (s.dropEnt h).cipher = s.cipher := rfl
@[simp] theorem State.dropEnt_ptp (h : Nat) : (s.dropEnt h).ptp = s.ptp := rfl
@[simp] theorem State.dropEnt_unacked (h : Nat) : (s.dropEnt h).unacked = s.unacked := rfl
@[simp] theorem State.dropEnt_reh (h : Nat) : (s.dropEnt h).reh = s.reh := rfl
@[simp] theorem State.dropEnt_out (h : Nat) : (s.dropEnt h).out = s.out := rfl
@[simp] theorem State.dropEnt_freeCtr (h : Nat) : (s.dropEnt h).freeCtr = s.freeCtr := rfl
@[simp] theorem State.dropEnt_pending (h : Nat) : (s.dropEnt h).pending = s.pending := rfl

/-! ### `putShaper` -/

@[simp] theorem State.putShaper_env (l n : Nat) (h : Shaper) : (s.putShaper l n h).env = s.env := rfl
@[simp] theorem State.putShaper_ext (l n : Nat) (h : Shaper) : (s.putShaper l n h).ext = s.ext := rfl
@[simp] theorem State.putShaper_timeOn (l n : Nat) (h : Shaper) : (s.putShaper l n h).timeOn = s.timeOn := rfl
@[simp] theorem State.putShaper_regs (l n : Nat) (h : Shaper) : (s.putShaper l n h).regs = s.regs := rfl
@[simp] theorem State.putShaper_cpu (l n : Nat) (h : Shaper) : (s.putShaper l n h).cpu = s.cpu := rfl
@[simp] theorem State.putShaper_host (l n : Nat) (h : Shaper) : (s.putShaper l n h).host = s.host := rfl
@[simp] theorem State.putShaper_evs (l n : Nat) (h : Shaper) : (s.putShaper l n h).evs = s.evs := rfl
@[simp] theorem State.putShaper_trees (l n : Nat) (h : Shaper) : (s.putShaper l n h).trees = s.trees := rfl
@[simp] theorem State.putShaper_pair (l n : Nat) (h : Shaper) : (s.putShaper l n h).pair = s.pair := rfl
@[simp] theorem State.putShaper_bufs (l n : Nat) (h : Shaper) : (s.putShaper l n h).bufs = s.bufs := rfl
@[simp] theorem State.putShaper_xmem (l n : Nat) (h : Shaper) : (s.putShaper l n h).xmem = s.xmem := rfl
@[simp] theorem State.putShaper_sieve (l n : Nat) (h : Shaper) : (s.putShaper l n h).sieve = s.sieve := rfl
@[simp] theorem State.putShaper_cipher (l n : Nat) (h : Shaper) : (s.putShaper l n h).cipher = s.cipher := rfl
@[simp] theorem State.putShaper_ptp (l n : Nat) (h : Shaper) : (s.putShaper l n h).ptp = s.ptp := rfl
@[simp] theorem State.putShaper_unacked (l n : Nat) (h : Shaper) : (s.putShaper l n h).unacked = s.unacked := rfl
@[simp] theorem State.putShaper_reh (l n : Nat) (h : Shaper) : (s.putShaper l n h).reh = s.reh := rfl
@[simp] theorem State.putShaper_out (l n : Nat) (h : Shaper) : (s.putShaper l n h).out = s.out := rfl
@[simp] theorem State.putShaper_freeCtr (l n : Nat) (h : Shaper) : (s.putShaper l n h).freeCtr = s.freeCtr := rfl
@[simp] theorem State.putShaper_pending (l n : Nat) (h : Shaper) : (s.putShaper l n h).pending = s.pending := rfl

end Sys2Proof.Machine
end

