-- ==== Sys2Proof/Laws/Store.lean ====
section
/-! SUPPORT. Read-after-write laws of stores and maps, and that every operation on a store keeps its canonical form. -/

namespace Sys2Proof.Machine

variable {w : Nat} {α : Type}

@[simp] theorem Store.get_nil (a : Nat) : Store.get ([] : Store w) a = 0 := rfl

theorem Store.get_cons (k : Nat) (v : BitVec w) (t : Store w) (a : Nat) :
    Store.get ((k, v) :: t) a = if a = k then v else Store.get t a := rfl

theorem Store.get_filter_ne (m : Store w) (p : Nat → Bool) (b : Nat) (h : p b = true) :
    Store.get (m.filter (fun c => p c.1)) b = Store.get m b := by
  induction m with
  | nil => rfl
  | cons c t ih =>
    obtain ⟨k, v⟩ := c
    by_cases hk : p k = true
    · simp only [List.filter_cons, hk, if_true, Store.get_cons, ih]
    · have hb : b ≠ k := by rintro rfl; exact hk h
      simp only [List.filter_cons, hk, Store.get_cons, hb, if_false, Bool.false_eq_true, ih]

theorem Store.get_filter_out (m : Store w) (p : Nat → Bool) (b : Nat) (h : p b = false) :
    Store.get (m.filter (fun c => p c.1)) b = 0 := by
  induction m with
  | nil => rfl
  | cons c t ih =>
    obtain ⟨k, v⟩ := c
    by_cases hk : p k = true
    · have hb : b ≠ k := by rintro rfl; simp [hk] at h
      simp only [List.filter_cons, hk, if_true, Store.get_cons, hb, if_false, ih]
    · simp only [List.filter_cons, hk, Bool.false_eq_true, if_false, ih]

theorem Store.get_add (m : Store w) (a : Nat) (v : BitVec w) (b : Nat) :
    Store.get (Store.add m a v) b = if b = a then v else Store.get m b := by
  induction m with
  | nil => rfl
  | cons c t ih =>
    obtain ⟨k, u⟩ := c
    unfold Store.add
    split
    · rfl
    · simp only [Store.get_cons, ih]
      split <;> split <;> simp_all

/-- Reading a store after a write. -/
theorem Store.get_set (m : Store w) (a : Nat) (v : BitVec w) (b : Nat) :
    Store.get (m.set a v) b = if b = a then v else Store.get m b := by
  unfold Store.set
  by_cases hb : b = a
  · subst hb
    have := Store.get_filter_out m (fun k => k != b) b (by simp)
    split
    · simp_all
    · simp [Store.get_add]
  · have := Store.get_filter_ne m (fun k => k != a) b (by simp [hb])
    split
    · simp_all
    · simp_all [Store.get_add]

@[simp] theorem Store.get_set_self (m : Store w) (a : Nat) (v : BitVec w) : Store.get (m.set a v) a = v := by
  simp [Store.get_set]

/-- Reading a store after a range of it is dropped. -/
theorem Store.get_clear (m : Store w) (lo hi b : Nat) :
    Store.get (m.clear lo hi) b = if lo ≤ b ∧ b < hi then 0 else Store.get m b := by
  unfold Store.clear
  split
  · rename_i h
    exact Store.get_filter_out m (fun k => !(decide (lo ≤ k) && decide (k < hi))) b (by simp [h])
  · rename_i h
    exact Store.get_filter_ne m (fun k => !(decide (lo ≤ k) && decide (k < hi))) b (by simp; omega)

/-! ### The canonical form -/

/-- A store in canonical form above a bound is one above every lower bound. -/
theorem Store.wfFrom_mono (m : Store w) (lo hi : Nat) (h : lo ≤ hi) (hm : Store.wfFrom m (some hi) = true) :
    Store.wfFrom m (some lo) = true := by
  cases m with
  | nil => rfl
  | cons c t => simp_all [Store.wfFrom]; omega

theorem Store.wfFrom_filter (m : Store w) (p : Nat × BitVec w → Bool) (lo : Option Nat) (hm : Store.wfFrom m lo = true) :
    Store.wfFrom (m.filter p) lo = true := by
  induction m generalizing lo with
  | nil => exact hm
  | cons c t ih =>
    obtain ⟨k, v⟩ := c
    simp only [Store.wfFrom, Bool.and_eq_true] at hm
    by_cases hp : p (k, v) = true
    · simp only [List.filter_cons, hp, if_true, Store.wfFrom, Bool.and_eq_true]
      exact ⟨hm.1, ih _ hm.2⟩
    · simp only [List.filter_cons, hp, Bool.false_eq_true, if_false]
      cases lo with
      | none => 
        have := ih (some k) hm.2
        revert this; generalize t.filter p = l
        cases l with
        | nil => intro; rfl
        | cons c t => simp [Store.wfFrom]; intro _ h2 h3; exact ⟨h2, h3⟩
      | some l =>
        have hl : l ≤ k := by simp at hm; omega
        exact Store.wfFrom_mono _ _ _ hl (ih _ hm.2)

theorem Store.wfFrom_add (m : Store w) (a : Nat) (v : BitVec w) (hv : v ≠ 0) (lo : Option Nat)
    (hlo : ∀ l, lo = some l → l < a) (ha : ∀ c ∈ m, c.1 ≠ a) (hm : Store.wfFrom m lo = true) :
    Store.wfFrom (Store.add m a v) lo = true := by
  induction m generalizing lo with
  | nil => cases lo <;> simp_all [Store.add, Store.wfFrom]
  | cons c t ih =>
    obtain ⟨k, u⟩ := c
    have hk : k ≠ a := ha (k, u) (by simp)
    simp only [Store.wfFrom, Bool.and_eq_true] at hm
    unfold Store.add
    split
    · rename_i hak
      simp only [Store.wfFrom, Bool.and_eq_true]
      refine ⟨⟨?_, by simpa using hv⟩, ⟨by simp; omega, hm.1.2⟩, hm.2⟩
      cases lo with
      | none => rfl
      | some l => simpa using hlo l rfl
    · simp only [Store.wfFrom, Bool.and_eq_true]
      exact ⟨hm.1, ih (some k) (by intro l hl; injection hl; omega) (fun c hc => ha c (by simp [hc])) hm.2⟩

/-- A write keeps the canonical form. -/
theorem Store.wf_set (m : Store w) (a : Nat) (v : BitVec w) (hm : m.wf = true) : (m.set a v).wf = true := by
  have hf : Store.wf (m.filter (fun c => c.1 != a)) = true := Store.wfFrom_filter _ _ _ hm
  unfold Store.set
  split
  · exact hf
  · rename_i hv
    exact Store.wfFrom_add _ _ _ hv _ (by simp) (by simp) hf

/-- Dropping a range keeps the canonical form. -/
theorem Store.wf_clear (m : Store w) (lo hi : Nat) (hm : m.wf = true) : (m.clear lo hi).wf = true :=
  Store.wfFrom_filter _ _ _ hm

/-- Writing consecutive words keeps the canonical form. -/
theorem Store.wf_fill (l : List (BitVec w)) (m : Store w) (a : Nat) (hm : m.wf = true) : (m.fill a l).wf = true := by
  induction l generalizing m a with
  | nil => exact hm
  | cons v t ih => exact ih _ _ (Store.wf_set m a v hm)

/-! ### Maps -/

@[simp] theorem Map.get?_nil (a : Nat) : Map.get? ([] : Map α) a = none := rfl

/-- Looking a record up after one is put. -/
theorem Map.get?_put (m : Map α) (a : Nat) (v : α) (b : Nat) :
    Map.get? (m.put a v) b = if b = a then some v else Map.get? m b := by
  induction m with
  | nil => rfl
  | cons c t ih =>
    obtain ⟨k, u⟩ := c
    unfold Map.put
    split
    · rfl
    · split
      · rename_i h; subst h
        simp only [Map.get?]; split <;> rfl
      · simp only [Map.get?, ih]
        split <;> split <;> simp_all

@[simp] theorem Map.get?_put_self (m : Map α) (a : Nat) (v : α) : Map.get? (m.put a v) a = some v := by
  simp [Map.get?_put]

/-- Looking a record up after one is removed. -/
theorem Map.get?_del (m : Map α) (a b : Nat) :
    Map.get? (m.del a) b = if b = a then none else Map.get? m b := by
  induction m with
  | nil => simp [Map.del]
  | cons c t ih =>
    obtain ⟨k, u⟩ := c
    unfold Map.del at ih ⊢
    by_cases hk : k = a
    · subst hk
      simp only [List.filter_cons, bne_self_eq_false, Bool.false_eq_true, if_false, ih, Map.get?]
      split <;> simp_all
    · have : (k != a) = true := by simpa using hk
      simp only [List.filter_cons, this, if_true, Map.get?, ih]
      split <;> split <;> simp_all

end Sys2Proof.Machine
end

