-- ==== Sys2Proof/Laws/Regs.lean ====
section
/-! SUPPORT. Registers of contexts and registers of blocks: what is read after a write, and what a write leaves as it was. -/

namespace Sys2Proof.Machine

/-! ### Fields of blocks -/

/-- A field reads the value last stored in it, cut to its width. -/
@[simp] theorem State.rd_wr_self (s : State) (f : Field) (ix : List Nat) (v : Nat) (hw : f.w ≤ 64) : (s.wr f ix v).rd f ix = v % 2 ^ f.w := by
  apply Nat.eq_of_testBit_eq
  intro i
  simp only [State.rd, State.wr, Store.get_set_self, BitVec.toNat_ofNat, Nat.testBit_mod_two_pow, Nat.testBit_xor]
  by_cases hi : i < f.w
  · have : i < 64 := by omega
    simp [hi, this]
  · simp [hi]

/-- A store in one field leaves what is held under another key. -/
theorem State.rd_wr_ne (s : State) (f g : Field) (ix jx : List Nat) (v : Nat) (h : g.key jx ≠ f.key ix) : (s.wr f ix v).rd g jx = s.rd g jx := by
  simp only [State.rd, State.wr, Store.get_set, h, if_false]

/-- A flag after its field is stored. -/
@[simp] theorem State.flag_wr_self (s : State) (f : Field) (ix : List Nat) (v : Nat) (hw : f.w ≤ 64) : (s.wr f ix v).flag f ix = (v % 2 ^ f.w == 1) := by
  simp [State.flag, hw]

/-- A flag is left by a store under another key. -/
theorem State.flag_wr_ne (s : State) (f g : Field) (ix jx : List Nat) (v : Nat) (h : g.key jx ≠ f.key ix) : (s.wr f ix v).flag g jx = s.flag g jx := by
  simp only [State.flag, State.rd_wr_ne s f g ix jx v h]

/-- What is added to a field is read back, modulo its width. -/
@[simp] theorem State.rd_addTo_self (s : State) (f : Field) (ix : List Nat) (n : Nat) (hw : f.w ≤ 64) : (s.addTo f ix n).rd f ix = (s.rd f ix + n) % 2 ^ f.w := by
  simp [State.addTo, hw]

/-- An addition to one field leaves what is held under another key. -/
theorem State.rd_addTo_ne (s : State) (f g : Field) (ix jx : List Nat) (n : Nat) (h : g.key jx ≠ f.key ix) : (s.addTo f ix n).rd g jx = s.rd g jx :=
  State.rd_wr_ne s f g ix jx _ h

/-- A field's value lies within its width. -/
theorem State.rd_lt (s : State) (f : Field) (ix : List Nat) : s.rd f ix < 2 ^ f.w := Nat.mod_lt _ (Nat.two_pow_pos f.w)

/-- A field reads the same in two states with the same registers and the same straps and modes. -/
theorem State.rd_congr (s t : State) (f : Field) (ix : List Nat) (hr : t.regs = s.regs) (he : t.env = s.env) : t.rd f ix = s.rd f ix := by
  simp only [State.rd, hr, he]

/-- After a range is cleared, a field inside it reads as reset and one outside it as before. -/
theorem State.rd_clearRange (s : State) (lo hi : Nat) (f : Field) (ix : List Nat) :
    (s.clearRange lo hi).rd f ix = if lo * 64 ≤ f.key ix ∧ f.key ix < hi * 64 then f.rst.val ix s.env % 2 ^ f.w else s.rd f ix := by
  simp only [State.rd, State.clearRange, Store.get_clear]
  split <;> simp

/-! ### Registers of contexts (R33) -/

@[simp] theorem Ctx.reg_zero (c : Ctx) : c.reg 0 = 0 := rfl
@[simp] theorem Ctx.setReg_zero (c : Ctx) (v : Word) : c.setReg 0 v = c := rfl

/-- Register `m` after register `n` is written. -/
theorem Ctx.reg_setReg (c : Ctx) (n m : Nat) (v : Word) : (c.setReg n v).reg m = if m = 0 then 0 else if m = n then v else c.reg m := by
  unfold Ctx.setReg Ctx.reg
  by_cases hm : m = 0
  · simp [hm]
  · by_cases hn : n = 0
    · subst hn; simp [hm]
    · simp [hm, hn, Store.get_set]

/-- A register write changes nothing of a context but its registers. -/
theorem Ctx.setReg_frame (c : Ctx) (n : Nat) (v : Word) : ∃ r, c.setReg n v = { c with regs := r } := by
  unfold Ctx.setReg; split
  · exact ⟨c.regs, rfl⟩
  · exact ⟨_, rfl⟩

/-! ### Contexts and data words -/

/-- A stored context is found again. -/
@[simp] theorem State.ctx?_putCtx_self (s : State) (cx : Cx) (c : Ctx) : (s.putCtx cx c).ctx? cx = some c := by
  simp [State.ctx?, State.putCtx]

/-- Another context is as it was. -/
theorem State.ctx?_putCtx_ne (s : State) (cx cx' : Cx) (c : Ctx) (h : cxKey cx' ≠ cxKey cx) : (s.putCtx cx c).ctx? cx' = s.ctx? cx' := by
  simp [State.ctx?, State.putCtx, Map.get?_put, h]

/-- A data word after one is written. -/
theorem State.dataWord_setDataWord (s : State) (cx : Cx) (a b : Nat) (v : Word) :
    (s.setDataWord cx a v).dataWord cx b = if b = a then v else s.dataWord cx b := by
  simp only [State.dataWord, State.setDataWord, Store.get_set]
  by_cases h : b = a <;> simp [h]

@[simp] theorem State.dataWord_putCtx (s : State) (cx : Cx) (c : Ctx) (cy : Cx) (b : Nat) : (s.putCtx cx c).dataWord cy b = s.dataWord cy b := rfl
@[simp] theorem State.dataWord_wr (s : State) (f : Field) (ix : List Nat) (v : Nat) (cx : Cx) (b : Nat) : (s.wr f ix v).dataWord cx b = s.dataWord cx b := rfl
@[simp] theorem State.ctx?_wr (s : State) (f : Field) (ix : List Nat) (v : Nat) (cx : Cx) : (s.wr f ix v).ctx? cx = s.ctx? cx := rfl
@[simp] theorem State.ctx?_setDataWord (s : State) (cx : Cx) (a : Nat) (v : Word) (cy : Cx) : (s.setDataWord cx a v).ctx? cy = s.ctx? cy := rfl
@[simp] theorem State.rd_putCtx (s : State) (cx : Cx) (c : Ctx) (f : Field) (ix : List Nat) : (s.putCtx cx c).rd f ix = s.rd f ix := rfl
@[simp] theorem State.rd_setDataWord (s : State) (cx : Cx) (a : Nat) (v : Word) (f : Field) (ix : List Nat) : (s.setDataWord cx a v).rd f ix = s.rd f ix := rfl
@[simp] theorem State.rd_emit (s : State) (o : Out) (f : Field) (ix : List Nat) : (s.emit o).rd f ix = s.rd f ix := rfl
@[simp] theorem State.rd_advanceTo (s : State) (t : Nat) (f : Field) (ix : List Nat) : (s.advanceTo t).rd f ix = s.rd f ix := rfl
@[simp] theorem State.rd_putTree (s : State) (z : Nat) (t : Tree) (f : Field) (ix : List Nat) : (s.putTree z t).rd f ix = s.rd f ix := rfl
@[simp] theorem State.rd_modTree (s : State) (z : Nat) (g : Tree → Tree) (f : Field) (ix : List Nat) : (s.modTree z g).rd f ix = s.rd f ix := rfl
@[simp] theorem State.rd_putSlot (s : State) (n : Nat) (x : Slot) (f : Field) (ix : List Nat) : (s.putSlot n x).rd f ix = s.rd f ix := rfl

/-- The record of a tree after it is stored, and of another tree. -/
theorem State.tree_putTree (s : State) (z y : Nat) (t : Tree) : (s.putTree z t).tree y = if y = z then t else s.tree y := by
  simp only [State.tree, State.putTree, Map.get?_put]; split <;> rfl
@[simp] theorem State.tree_putTree_self (s : State) (z : Nat) (t : Tree) : (s.putTree z t).tree z = t := by simp [State.tree_putTree]
@[simp] theorem State.tree_modTree_self (s : State) (z : Nat) (f : Tree → Tree) : (s.modTree z f).tree z = f (s.tree z) := by simp [State.modTree]

/-- The hidden part of a slot after it is stored, and of another slot. -/
theorem State.slot_putSlot (s : State) (n m : Nat) (x : Slot) : (s.putSlot n x).slot m = if m = n then x else s.slot m := by
  simp only [State.slot, State.putSlot, Map.get?_put]; split <;> rfl
@[simp] theorem State.slot_putSlot_self (s : State) (n : Nat) (x : Slot) : (s.putSlot n x).slot n = x := by simp [State.slot_putSlot]

end Sys2Proof.Machine
end

