-- ==== Sys2Proof/Laws/Ops.lean ====
section
/-! SUPPORT. One lemma per shared operation: everything it can do. -/

namespace Sys2Proof.Machine

/-! ### Stores keep their canonical form -/

theorem State.wf_wr (s : State) (f : Field) (ix : List Nat) (v : Nat) (h : s.regs.wf = true) : (s.wr f ix v).regs.wf = true := Store.wf_set _ _ _ h
theorem State.wf_addTo (s : State) (f : Field) (ix : List Nat) (n : Nat) (h : s.regs.wf = true) : (s.addTo f ix n).regs.wf = true := Store.wf_set _ _ _ h
theorem State.wf_clearRange (s : State) (lo hi : Nat) (h : s.regs.wf = true) : (s.clearRange lo hi).regs.wf = true := Store.wf_clear _ _ _ h
theorem State.wf_setDataWord (s : State) (cx : Cx) (a : Nat) (v : Word) (h : s.cpu.mem.wf = true) : (s.setDataWord cx a v).cpu.mem.wf = true :=
  Store.wf_set _ _ _ h
theorem State.wf_loadData (s : State) (cx : Cx) (l : List Word) (h : s.cpu.mem.wf = true) : (s.loadData cx l).cpu.mem.wf = true :=
  Store.wf_fill _ _ _ (Store.wf_clear _ _ _ h)

theorem State.Canonical.wr {s : State} (h : s.Canonical) (f : Field) (ix : List Nat) (v : Nat) : (s.wr f ix v).Canonical := ⟨s.wf_wr f ix v h.1, h.2⟩
theorem State.Canonical.addTo {s : State} (h : s.Canonical) (f : Field) (ix : List Nat) (n : Nat) : (s.addTo f ix n).Canonical := h.wr f ix _
theorem State.Canonical.clearRange {s : State} (h : s.Canonical) (lo hi : Nat) : (s.clearRange lo hi).Canonical := ⟨s.wf_clearRange lo hi h.1, h.2⟩
theorem State.Canonical.emit {s : State} (h : s.Canonical) (o : Out) : (s.emit o).Canonical := h
theorem State.Canonical.advanceTo {s : State} (h : s.Canonical) (t : Nat) : (s.advanceTo t).Canonical := h
theorem State.Canonical.putCtx {s : State} (h : s.Canonical) (cx : Cx) (c : Ctx) : (s.putCtx cx c).Canonical := h
theorem State.Canonical.setDataWord {s : State} (h : s.Canonical) (cx : Cx) (a : Nat) (v : Word) : (s.setDataWord cx a v).Canonical :=
  ⟨h.1, s.wf_setDataWord cx a v h.2.1, h.2.2⟩
theorem State.Canonical.putTree {s : State} (h : s.Canonical) (z : Nat) (t : Tree) : (s.putTree z t).Canonical := h
theorem State.Canonical.modTree {s : State} (h : s.Canonical) (z : Nat) (f : Tree → Tree) : (s.modTree z f).Canonical := h
theorem State.Canonical.putSlot {s : State} (h : s.Canonical) (n : Nat) (x : Slot) : (s.putSlot n x).Canonical := h

/-! ### Counters (R450, R455) -/

/-- A count changes the counter and its `WRAP`, in block 0x0D, and nothing but registers. -/
theorem State.count_frame (s : State) (n k : Nat) : ∃ r, s.count n k = { s with regs := r } := by
  unfold State.count
  split
  · exact ⟨s.regs, rfl⟩
  · dsimp only; split <;> exact ⟨_, rfl⟩

/-- A count of an existing counter adds to it modulo 2^40. -/
theorem State.rd_count (s : State) (n k : Nat) (h : n < 2228224) : (s.count n k).rd Reg.Cnt.CNT [n] = (s.rd Reg.Cnt.CNT [n] + k) % 2 ^ 40 := by
  have hn : ¬ (2228224 ≤ n) := by omega
  have hk : Reg.Cnt.CNT.key [n] ≠ Reg.Cnt.WRAP.key [n] := by
    simp [Field.key, Field.addr, dimsAddr, Reg.Cnt.CNT, Reg.Cnt.WRAP] <;> omega
  have hw : Reg.Cnt.CNT.w = 40 := rfl
  simp only [State.count, hn, if_false]
  split
  · rw [State.rd_wr_ne _ _ _ _ _ _ hk, State.rd_wr_self _ _ _ _ (by decide), hw]
  · rw [State.rd_wr_self _ _ _ _ (by decide), hw]

/-! ### Instructions (R23, R24, R36, R64, R65) -/

/-- An instruction of a context that executes, with its fields in order and allowed there, is its own operation, its cycles counted. -/
theorem erten_runs {s : State} {cx : Cx} {c : Ctx} (op : Nat) (u : Use) (n : Nat) (f : Fields) (body : Ctx → State → State) (hr : s.Runs cx c)
    (hu : u.ok f = true) (hp : u.prompter = true → c.tree?.isSome = true) :
    erten op u n cx f body s = body { c with cycles := c.cycles + n } s := by
  obtain ⟨hc, hb, ho, hpc⟩ := hr
  have h2 : ¬ ((u.prompter && ({ c with cycles := c.cycles + n } : Ctx).tree?.isNone) = true) := by
    intro h
    simp only [Bool.and_eq_true] at h
    have := hp h.1
    have h3 : c.tree?.isNone = true := h.2
    cases hh : c.tree? <;> simp_all
  simp only [erten, hc, hb, ho, Bool.not_true, Bool.or_self, Bool.false_eq_true, if_false, hpc, hu, h2]

/-- An instruction in a context that does not execute changes nothing. -/
theorem erten_idle {s : State} {cx : Cx} (op : Nat) (u : Use) (n : Nat) (f : Fields) (body : Ctx → State → State)
    (h : ∀ c, s.ctx? cx = some c → c.runs = false ∨ s.onCore cx = false) : erten op u n cx f body s = s := by
  unfold erten
  cases hc : s.ctx? cx with
  | none => rfl
  | some c => rcases h c hc with h | h <;> simp [h]

/-- An instruction that writes one register is `State.wrote`. -/
theorem erten_writeReg {s : State} {cx : Cx} {c : Ctx} (op : Nat) (u : Use) (n : Nat) (f : Fields) (g : Ctx → Word) (hr : s.Runs cx c)
    (hu : u.ok f = true) (hp : u.prompter = false) :
    erten op u n cx f (writeReg cx f g) s = s.wrote cx c n f (g { c with cycles := c.cycles + n }) := by
  rw [erten_runs op u n f _ hr hu (by simp [hp])]
  obtain ⟨r, he⟩ := Ctx.setReg_frame { c with cycles := c.cycles + n } f.wd.toNat (g { c with cycles := c.cycles + n })
  simp only [writeReg, State.wrote, Ctx.advance, Ctx.spend, he]

/-! ### Tickets (R40, R41, R48) -/

/-- A completion of a ticket that its context still holds is stored in its entry, and nothing else changes. -/
theorem State.finishTicket_held (s : State) (e g : Nat) (w : Word) (t : Tix) (he : e ≤ 4096) (ht : s.cpu.tickets.get? e = some t) (hg : t.gen = g)
    (ho : t.orphan = false) : s.finishTicket e g w = { s with cpu := { s.cpu with tickets := s.cpu.tickets.put e { t with st := .done w } } } := by
  have : ¬ 4096 < e := by omega
  simp [State.finishTicket, this, ht, hg, ho]

/-- A completion of an older generation changes nothing. -/
theorem State.finishTicket_stale (s : State) (e g : Nat) (w : Word) (t : Tix) (he : e ≤ 4096) (ht : s.cpu.tickets.get? e = some t) (hg : t.gen ≠ g) :
    s.finishTicket e g w = s := by
  have : ¬ 4096 < e := by omega
  simp [State.finishTicket, this, ht, hg]

/-! ### Steps -/

/-- A step with a command in front is that command on the rest. -/
theorem step_cons (s : State) (c : Instr) (rest : List Instr) (h : s.pending = c :: rest) : step s = exec c { s with pending := rest } := by
  simp only [step, h]

end Sys2Proof.Machine
end

