-- ==== Sys2Proof/Laws/Frames.lean ====
section
/-! SUPPORT. What events and buffers leave as they were. -/

namespace Sys2Proof.Machine

/-! ### Registers and events alone -/

/-- Whether two states differ in registers and events alone. -/
abbrev State.SameBut (s t : State) : Prop := ∃ r e, t = { s with regs := r, evs := e }

theorem State.SameBut.rfl' (s : State) : s.SameBut s := ⟨s.regs, s.evs, rfl⟩
theorem State.SameBut.trans' {s t u : State} (h : s.SameBut t) (k : t.SameBut u) : s.SameBut u := by
  obtain ⟨r, e, rfl⟩ := h
  obtain ⟨r', e', rfl⟩ := k
  exact ⟨r', e', rfl⟩
theorem State.SameBut.wr' {s t : State} (h : s.SameBut t) (f : Field) (ix : List Nat) (v : Nat) : s.SameBut (t.wr f ix v) := by
  obtain ⟨r, e, rfl⟩ := h
  exact ⟨_, e, rfl⟩
theorem State.SameBut.evs' {s t : State} (h : s.SameBut t) (x : Events) : s.SameBut { t with evs := x } := by
  obtain ⟨r, e, rfl⟩ := h
  exact ⟨r, x, rfl⟩
theorem State.SameBut.addTo' {s t : State} (h : s.SameBut t) (f : Field) (ix : List Nat) (n : Nat) : s.SameBut (t.addTo f ix n) := h.wr' f ix _
theorem State.SameBut.count' {s t : State} (h : s.SameBut t) (n k : Nat) : s.SameBut (t.count n k) := by
  obtain ⟨r, hr⟩ := State.count_frame t n k
  obtain ⟨r', e, rfl⟩ := h
  exact ⟨r, e, hr⟩

/-- A record that reaches the collector changes registers and events alone (R466–R468). -/
theorem State.accept_same (s : State) (e : Ev) : s.SameBut (s.accept e) := by
  have h0 := State.SameBut.rfl' s
  unfold State.accept
  split
  · exact h0.addTo' _ _ _
  · dsimp only
    split
    · exact (h0.addTo' _ _ _).count' _ _
    · have h1 : s.SameBut (if (decide (1 ≤ e.tenant) && decide (e.tenant ≤ 63)) = true then
          (s.wr Reg.Hid.EV_DEFICIT [e.tenant] (s.bucketDeficit e.tenant + tokenCost)).wr Reg.Hid.EV_DEFICIT_AT [e.tenant] s.ext else s) := by
        split
        · exact (h0.wr' _ _ _).wr' _ _ _
        · exact h0
      generalize (if (decide (1 ≤ e.tenant) && decide (e.tenant ≤ 63)) = true then
          (s.wr Reg.Hid.EV_DEFICIT [e.tenant] (s.bucketDeficit e.tenant + tokenCost)).wr Reg.Hid.EV_DEFICIT_AT [e.tenant] s.ext else s) = u at h1 ⊢
      split
      · exact (h1.addTo' _ _ _).evs' _
      · exact (((h1.addTo' _ _ _).wr' _ _ _).evs' _).count' _ _

theorem State.raise_same (s : State) (c o : Nat) (d : List Nat) : s.SameBut (s.raise c o d) := State.accept_same s _
theorem State.raiseFor_same (s : State) (t c o : Nat) (d : List Nat) : s.SameBut (s.raiseFor t c o d) := State.accept_same s _

theorem State.closeWindow_same (s : State) (w : RateWin) : s.SameBut (s.closeWindow w) := by
  unfold State.closeWindow
  dsimp only
  split
  · exact (State.SameBut.rfl' s).evs' _
  · exact ((State.SameBut.rfl' s).evs' _).trans' (State.accept_same _ _)

/-- Closing the window of a key changes registers and events alone. -/
theorem State.closeDue_same (s : State) (c k : Nat) : s.SameBut (s.closeDue c k) := by
  unfold State.closeDue
  split
  · split
    · exact State.closeWindow_same _ _
    · exact State.SameBut.rfl' s
  · exact State.SameBut.rfl' s

/-- A rate-limited event changes registers and events alone (R530). -/
theorem State.raiseRated_same (s : State) (i c k t o : Nat) (d : List Nat) : s.SameBut (s.raiseRated i c k t o d) := by
  unfold State.raiseRated
  have h := (State.closeDue_same s c k).trans' (State.closeDue_same _ c k)
  generalize (s.closeDue c k).closeDue c k = u at h ⊢
  dsimp only
  split
  · exact h.evs' _
  · exact (h.evs' _).trans' (State.accept_same _ _)

/-- A denied access changes registers and events alone (R28). -/
theorem State.denied_same (s : State) (cx : Cx) (c : Ctx) (a : Nat) : s.SameBut (s.denied cx c a) :=
  ((State.SameBut.rfl' s).count' _ _).trans' (State.raiseRated_same _ _ _ _ _ _ _)

/-! ### Registers that no event reaches -/

/-- A key outside block 0x0D and outside the two tables of the tenants' buckets. -/
abbrev quiet (k : Nat) : Prop := k < 0x0D * 2 ^ 40 ∨ (0x0E * 2 ^ 40 ≤ k ∧ k < 0x40 * 2 ^ 40) ∨ 0x42 * 2 ^ 40 ≤ k

/-- A count leaves every register outside block 0x0D. -/
theorem State.rd_count_quiet (s : State) (n k : Nat) (f : Field) (ix : List Nat) (h : quiet (f.key ix)) : (s.count n k).rd f ix = s.rd f ix := by
  unfold State.count
  split
  · rfl
  · rename_i hn
    have h1 : f.key ix ≠ Reg.Cnt.CNT.key [n] := by
      simp only [Field.key, Field.addr, dimsAddr, Reg.Cnt.CNT] at h ⊢
      omega
    have h2 : f.key ix ≠ Reg.Cnt.WRAP.key [n] := by
      simp only [Field.key, Field.addr, dimsAddr, Reg.Cnt.WRAP] at h ⊢
      omega
    dsimp only
    split
    · rw [State.rd_wr_ne _ _ _ _ _ _ h2, State.rd_wr_ne _ _ _ _ _ _ h1]
    · rw [State.rd_wr_ne _ _ _ _ _ _ h1]

/-- An event leaves every register outside block 0x0D and the tenants' buckets; `t` is its tenant. -/
theorem State.rd_accept_quiet (s : State) (e : Ev) (f : Field) (ix : List Nat) (h : quiet (f.key ix)) : (s.accept e).rd f ix = s.rd f ix := by
  have hw : ∀ (u : State) (g : Field) (v : Nat), g.blk = 0x0D → g.dims = [] → g.base < 2 ^ 34 → g.lo < 64 → (u.wr g [] v).rd f ix = u.rd f ix := by
    intro u g v hb hd h1 h2
    refine State.rd_wr_ne u g f [] ix v ?_
    simp only [Field.key, Field.addr, hb, hd, dimsAddr] at h ⊢
    omega
  have hwm : ∀ (u : State) (g : Field) (v : Nat), g.blk = 0x0D → g.dims = [] → g.base < 2 ^ 34 → g.lo < 64 → (u.addTo g [] v).rd f ix = u.rd f ix :=
    fun u g v => hw u g _
  unfold State.accept
  split
  · exact hwm _ _ _ rfl rfl (by decide) (by decide)
  · dsimp only
    split
    · rw [State.countTenant, State.rd_count_quiet _ _ _ _ _ h]
      exact hwm _ _ _ rfl rfl (by decide) (by decide)
    · have h1 : ∀ u : State, u = (if (decide (1 ≤ e.tenant) && decide (e.tenant ≤ 63)) = true then
          (s.wr Reg.Hid.EV_DEFICIT [e.tenant] (s.bucketDeficit e.tenant + tokenCost)).wr Reg.Hid.EV_DEFICIT_AT [e.tenant] s.ext else s) → u.rd f ix = s.rd f ix := by
        rintro u rfl
        split
        · rename_i ht
          simp only [Bool.and_eq_true, decide_eq_true_eq] at ht
          rw [State.rd_wr_ne, State.rd_wr_ne]
          · simp only [Field.key, Field.addr, dimsAddr, Reg.Hid.EV_DEFICIT] at h ⊢
            omega
          · simp only [Field.key, Field.addr, dimsAddr, Reg.Hid.EV_DEFICIT_AT] at h ⊢
            omega
        · rfl
      generalize hu : (if (decide (1 ≤ e.tenant) && decide (e.tenant ≤ 63)) = true then
          (s.wr Reg.Hid.EV_DEFICIT [e.tenant] (s.bucketDeficit e.tenant + tokenCost)).wr Reg.Hid.EV_DEFICIT_AT [e.tenant] s.ext else s) = u
      rw [← h1 u hu.symm]
      split
      · exact hwm u Reg.Cnt.EV_DROP 1 rfl rfl (by decide) (by decide)
      · rw [State.countTenant, State.rd_count_quiet _ _ _ _ _ h]
        refine (hw (u.addTo Reg.Cnt.EV_SEQ [] 1) Reg.Cnt.EV_QFILL _ rfl rfl (by decide) (by decide)).trans ?_
        exact hwm u Reg.Cnt.EV_SEQ 1 rfl rfl (by decide) (by decide)

theorem State.rd_raise_quiet (s : State) (c o : Nat) (d : List Nat) (f : Field) (ix : List Nat) (h : quiet (f.key ix)) : (s.raise c o d).rd f ix = s.rd f ix :=
  State.rd_accept_quiet s _ f ix h

end Sys2Proof.Machine
end

