-- ==== Sys2Proof/WellFormed.lean ====
section
/-! DEFINITION. Which commands are well-formed: operands within the numbers the hardware has. A command outside them has no effect of its own: its meaning finds no such port, terminal, lane or slot. -/

namespace Sys2Proof

/-- A hardware context: prompter cores 0-71 have context 0 alone, stagehands 72-79 have sixteen (R24, R206). -/
def cxOk (cx : Cx) : Bool := decide (cx.core < 80) && decide (cx.ctx < (if cx.core < 72 then 1 else 16))

/-- A boot's straps are bits, and its channels 16 (R436, R521). -/
def bootOk (b : Boot) : Bool := decide (b.unit < 2) && decide (b.src < 2) && decide (b.trained < 2 ^ 16)

/-- A command's operands lie within the numbers of ports, terminals, tenants, functions, lanes, slots and domains. -/
def Instr.wf : Instr → Bool
  | .add cx _ => cxOk cx
  | .sub cx _ => cxOk cx
  | .andR cx _ => cxOk cx
  | .orR cx _ => cxOk cx
  | .xorR cx _ => cxOk cx
  | .shl cx _ => cxOk cx
  | .shr cx _ => cxOk cx
  | .sar cx _ => cxOk cx
  | .mul cx _ => cxOk cx
  | .mulhu cx _ => cxOk cx
  | .divu cx _ => cxOk cx
  | .remu cx _ => cxOk cx
  | .slt cx _ => cxOk cx
  | .sltu cx _ => cxOk cx
  | .saft cx _ => cxOk cx
  | .minu cx _ => cxOk cx
  | .maxu cx _ => cxOk cx
  | .clz cx _ => cxOk cx
  | .popc cx _ => cxOk cx
  | .addi cx _ => cxOk cx
  | .andi cx _ => cxOk cx
  | .ori cx _ => cxOk cx
  | .xori cx _ => cxOk cx
  | .shli cx _ => cxOk cx
  | .shri cx _ => cxOk cx
  | .sari cx _ => cxOk cx
  | .slti cx _ => cxOk cx
  | .li cx _ => cxOk cx
  | .lim cx _ => cxOk cx
  | .beq cx _ => cxOk cx
  | .bne cx _ => cxOk cx
  | .blt cx _ => cxOk cx
  | .bge cx _ => cxOk cx
  | .bltu cx _ => cxOk cx
  | .bgeu cx _ => cxOk cx
  | .baft cx _ => cxOk cx
  | .bnaft cx _ => cxOk cx
  | .j cx _ => cxOk cx
  | .call cx _ => cxOk cx
  | .jr cx _ => cxOk cx
  | .callr cx _ => cxOk cx
  | .ld cx _ => cxOk cx
  | .st cx _ => cxOk cx
  | .old cx _ => cxOk cx
  | .ost cx _ => cxOk cx
  | .oadd cx _ => cxOk cx
  | .oswap cx _ => cxOk cx
  | .oset cx _ => cxOk cx
  | .oclr cx _ => cxOk cx
  | .ocas cx _ => cxOk cx
  | .objectAccessReturn cx _ => cxOk cx
  | .refusedStoreException cx _ => cxOk cx
  | .wait cx _ => cxOk cx
  | .waitResume cx => cxOk cx
  | .poll cx _ => cxOk cx
  | .order cx _ => cxOk cx
  | .orderRelease cx => cxOk cx
  | .fence cx _ => cxOk cx
  | .fenceRelease cx => cxOk cx
  | .now cx _ => cxOk cx
  | .waitUntil cx _ => cxOk cx
  | .waitUntilResume cx => cxOk cx
  | .grant cx _ => cxOk cx
  | .quiet cx _ => cxOk cx
  | .seal cx _ => cxOk cx
  | .standing cx _ => cxOk cx
  | .reportGet cx _ => cxOk cx
  | .yield cx _ => cxOk cx
  | .trap cx _ => cxOk cx
  | .tableInsert cx _ _ => cxOk cx
  | .tableDelete cx _ _ => cxOk cx
  | .tableRead cx _ _ => cxOk cx
  | .keyWrite cx _ _ => cxOk cx
  | .keyErase cx _ _ => cxOk cx
  | .keyEraseDone n => decide (n < 147456)
  | .keySwap n => decide (n < 147456)
  | .memCopy cx _ _ => cxOk cx
  | .pbQuery cx _ _ => cxOk cx
  | .bufFree cx _ _ => cxOk cx
  | .bufRelease cx _ _ => cxOk cx
  | .cueAt cx _ _ => cxOk cx
  | .cueFire _ _ => true
  | .stage cx _ _ => cxOk cx
  | .curtain cx _ _ => cxOk cx
  | .curtainDue => true
  | .curtainSwitch => true
  | .curtainTimeout => true
  | .counterFlush cx _ _ => cxOk cx
  | .run f _ _ => decide (f < 16)
  | .runResident f _ _ => decide (f < 16)
  | .loadResident f _ _ => decide (f < 16)
  | .unloadResident f _ _ => decide (f < 16)
  | .loadPrompter f _ _ => decide (f < 16)
  | .nop f _ _ => decide (f < 16)
  | .sqTail f _ _ => decide (f < 16)
  | .sqTake _ => true
  | .cqHead f _ => decide (f < 16)
  | .eqHead f _ => decide (f < 16)
  | .sqEn f _ => decide (f < 16)
  | .cqEn f _ => decide (f < 16)
  | .eqEn f _ => decide (f < 16)
  | .selfEnd cx _ => cxOk cx
  | .coalUsExpiry f _ => decide (f < 16)
  | .scriptRunLimit cx => cxOk cx
  | .tenantDisable cx t => cxOk cx && decide (t < 64)
  | .devReset _ b => bootOk b
  | .resetAfterNotice b => bootOk b
  | .bootGo _ _ => true
  | .functionLevelReset _ => true
  | .pfReset _ => true
  | .perstN => true
  | .registerWrite _ => true
  | .frameBoundary z _ => decide (z < 64)
  | .sheetDeadline z => decide (z < 64)
  | .lockstepMismatch z => decide (z < 64)
  | .burstReceive z _ => decide (z < 64)
  | .burstWindowMissed z => decide (z < 64)
  | .discoveryWindow z _ => decide (z < 64)
  | .burstDecoded z _ => decide (z < 64)
  | .energyDetected z => decide (z < 64)
  | .light cx p _ => cxOk cx && decide (p < 64)
  | .portModeChange cx p _ _ _ => cxOk cx && decide (p < 64)
  | .bond cx p _ => cxOk cx && decide (p < 64)
  | .trainingDone p => decide (p < 64)
  | .i2cGo cx m => cxOk cx && decide (m < 8)
  | .i2cDone m _ => decide (m < 8)
  | .tailSyncPattern p _ => decide (p < 64)
  | .tailMapEntry p _ _ _ _ => decide (p < 64)
  | .tailBurstSend p _ => decide (p < 64)
  | .tailTxGuard p => decide (p < 64)
  | .tailTo2Expiry p => decide (p < 64)
  | .ponpLos p _ => decide (p < 64)
  | .portDefectInterval p _ => decide (p < 64)
  | .serialNumberOnu z => decide (z < 64)
  | .rangingResponse z _ _ _ _ _ => decide (z < 64)
  | .rangingWindowEnd z => decide (z < 64)
  | .registration z t _ => decide (z < 64) && decide (t < 1020)
  | .acknowledge z t _ => decide (z < 64) && decide (t < 1020)
  | .rangingTimeAckTimeout z t => decide (z < 64) && decide (t < 1020)
  | .registerReq z => decide (z < 64)
  | .registerAck z t => decide (z < 64) && decide (t < 1020)
  | .report z _ => decide (z < 64)
  | .lostToExpiry z t => decide (z < 64) && decide (t < 1020)
  | .admin cx z t _ => cxOk cx && decide (z < 64) && decide (t < 1020)
  | .disable cx z t _ => cxOk cx && decide (z < 64) && decide (t < 1020)
  | .rogueHeldClear cx z t => cxOk cx && decide (z < 64) && decide (t < 1020)
  | .stateWrite cx z t _ => cxOk cx && decide (z < 64) && decide (t < 1020)
  | .pwrCmd cx z t _ => cxOk cx && decide (z < 64) && decide (t < 1020)
  | .rssiReq cx z t => cxOk cx && decide (z < 64) && decide (t < 1020)
  | .rereg cx z t => cxOk cx && decide (z < 64) && decide (t < 1020)
  | .rogueWatchEnd z => decide (z < 64)
  | .burstProfile p _ => decide (p < 64)
  | .assignOnuId p _ _ _ => decide (p < 64)
  | .rangingTime p _ _ => decide (p < 64)
  | .deactivateOnuId p _ => decide (p < 64)
  | .disableSerialNumber p _ _ _ => decide (p < 64)
  | .keyControl p _ _ => decide (p < 64)
  | .changePowerLevel p _ => decide (p < 64)
  | .pairSel cx _ => cxOk cx
  | .alignmentProbe _ => true
  | .pairWaitExpiry => true
  | .cueLightFrameTx => true
  | .cueLightFrameRx _ => true
  | .twinClaimLost => true
  | .sealedSheetRx z _ => decide (z < 64)
  | .sheetMissing z => decide (z < 64)
  | .verificationEnd z => decide (z < 64)
  | .tkoFail cx z => cxOk cx && decide (z < 64)
  | .wtrExpiry z => decide (z < 64)
  | .mirroredWrite _ _ => true
  | .remoteAccess cx _ tenant _ => cxOk cx && decide (tenant < 64)
  | .mirrorResync _ => true
  | .holder cx z _ => cxOk cx && decide (z < 64)
  | .sievePacket _ => true
  | .recircPass => true
  | .puntInject cx _ _ _ => cxOk cx
  | .parityScrub _ _ _ => true
  | .spareBankSwitch _ _ => true
  | .learn => true
  | .rakeVisit _ _ _ => true
  | .queueSend z => decide (z < 64)
  | .owner cx _ _ => cxOk cx
  | .bufOpen cx => cxOk cx
  | .cipherRequest _ => true
  | .cipherRequestDone _ n _ => decide (n < 147456)
  | .rekey cx z t => cxOk cx && decide (z < 64) && decide (t < 1020)
  | .keyReport z t _ _ => decide (z < 64) && decide (t < 1020)
  | .rekeyTimeout z t => decide (z < 64) && decide (t < 1020)
  | .cgo cx => cxOk cx
  | .entropySample _ => true
  | .ofsIn cx d _ => cxOk cx && decide (d < 2)
  | .stepApply cx d => cxOk cx && decide (d < 2)
  | .stepDrop cx d => cxOk cx && decide (d < 2)
  | .switch cx d => cxOk cx && decide (d < 2)
  | .holdEntryExpiry d => decide (d < 2)
  | .ptpTimestamp _ => true
  | .tsPop cx _ _ _ => cxOk cx
  | .snap cx => cxOk cx
  | .todSfLo cx z _ => cxOk cx && decide (z < 64)
  | .todLatched z => decide (z < 64)
  | .ppsIn => true
  | .ppsOutEdge => true
  | .stageWrap => true
  | .ulMode cx u _ => cxOk cx && decide (u < 32)
  | .ulEn cx u _ => cxOk cx && decide (u < 32)
  | .autoNegotiationDone u _ => decide (u < 32)
  | .ulLink u _ _ => decide (u < 32)
  | .alignmentMarker _ => true
  | .twinReform l _ => decide (l < 24)
  | .twRestoreExpiry l => decide (l < 24)
  | .twinMessageRx _ _ => true
  | .twinRetransmit _ => true
  | .eqUpdate l _ _ => decide (l < 88)
  | .prbsStart cx l _ _ => cxOk cx && decide (l < 88)
  | .pwrTxRx cx l _ _ => cxOk cx && decide (l < 88)
  | .laneDefectEval l _ => decide (l < 88)
  | .memOpen cx => cxOk cx
  | .patrolScrub _ _ => true
  | .thresholdSample _ => true
  | .eventWindowClose _ _ => true
  | .eventDeliver => true
  | .trFreeze cx core => cxOk cx && decide (core < 80)
  | .trClear cx core => cxOk cx && decide (core < 80)
  | .sliceStart _ _ => true
  | .sliceEnd _ _ _ => true
  | .sliceYield _ => true
  | .darkGo cx z => cxOk cx && decide (z < 64)
  | .lcReq cx => cxOk cx
  | .lcGo cx => cxOk cx
  | .mfgTest cx => cxOk cx
  | .extest b => bootOk b
  | .trstN => true
  | .powerUp _ b => bootOk b
  | .bootReady => true
  | .dipStart _ => true
  | .supplyDip _ _ _ => true
  | .dipHoldExpiry => true
  | .vinReset _ => true
  | .supplyOvWarn _ => true
  | .overVoltageShutdown _ => true
  | .railOutOfRegulation _ _ => true
  | .railCritical _ _ _ => true
  | .thermalWarn _ _ => true
  | .thermalShutdown _ => true
  | .avsUpdate _ => true
  | .rootPllUnlock => true
  | .fractionalPllUnlock _ => true
  | .resetN => true
  | .watchdogExpiry b => bootOk b
  | .wdogKick cx _ => cxOk cx
  | .rollbackBurn cx => cxOk cx
  | .uplinkFrameSend u => decide (u < 32)
  | .pcieLinkUp gts width => [2, 5, 8, 16, 32].contains gts && [1, 2, 4, 8].contains width
  | .rootPllLock b => bootOk b
  | .fractionalPllLock _ => true
  | .resetNRelease b => bootOk b
  | .thermalShutdownRelease _ b => bootOk b
  | .cueLink => true
  | .coverageCycleLate => true
  | .issue cx _ _ => cxOk cx

end Sys2Proof
end

