-- ==== Sys2Proof/Tests/Slice0.lean ====
section
/-! SUPPORT. Tests: words and commands against the spec, ill-formed commands, and a state that meets the hypotheses of every statement. -/

-- The kernel evaluates some of these states; one theorem at a time keeps what that takes small.
set_option Elab.async false

open Sys2Proof Sys2Proof.Machine

/-! ### Small states -/

/-- A context of a kind, at instruction 10 of 100 with 64 data words. -/
def tCtx (k : CtxKind) (regs : Store 40) : Ctx :=
  { kind := k, tenant := 0, regs := regs, pc := 10, icount := 100, dwords := 64, cycles := 0, limit := 0, block := .none, order := false,
    refused := [], ended := none, kill := none, job := none, res0 := 0, res1 := 0, segs := [] }

/-- A state with one context. -/
def tWith (cx : Cx) (c : Ctx) : State := State.reset.putCtx cx c

/-- The reset state with registers set. -/
def tRegs (l : List (Field × List Nat × Nat)) : State := l.foldl (fun s x => s.wr x.1 x.2.1 x.2.2) State.reset

/-- Core 0's one context, and a script context of stagehand 72. -/
def cx0 : Cx := ⟨0, 0⟩
def cxS : Cx := ⟨72, 1⟩

def cRun : Ctx := tCtx (.prompter 0) [(2, 7), (3, 5)]
def sRun : State := tWith cx0 cRun
def cBig : Ctx := tCtx (.prompter 0) [(2, 0x20000)]
def sBig : State := tWith cx0 cBig

def fR : Fields := ⟨1, 2, 3, 0⟩
def fOne : Fields := ⟨1, 2, 0, 0⟩
def fI : Fields := ⟨1, 2, 0, 0x3FFFF⟩
def fSh : Fields := ⟨1, 2, 0, 5⟩
def fLi : Fields := ⟨1, 0, 0, 0x3FFFF⟩
def fB : Fields := ⟨0, 2, 3, 0x3FFFE⟩
def fJ : Fields := ⟨0, 0, 0, 4⟩
def fA : Fields := ⟨0, 2, 0, 0⟩
def fZ : Fields := ⟨0, 0, 0, 0⟩
def fW : Fields := ⟨1, 0, 0, 0⟩
def fAt : Fields := ⟨1, 2, 3, 4⟩
def fCas : Fields := ⟨1, 2, 3, 0x8004⟩
def cWin : Ctx := tCtx (.prompter 0) [(2, 0x100004)]
def sWin : State := tWith cx0 cWin
def cOut : Ctx := tCtx (.prompter 0) [(2, 0x200000)]
def sOut : State := tWith cx0 cOut
def cOrd : Ctx := { cRun with order := true, refused := [⟨0x7F, 6, 0, 0, false⟩] }
def sOrd : State := tWith cx0 cOrd

/-- A stagehand's context, running on core 72. -/
def tHand (c : Ctx) : State := (tWith cxS c).wr Reg.Hid.CUR_CTX [72] 2
def cSeg : Ctx := { tCtx .script [(2, 0x100000004), (3, 5)] with segs := [(0, 1, 4)] }
def sSeg : State := (tHand cSeg).segWrite 8195 5
def xAcc : Access := { kind := .load, addr := BitVec.ofNat 40 (Reg.Hst.SELF_RES0.addr []), wd := 1, b := 0, c := 0, instr := 0 }
def cObj : Ctx := tCtx .script [(2, xAcc.addr + 2), (3, 9)]
def sObj : State := tHand cObj
def cAcc : Ctx := { cObj with block := .access xAcc }
def sAcc : State := tHand cAcc
def sSegM : State := sSeg.wr Reg.Mem.MEM_OPEN [] 1
/-- The system context of stagehand 72 with four granules of the whole capacity as its segment 0. -/
def cRaw : Ctx := { tCtx .system [(2, 0x100000004), (3, 5)] with segs := [(0, 1, 4)] }
def sRaw : State := (((tWith ⟨72, 0⟩ cRaw).wr Reg.Hid.CUR_CTX [72] 1).wr Reg.Mem.MEM_OPEN [] 1).rawWrite 8195 5
def cSegT : Ctx := { cSeg with tenant := 5 }
def sSegT : State := tHand cSegT
def sBadW : State := { sRun with cpu := { sRun.cpu with badData := [memBase cx0 + 6] } }
def cTwA : Ctx := tCtx .script [(2, BitVec.ofNat 40 (0x21 * 2 ^ 34 + 5)), (3, 9)]
/-- A pair that is whole, in graft-wide mode. -/
def tPair (s : State) (n : Nat) : State :=
  ([(Reg.Bar.PAIRING, [], n), (Reg.Twn.LANES_UP, [], 1), (Reg.Twn.ALIGN_OK, [], 1), (Reg.Hid.FORMED, [0], 1), (Reg.Hid.CARRIER_AT, [0], 1)] : List (Field × List Nat × Nat)).foldl
    (fun s x => s.wr x.1 x.2.1 x.2.2) s
def sTwA : State := tPair (tHand cTwA) 1
def rep0 : TwinReply := { code := 0, sub := 0, word := 7, result := 0, words := [] }
def xAccD : Access := { xAcc with addr := 0 }
def cAccD : Ctx := { cRun with block := .access xAccD }
def sAccD : State := tWith cx0 cAccD
def xAccT : Access := { xAcc with addr := BitVec.ofNat 40 (0x21 * 2 ^ 34) }
def cAccT : Ctx := { cObj with block := .access xAccT }
def sAccT : State := tPair (tHand cAccT) 2
def sAccU : State := (tHand cAccT).wr Reg.Bar.PAIRING [] 2
/-- A completed ticket, and a running one, of the script context of stagehand 72. -/
def tixDone : Tix := { gen := 1, core := 72, ctx := 1, tenant := 0, st := .done (cword 0 0), orphan := false, next := none, objs := [], port := none }
def tTix (s : State) (t : Tix) : State := { s with cpu := { s.cpu with tickets := s.cpu.tickets.put 3 t } }
def cTix : Ctx := tCtx .script [(2, ticketWord 3 tixDone)]
def sTix : State := tTix (tHand cTix) tixDone
def sTixR : State := tTix (tHand cTix) { tixDone with st := .pending }
def cTixW : Ctx := { cTix with block := .wait (ticketWord 3 tixDone) 1 }
def sTixW : State := tTix (tHand cTixW) tixDone
def cShT : Ctx := tCtx (.prompter 0) [(2, sheetTicketWord 0 3)]
def tSh (c : Ctx) : State := (tWith cx0 c).modTree 0 (fun t => { t with ticketNow := some (3, some (cword 0 7)) })
def sShT : State := tSh cShT
def cShW : Ctx := { cShT with block := .wait (sheetTicketWord 0 3) 1 }
def sShW : State := tSh cShW
def cHeldS : Ctx := { cObj with block := .heldStore (BitVec.ofNat 40 (Reg.Key.TENANT.addr [70])) 0 0, order := true }
def sHeldS : State := tHand cHeldS
def cHeldI : Ctx := { cRun with block := .heldIssue 0x200000 1 0 none, order := true }
def sHeldI : State := (tWith cx0 cHeldI).setDataWord cx0 0 0x40
def cHeld : Ctx := { cObj with block := .heldAccess xAcc, order := true }
def sHeld : State := tHand cHeld
def cFen : Ctx := { cObj with block := .fence }
def sFen : State := tHand cFen
def cEnd : Ctx := { cObj with block := .ending, ended := some (0, 0) }
def sEnd : State := tHand cEnd
def sLate : State := { sRun with ext := 9, timeOn := true }
def cUnt : Ctx := { cObj with block := .untilTime 9 1 }
def sUnt : State := tHand cUnt
def cVec : Ctx := cRun
def sVec : State := sRun.setDataWord cx0 0 0x40
def cOff : Ctx := { cRun with pc := 200 }
def sOff : State := tWith cx0 cOff
def cUnd : Ctx := { cRun with code := List.replicate 100 0 }
def sUnd : State := tWith cx0 cUnd
def cRef : Ctx := { cRun with refused := [⟨0x7F, 6, 0, 0, false⟩] }
def sRef : State := tWith cx0 cRef

/-- Tree 0 in the GPON head role, frame 3, with allocation 1030 of terminal 5 in use. -/
def tPort : List (Field × List Nat × Nat) := [(Reg.Pon.MODE, [0], 2), (Reg.Hid.F_ON, [0], 1), (Reg.Hid.F_RUN, [0], 1), (Reg.Cue.LOADED, [0], 1), (Reg.Cue.CORE, [0], 0),
  (Reg.Cue.FRAME, [0], 3), (Reg.Cue.DEADLINE, [0], 700000), (Reg.Hid.D_EXT, [0], 700000), (Reg.Cue.EN, [0, 1030], 1), (Reg.Cue.TERM, [0, 1030], 5), (Reg.Rng.ADMIN, [0, 5], 1),
  (Reg.Rng.STATE, [0, 5], 3), (Reg.Pon.LIT, [0], 1)]
def cPr : Ctx := tCtx (.prompter 0) [(2, 1030), (3, 5000), (4, 20)]
def sPr : State := { (tRegs tPort).putCtx cx0 cPr with timeOn := true, ext := 100000 }
def fGr : Fields := ⟨1, 2, 3, 0x8001⟩
def fQu : Fields := ⟨1, 3, 4, 0x0002⟩
def fSt : Fields := ⟨1, 2, 3, 0x8004⟩
def fSd : Fields := ⟨1, 2, 3, 0x8104⟩

/-- A context whose `ISSUE` points at word 8 of data memory, and the state with a descriptor there. -/
def cIss : Ctx := tCtx .script [(2, 8)]
def fIs : Fields := ⟨1, 2, 0, 0⟩
def sIss (ws : List Word) : State := (ws.zipIdx).foldl (fun s x => s.setDataWord cxS (8 + x.2) x.1) (tHand cIss)
def tixRun : Tix := { tixDone with st := .pending }
/-- An operation under way in ticket entry 3, and the state it acts on. -/
def opW (ws : List Word) : Op := { cx := cxS, c := cIss, w := whoOf cxS cIss, e := 3, g := 1, ws := ws, tw := none }
def opT : Op := opW []
def uT : State := tTix (tHand cIss) tixRun
def wTab : Word := BitVec.ofNat 40 fwdTable
def wIns : List Word := [0x601, wTab, 0x12, 5, 6, 0x10]
def wDel : List Word := [0x302, wTab, 0x100000]
def wDelK : List Word := [0x4502, wTab, 0x2, 5, 6]
def wRead : List Word := [0x403, wTab, 0x100000, 20]
def fEnt0 : FEnt := { svc := 5, mac := 6, dest := 0x10, tenant := 0, static := false, bound := false, hit := false, age := 0, gen := 1, bucket := 0, way := 0, parity := false, struck := false }
def sIssF (ws : List Word) : State := let s := sIss ws; { s with fwd := { s.fwd with table := [(0, fEnt0)] } }
def uFwd : State := { uT with fwd := { uT.fwd with table := [(0, fEnt0)] } }
def wKw : List Word := [0x810, BitVec.ofNat 40 (Reg.Key.MODE.addr [70]), 0x20000000, 0, 0, 0, 0, 0]
def wKe : List Word := [0x211, BitVec.ofNat 40 (Reg.Key.MODE.addr [70])]
def wCpy : List Word := [0xC420, 20, 24, 8]
def wCpo : List Word := [0x8420, BitVec.ofNat 40 (Reg.Key.TENANT.addr [70]), 24, 8]
def wCp0 : List Word := [0xC420, 20, 24, 0]
def wPbq : List Word := [0x621, 0, 0, 0, 20, 4]
def wBf : List Word := [0x230, BitVec.ofNat 40 (0x07 * 2 ^ 34 + 0x200000000 + 7 * 256 + 2)]
def wBr : List Word := [0x231, BitVec.ofNat 40 (0x07 * 2 ^ 34 + 0x200000000 + 7 * 256 + 2)]
def wCue : List Word := [0x540, 40, xAcc.addr, 7, 0]
def wCueP : List Word := wCue
def wStg : List Word := [0x350, 20, 1]
/-- A `STAGE` of one record, which sets a start entry, and of one that deletes a rule that is not there. -/
def wStgD : List Word := [0x350, 30, 1]
def recStg : List (List Word) := [[0x19]]
def sIssSt (ws : List Word) : State := (sIss ws).setDataWord cxS 30 0x19
def wCur : List Word := [0x251, 0]
def wFlu : List Word := [0x4360, BitVec.ofNat 40 (Reg.Cnt.CNT.addr [5]), 2]
def uStF : State := uT.setDataWord cxS 30 0x12
def bank0 : Bank := { mode := 2, k256 := false, keyIdx := 3, succ := 0, succV := false, key := 9 }
def sSwap : State := (uT.putSlot 70 { emptySlot with shadow := some bank0 }).wr Reg.Key.SWAP_PEND [70] 1
def sEra : State := uT.putSlot 70 { emptySlot with key := 9, ops := [.erase], tix := [⟨3, 1, .erased, 0, 0⟩] }
def uPb : State := uT.wr Reg.Mem.MEM_OPEN [] 1
def buf0 : Buf := { gen := 1, owner := ownerCtx 72 1, tenant := 0, shares := 1, inUse := true, hwDone := false, testing := false }
def uFwdS : State := { uT with fwd := { uT.fwd with table := [(0, { fEnt0 with struck := true })] } }
/-- A copy of one local word to an object's. -/
def wCpd : List Word := [0x4420, 20, BitVec.ofNat 40 (Reg.Buf.BUF_OPEN.addr []), 1]
def uBuf : State := { uT with bufs := [(7, buf0)] }
def uBufO : State := { uT with bufs := [(7, { buf0 with owner := 5, shares := 2 })] }
def cue0 : Cue := { entry := 3, gen := 1, cx := cxS, kind := .script, tenant := 0, due := 41, port := none, late := none, target := xAcc.addr, value := 7 }
def sCue : State := { uT with ptp := { uT.ptp with cues := [cue0] } }
def cueB : Cue := { cue0 with port := some 0 }
/-- Port 0 in the tail role, synchronised, past the cue's time. -/
def sCueB : State := ((({ uT with ptp := { uT.ptp with cues := [cueB] }, ext := 50, timeOn := true } : State).wr Reg.Pon.MODE [0] 2).wr Reg.Pon.ROLE [0] 1).wr Reg.Pon.TAIL_SYNC [0] 2
def rpkt0 : RPkt := { bytes := [], ingress := 64, tenant := 0, term := 1023, flow := 0xFFFF, ver := 1, pass := 1, node := 0, buf := 7, stamp := 0, full := ⟨false, 0, 0, false, [], []⟩ }
def cur0 : Curtain := { entry := 3, gen := 1, due := 50, waiting := false, twin := 0 }
def tCur (c : Curtain) (hold : Bool) : State :=
  { (if hold then uT.wr Reg.Sve.V_PREV [] 1 else uT) with sieve := { uT.sieve with
      curtain := some c
      recirc := if hold then [rpkt0] else [] } }
def sCur : State := tCur cur0 false
def sCurH : State := tCur cur0 true
def uStH : State := sCur.setDataWord cxS 30 0x19
def sCurW : State := tCur { cur0 with waiting := true } false
def sCurHW : State := tCur { cur0 with waiting := true } true

/-- The PF with its rings enabled and empty, and a submission entry. -/
def tRing : List (Field × List Nat × Nat) := [(Reg.Bar.READY, [], 1), (Reg.Bar.SQ_LOG2, [0], 4), (Reg.Bar.CQ_LOG2, [0], 4), (Reg.Bar.EQ_LOG2, [0], 4), (Reg.Bar.SQ_EN, [0], 1),
  (Reg.Bar.CQ_EN, [0], 1), (Reg.Bar.EQ_EN, [0], 1), (Reg.Hid.CQ_PHASE, [0], 1)]
def sRing : State := tRegs tRing
/-- An entry that the full completion ring holds. -/
def sStl : State := ((sRing.wr Reg.Bar.SQ_TAIL [0] 1).wr Reg.Bar.CQ_TAIL [0] 15)
def img0 : Image := { magic := 0x4E545245, format := 1, kind := 3, keysel := 0xFF, tenant := 0, flags := 0, stepping := 0xB0, reserved := 0, version := 1, icount := 1, dcount := 0, scount := 0, entry := 0, vector0 := 0, cycles := 0, tickets := 0, digest := 0, sig := 0, pubkey := 0, insts := [0], data := [], state := [] }
def img3 : Image := { img0 with digest := Config.sha384 (imageBody img0) }
def img2a : Image := { img0 with kind := 2 }
def img2 : Image := { img2a with digest := Config.sha384 (imageBody img2a) }
def ent0 : SubEntry := { op := 0, flags := 0, reserved := 0, tag := 77, imageAddr := 0, imageLen := 325, target := 0, args := [], image := .headerError }
def pl0 : Place := { pick := 0, segs := [] }
def job0 : Job := { func := 0, tag := 77, index := 0, noIrq := false, discard := false, resident := 0 }
def sRun3 : State := sRing.entered 0 1 { ent0 with image := .ok img3 }
def sRun3r : State := sRing.entered 0 3 { ent0 with image := .ok img3 }
def imgK : Image := { img0 with keysel := 0 }
def sRunBad : State := sRing.entered 0 1 { ent0 with image := .ok imgK }
def sRun2 : State := ((sRing.wr Reg.Pon.MODE [0] 2).entered 0 5 { ent0 with image := .ok img2 })
def res0 : Resident := { handle := 0, tenant := 0, img := img0, running := 0, unload := none }
def sRes0 : State := { sRing with cpu := { sRing.cpu with residents := [res0] } }
def sUnl : State := ({ sRing with cpu := { sRing.cpu with residents := [res0] } } : State).entered 0 4 ent0
def sRres : State := ({ sRing with cpu := { sRing.cpu with residents := [res0] } } : State).entered 0 2 ent0
def cScr : Ctx := { tCtx .script [] with job := some job0, cycles := 40 }
def sScr : State := tHand cScr
def cSys : Ctx := tCtx .system []
def sSys1 : State := (tWith ⟨72, 0⟩ cSys).wr Reg.Aut.EN [1] 1
def sSys : State := tWith ⟨72, 0⟩ cSys
def sTrm : State := (tRegs tPort).putCtx ⟨72, 0⟩ cSys
def sTsq : State := sSys.putTsq 2 1 [[0, 0, 0, 0, 0, 7 * 2 ^ 28]]
def sTail : State := (((sSys.wr Reg.Pon.MODE [3] 2).wr Reg.Pon.ROLE [3] 1).wr Reg.Pon.TAIL_SYNC [3] 2)
def sLan : State := ((((sSys.wr Reg.Lan.PWR_TX [4] 0).wr Reg.Lan.PWR_RX [4] 0)))
def sOwn : State := { sSys with bufs := [(7, { buf0 with owner := ownerSystem })] }
def sCgo : State := [70 + 16 * 2 ^ 19, 12 * 2 ^ 34, 12 * 2 ^ 34].zipIdx.foldl (fun s x => s.wr Reg.Hid.CREQ [ctxNo cxS, x.2] x.1) ((sScr.wr Reg.Key.STATE [70] 1).wr Reg.Key.MODE [70] 2)
/-- A token for the step from BLANK to the next state (R474), its key and signature zeros. -/
def sTok : State := (((sSys.wr Reg.Reh.LC_TOKEN [0] 0x4359434C).wr Reg.Reh.LC_TOKEN [1] 0x101))
def boot0 : Boot := { unit := 0, src := 0, slot0 := none, slot1 := none, trained := 0, entries := 0 }
def img1a : Image := { img0 with kind := 1 }
def img1 : Image := { img1a with digest := Config.sha384 (imageBody img1a) }
def sUp : State := sSys.wr Reg.Hid.HELD [0] 0
def win0 : Win := { kind := .grant, term := 5, allocs := [(1030, 20)], p := 200000, shift := 0, fin := 210000, long := false, preset := 5, swWrote := false, frame := 3, chan := 0, own := true, wide := false }
def sWn : State := sPr.modTree 0 (fun t => { t with wins := [win0] })
def obs0 : BurstObs := { scores := [(3, 60), (1, 59)], headerOk := true, onu := 5, gain := 9, thr := 9, phase := 1, seed := 7, overrun := false, skew := 0 }
def winD : Win := { win0 with kind := .disc }
def cand0 : Candidate := { x := 10, score := 60, headerOk := true, snHi := 1, snLo := 2, onu := 0, ts := 0, skew := 0 }
def bur0 : Burst := { term := 5, allocs := [(1030, 20)], delim := 200000, d := 3, score := 60, long := false, ok := true }
def sIdl : State := (((sPr.wr Reg.Rng.STATE [0, 5] 0).wr Reg.Rng.SN_HI [0, 5] 1).wr Reg.Rng.SN_LO [0, 5] 2)
def winR : Win := { win0 with kind := .rng, fin := 90000000 }
def sRng0 : State := (sPr.wr Reg.Rng.STATE [0, 5] 2).wr Reg.Hid.RNG_PREV [0, 5] 1
def candR : Candidate := { cand0 with onu := 5, x := (sRng0.rate 0).tickBits (sRng0.dPre 0) - 1000 }
def sRng : State := sRng0.modTree 0 (fun t => { t with wins := [winR] })
/-- The same tree in an EPON mode. -/
def sEpo : State := sIdl.wr Reg.Pon.MODE [0] 3
def candE : Candidate := { cand0 with ts := 0 }
def aT : Nat := 2000000
def iso0 : Iso := { on := true, cands := [], test := [5], rest := [], dirty := false, attributed := true, watch := 0 }
def sTlv : State := sTail.wr Reg.Pon.TAIL_ID_VALID [3] 1
/-- A unit of a graft-understudy pair with its lanes up; with stage time running. -/
def sGr : State := (((tRegs tPort).wr Reg.Bar.PAIRING [] 2).wr Reg.Twn.PAIRING [] 2).wr Reg.Twn.PAIR_SET [] 1 |>.wr Reg.Twn.LANES_UP [] 1
def sGrT : State := { sGr with timeOn := true, ext := 100000 }
def rx0 : RxFrame := { lanes := true, spaced := true, fill := none, line := ofBits (cuePayload 1 2 { hb := 7, stamp := 100000, flags := 0, lit := 0, claims := [] }) }
def cueR : CueRx := { lanes := true, crcOk := true, typ := 1, unit := 1, mode := 2, flags := 0, hb := 7, stamp := 100000, lit := 0, claims := [] }
def sShd : State := (sGrT.wr Reg.Pon.LIT [0] 0).modTree 0 (fun t => { t with shadow := [(5, [], false)] })
def msg0 : MsgEntry := { kind := 0, alloc := 1030, term := 5, start := 100, size := 20, ovh := 8, long := false, report := false, ploam := false, joined := false, carried := false, chan := 0, left := 0 }
def tout0 : TwinOut := { seq := 7, cls := 4, tries := 0, sent := 0, cx := cxS, addr := 0, instr := 0, payload := [], done := .store, acked := false }
def sLk : State := (((sSys.wr Reg.Lan.UL_MODE [4] 1).wr Reg.Lan.AN_EN [4] 1).wr Reg.Lan.PWR_TX [4] 0).wr Reg.Lan.PWR_RX [4] 0
def mk0 : Marker := { reform := false, ack := false, txSet := 0xFFFFFF, rxUsable := 0xFFFF }
/-- A two-step Sync of domain 24, sequence number 5, in Ethernet. -/
def ptpB : List Nat := List.replicate 12 0 ++ [0x88, 0xF7, 0, 2, 0, 44, 24, 0, 2] ++ List.replicate 23 0 ++ [0, 5] ++ List.replicate 12 0
def ptpS : List Nat := List.replicate 12 0 ++ [0x88, 0xF7, 0, 2, 0, 44, 24, 0, 0] ++ List.replicate 23 0 ++ [0, 5] ++ List.replicate 12 0
def ptpM (k : Nat) : PtpMsg := { start := 14, carry := .eth, mtype := k, seqId := 5, domain := 24, twoStep := false, len := 44 }
def ptp0 : PtpFrame := { port := 2, rx := true, bytes := ptpB }
def ev0 : Ev := State.reset.event 0x83 0 0 1 []
def rw0 : RateWin := { code := 0x83, key := 0, interval := 9, closes := 50, count := 0, last := ev0 }
def sThr : State := ((({ sSys with evs := { sSys.evs with queue := [ev0] } } : State).wr Reg.Cnt.TH_EN [4] 1).wr Reg.Cnt.TH_KIND [4] 12)
def full0 : Full := ⟨false, 0, 0, false, [], []⟩
def pk0 : Packet := { ingress := 0, bytes := List.replicate 60 1, flowId := 1, term := 5, kind := 0, fcsOk := true, full := full0, crypt := none }
def pkUp : Packet := { pk0 with ingress := 68 }
/-- Uplink 4 with its link up, and buffers open. -/
def sUpl : State := ((sPr.wr Reg.Lan.LINK_UP [4] 1).wr Reg.Lan.UL_EN [4] 1).wr Reg.Buf.BUF_OPEN [] 1
def vsDrop : VSet := { emptySet with nodes := [(2, 0x600000)] }
def sRec : State := { sUpl with sieve := { sUpl.sieve with cur := vsDrop, recirc := [rpkt0] } }
def rul0 : Rule := { prio := 1, width := 0, tenant := 2, bank := 3, row := 9, cnt := 0, cntEn := false, action := 0, vals := [], masks := [] }
def sRul : State := { sPr with sieve := { sPr.sieve with cur := { emptySet with rules := [(11, rul0)] } } }
def cInj : Ctx := tCtx .system []
def qf0 : QFrame := { buf := 7, bytes := List.replicate 60 1, tree := 0, flow := 33, yellow := false, share := false }
/-- Queue 3 of tree 0 holds a frame, its nodes with depths. -/
def sQue : State :=
  let s := [(1, 0), (2, 0), (3, 0), (4, 3)].foldl (fun s x => ((s.wr Reg.Que.MAX_DEPTH [x.1, x.2] 20000).wr Reg.Que.WEIGHT [x.1, x.2] 1).wr Reg.Que.N_EN [x.1, x.2] 1) sPr
  { s with fwd := { s.fwd with queues := [(3, [qf0])] } }
def sUq : State := { sUpl with fwd := { sUpl.fwd with upq := [(32 + 3, [qf0])] } }
def lrn0 : Learn := { svc := 5, mac := 6, dest := 0x10, tenant := 2, bound := true }
def sLrn : State := { sPr with fwd := { sPr.fwd with learns := [lrn0] } }
def tEnt (e : FEnt) : State := { sPr with fwd := { sPr.fwd with table := [(0, e)] } }
def fEntM : FEnt := { fEnt0 with svc := 5, mac := 6, dest := 0x55, static := false, bound := false }
def fEnt9 : FEnt := { fEnt0 with bucket := 9, way := 2 }
/-- Slot 70 loaded in mode 2 and bound to terminal 5 of tree 0, its successor slot 71 empty; slot 72 is the terminal's key-encryption key. -/
def sKey : State :=
  let s : State := [(Reg.Key.STATE, [70], 1), (Reg.Key.MODE, [70], 2), (Reg.Key.SUCC, [70], 71), (Reg.Key.SUCC_V, [70], 1), (Reg.Key.DN_SLOT, [0, 5], 70), (Reg.Key.UP_SLOT, [0, 5], 70),
    (Reg.Key.STATE, [72], 1), (Reg.Key.MODE, [72], 4), (Reg.Key.TKEK_SLOT, [0, 5], 72)].foldl (fun (s : State) (x : Field × List Nat × Nat) => s.wr x.1 x.2.1 x.2.2) sPr
  s.putSlot 70 { emptySlot with key := 9, rem := 2 ^ 51 }
def sRek : State := (sKey.wr Reg.Key.REKEY_BUSY [0, 5] 1).wr Reg.Hid.REKEY_TRY [0, 5] 1
def req0 : CReq := { user := .up 0 5 0, named := 70, slot := 70, mode := 2, key := 9, count := 0, frame := none, msg := none, words := none }
def sReq : State := { sKey.wr Reg.Key.INFLIGHT [70] 1 with cipher := { sKey.cipher with bound := [req0] } }
def sl0 : Slice := { entry := 3, target := .bank 4, fin := 900000 }
def sSli : State := { sPr.wr Reg.Sve.PHYS [4] 64 with reh := { sPr.reh with slices := [sl0] } }
def seg0 : SegObs := ⟨10, 10, 7, 7⟩

theorem settle_slots (s : State) : s.settleStalls.host.slots = s.host.slots := by
  have h : ∀ (l : List Nat) (u : State), (l.foldl (fun s f => if s.taking f == .stalled then s.countStall f else s) u).host.slots = u.host.slots := by
    intro l
    induction l with
    | nil => intro u; rfl
    | cons f l ih =>
      intro u
      rw [List.foldl_cons, ih]
      split
      · unfold State.countStall
        dsimp only
        split <;> rfl
      · rfl
  exact h _ s
theorem entered_slots (s : State) (f op : Nat) (e : SubEntry) : (s.entered f op e).host.slots = (s.writeSlot f (s.rd Reg.Bar.SQ_TAIL [f]) { e with op := op }).host.slots := by
  unfold State.entered
  rw [settle_slots]
  exact settle_slots _
theorem entered_image (s : State) (op : Nat) (e : SubEntry) (h0 : s.host.slots = []) (h1 : s.rd Reg.Bar.SQ_TAIL [0] = 0) (h2 : (s.entered 0 op e).rd Reg.Bar.SQ_HEAD [0] = 0) :
    ((s.entered 0 op e).headEntry 0).image = e.image := by
  unfold State.headEntry
  rw [h2, entered_slots]
  unfold State.writeSlot
  rw [h0, h1]
  rfl
theorem sRun3_image : (sRun3.headEntry 0).image = .ok img3 := entered_image _ _ _ rfl rfl (by decide +kernel)
theorem sRun3r_image : (sRun3r.headEntry 0).image = .ok img3 := entered_image _ _ _ rfl rfl (by decide +kernel)
theorem sRun2_image : (sRun2.headEntry 0).image = .ok img2 := entered_image _ _ _ rfl rfl (by decide +kernel)
theorem sRun2_target : (sRun2.headEntry 0).target = 0 := by decide +kernel
theorem auth_of_digest (s : State) (a : Image) (h : a.keysel = 255) :
    s.imageAuth { a with digest := Config.sha384 (imageBody a) } = true := by
  simp [State.imageAuth, imageBody, h]
theorem img3_auth : sRun3.imageAuth (countedImage img3) = true := auth_of_digest _ img0 rfl
theorem img3_ok : sRun3.checkImage (countedImage img3) 3 (some (sRun3.headEntry 0).imageLen) 0 0 = (0, 0) := by unfold State.checkImage; rw [img3_auth]; decide +kernel
theorem img3_authr : sRun3r.imageAuth (countedImage img3) = true := auth_of_digest _ img0 rfl
theorem img3_okr : sRun3r.checkImage (countedImage img3) 3 (some (sRun3r.headEntry 0).imageLen) ((sRun3r.bound 0).getD 0) 0 = (0, 0) := by unfold State.checkImage; rw [img3_authr]; decide +kernel
theorem img2_auth : sRun2.imageAuth (countedImage img2) = true := auth_of_digest _ img2a rfl
theorem img2_ok : sRun2.checkImage (countedImage img2) 2 (some (sRun2.headEntry 0).imageLen) 0 (budgetOf (sRun2.cycleN 0) (sRun2.rd Reg.Cue.SEAL_LEAD [0])) = (0, 0) := by
  unfold State.checkImage; rw [img2_auth]; decide +kernel
theorem img1_auth : State.reset.imageAuth img1 = true := auth_of_digest _ img1a rfl
theorem img1_ok : State.reset.checkImage img1 1 none 0 0 = (0, 0) := by unfold State.checkImage; rw [img1_auth]; decide
theorem img1_auth2 : ((State.reset.wr Reg.Bar.BOOT_WAIT [] 1).wr Reg.Bar.BOOT_LEN [] 325).imageAuth img1 = true := auth_of_digest _ img1a rfl
theorem img1_ok2 : ((State.reset.wr Reg.Bar.BOOT_WAIT [] 1).wr Reg.Bar.BOOT_LEN [] 325).checkImage img1 1
    (some (((State.reset.wr Reg.Bar.BOOT_WAIT [] 1).wr Reg.Bar.BOOT_LEN [] 325).rd Reg.Bar.BOOT_LEN [])) 0 0 = (0, 0) := by
  unfold State.checkImage; rw [img1_auth2]; decide

/-! ### States that meet the hypotheses of the statements -/

theorem test_ArithmeticRegister_1 : ∃ (s : State) (cx : Cx) (f : Fields) (c : Ctx), (s.Runs cx c) ∧ (useR.ok f = true) :=
  ⟨sRun, cx0, fR, cRun, by decide⟩

theorem test_CountBits_1 : ∃ (s : State) (cx : Cx) (f : Fields) (c : Ctx), (s.Runs cx c) ∧ (useOne.ok f = true) :=
  ⟨sRun, cx0, fOne, cRun, by decide⟩

theorem test_ArithmeticImmediate_1 : ∃ (s : State) (cx : Cx) (f : Fields) (c : Ctx), (s.Runs cx c) ∧ (useI.ok f = true) :=
  ⟨sRun, cx0, fI, cRun, by decide⟩

theorem test_ArithmeticImmediate_2 : ∃ (s : State) (cx : Cx) (f : Fields) (c : Ctx), (s.Runs cx c) ∧ (useSh.ok f = true) :=
  ⟨sRun, cx0, fSh, cRun, by decide⟩

theorem test_ArithmeticImmediate_3 : ∃ (s : State) (cx : Cx) (f : Fields) (c : Ctx), (s.Runs cx c) ∧ (useLi.ok f = true) :=
  ⟨sRun, cx0, fLi, cRun, by decide⟩

theorem test_Branches_1 : ∃ (s : State) (cx : Cx) (f : Fields) (c : Ctx), (s.Runs cx c) ∧ (useB.ok f = true) :=
  ⟨sRun, cx0, fB, cRun, by decide⟩

theorem test_JumpsAndCalls_1 : ∃ (s : State) (cx : Cx) (f : Fields) (c : Ctx), (s.Runs cx c) ∧ (useImm.ok f = true) :=
  ⟨sRun, cx0, fJ, cRun, by decide⟩

theorem test_JumpsAndCalls_2 : ∃ (s : State) (cx : Cx) (f : Fields) (c : Ctx), (s.Runs cx c) ∧ (useWa.ok f = true) ∧ ((c.a f).toNat < 2 ^ 17) :=
  ⟨sRun, cx0, fA, cRun, by decide⟩

theorem test_JumpsAndCalls_3 : ∃ (s : State) (cx : Cx) (f : Fields) (c : Ctx), (s.Runs cx c) ∧ (useWa.ok f = true) ∧ (2 ^ 17 ≤ (c.a f).toNat) :=
  ⟨sBig, cx0, fA, cBig, by decide⟩

theorem test_LocalMemory_1 : ∃ (s : State) (cx : Cx) (f : Fields) (c : Ctx) (i : Nat), (s.Runs cx c) ∧ (useI.ok f = true) ∧ (c.place (addrI c f).toNat = .data i) ∧ (s.cpu.badData.contains (memBase cx + i) = false) :=
  ⟨sRun, cx0, fI, cRun, 6, by decide⟩

theorem test_LocalMemory_2 : ∃ (s : State) (cx : Cx) (f : Fields) (c : Ctx) (z i : Nat), (s.Runs cx c) ∧ (useI.ok f = true) ∧ (c.place (addrI c f).toNat = .window z i) :=
  ⟨sWin, cx0, fI, cWin, 0, 3, by decide⟩

theorem test_LocalMemory_3 : ∃ (s : State) (cx : Cx) (f : Fields) (c : Ctx) (w : Nat) (v : Word), (s.Runs cx c) ∧ (useI.ok f = true) ∧ (c.place (addrI c f).toNat = .seg w) ∧ (s.segRefuses c w false = none) ∧ ((s.segRead w).1 = some v) :=
  ⟨sSegM, cxS, fI, cSeg, 8195, 5, by decide⟩

theorem test_LocalMemory_4 : ∃ (s : State) (cx : Cx) (f : Fields) (c : Ctx) (w : Nat) (v : Word), (s.Runs cx c) ∧ (useI.ok f = true) ∧ (c.place (addrI c f).toNat = .raw w) ∧ (s.rawRefuses w = none) ∧ ((s.rawRead w).1 = some v) :=
  ⟨sRaw, ⟨72, 0⟩, fI, cRaw, 8195, 5, by decide⟩

theorem test_LocalMemory_5 : ∃ (s : State) (cx : Cx) (f : Fields) (c : Ctx) (w : Nat), (s.Runs cx c) ∧ (useI.ok f = true) ∧ (c.place (addrI c f).toNat = .seg w) ∧ (s.segAllowed c w false = false) :=
  ⟨sSegT, cxS, fI, cSegT, 8195, by decide⟩

theorem test_LocalMemory_6 : ∃ (s : State) (cx : Cx) (f : Fields) (c : Ctx) (i : Nat), (s.Runs cx c) ∧ (useI.ok f = true) ∧ (c.place (addrI c f).toNat = .data i) ∧ (s.cpu.badData.contains (memBase cx + i) = true) :=
  ⟨sBadW, cx0, fI, cRun, 6, by decide⟩

theorem test_LocalMemory_7 : ∃ (s : State) (cx : Cx) (f : Fields) (c : Ctx), (s.Runs cx c) ∧ (useI.ok f = true) ∧ (c.place (addrI c f).toNat = .outside) :=
  ⟨sOut, cx0, fI, cOut, by decide⟩

theorem test_LocalMemory_8 : ∃ (s : State) (cx : Cx) (f : Fields) (c : Ctx) (i : Nat), (s.Runs cx c) ∧ (useB.ok f = true) ∧ (c.place (addrI c f).toNat = .data i) :=
  ⟨sRun, cx0, fB, cRun, 5, by decide⟩

theorem test_LocalMemory_9 : ∃ (s : State) (cx : Cx) (f : Fields) (c : Ctx) (z i : Nat), (s.Runs cx c) ∧ (useB.ok f = true) ∧ (c.place (addrI c f).toNat = .window z i) :=
  ⟨sWin, cx0, fB, cWin, 0, 2, by decide⟩

theorem test_LocalMemory_10 : ∃ (s : State) (cx : Cx) (f : Fields) (c : Ctx) (w : Nat), (s.Runs cx c) ∧ (useB.ok f = true) ∧ (c.place (addrI c f).toNat = .seg w) ∧ (s.segRefuses c w true = none) :=
  ⟨sSegM, cxS, fB, cSeg, 8194, by decide⟩

theorem test_LocalMemory_11 : ∃ (s : State) (cx : Cx) (f : Fields) (c : Ctx) (w : Nat), (s.Runs cx c) ∧ (useB.ok f = true) ∧ (c.place (addrI c f).toNat = .raw w) ∧ (s.rawRefuses w = none) :=
  ⟨sRaw, ⟨72, 0⟩, fB, cRaw, 8194, by decide⟩

theorem test_LocalMemory_12 : ∃ (s : State) (cx : Cx) (f : Fields) (c : Ctx) (w : Nat), (s.Runs cx c) ∧ (useB.ok f = true) ∧ (c.place (addrI c f).toNat = .seg w) ∧ (s.segAllowed c w true = false) :=
  ⟨sSegT, cxS, fB, cSegT, 8194, by decide⟩

theorem test_LocalMemory_13 : ∃ (s : State) (cx : Cx) (f : Fields) (c : Ctx), (s.Runs cx c) ∧ (useB.ok f = true) ∧ (c.place (addrI c f).toNat = .outside) :=
  ⟨sOut, cx0, fB, cOut, by decide⟩

theorem test_ObjectAccessesBlock_1 : ∃ (s : State) (cx : Cx) (f : Fields) (c : Ctx), (s.Runs cx c) ∧ (useI.ok f = true) ∧ (s.heldByOrder cx c = false) ∧ (s.toTwin (addrI c f) = false) ∧ (s.madeAtUnit0 (accessOf .load (addrI c f) f 0x3A (c.b f) ((0 : Word))) = false) :=
  ⟨sRun, cx0, fI, cRun, by decide⟩

theorem test_ObjectAccessesBlock_2 : ∃ (s : State) (cx : Cx) (f : Fields) (c : Ctx), (s.Runs cx c) ∧ (useI.ok f = true) ∧ (s.heldByOrder cx c = false) ∧ (s.toTwin (addrI c f) = true) ∧ (s.pairOk = true) :=
  ⟨sTwA, cxS, fI, cTwA, by decide⟩

theorem test_ObjectAccessesBlock_3 : ∃ (s : State) (cx : Cx) (f : Fields) (c : Ctx), (s.Runs cx c) ∧ ((useAtomic false).ok f = true) ∧ (s.heldByOrder cx c = false) ∧ (s.toTwin (addrC c f) = false) ∧ (s.madeAtUnit0 (accessOf .add (addrC c f) f 0x3C (c.b f) ((0 : Word))) = false) :=
  ⟨sRun, cx0, fAt, cRun, by decide⟩

theorem test_ObjectAccessesBlock_4 : ∃ (s : State) (cx : Cx) (f : Fields) (c : Ctx), (s.Runs cx c) ∧ ((useAtomic false).ok f = true) ∧ (s.heldByOrder cx c = false) ∧ (s.toTwin (addrC c f) = true) ∧ (s.pairOk = true) :=
  ⟨sTwA, cxS, fAt, cTwA, by decide⟩

theorem test_ObjectAccessesBlock_5 : ∃ (s : State) (cx : Cx) (f : Fields) (c : Ctx), (s.Runs cx c) ∧ ((useAtomic false).ok f = true) ∧ (s.heldByOrder cx c = false) ∧ (s.toTwin (addrC c f) = false) ∧ (s.madeAtUnit0 (accessOf .swap (addrC c f) f 0x3D (c.b f) ((0 : Word))) = false) :=
  ⟨sRun, cx0, fAt, cRun, by decide⟩

theorem test_ObjectAccessesBlock_6 : ∃ (s : State) (cx : Cx) (f : Fields) (c : Ctx), (s.Runs cx c) ∧ ((useAtomic false).ok f = true) ∧ (s.heldByOrder cx c = false) ∧ (s.toTwin (addrC c f) = false) ∧ (s.madeAtUnit0 (accessOf .set (addrC c f) f 0x3E (c.b f) ((0 : Word))) = false) :=
  ⟨sRun, cx0, fAt, cRun, by decide⟩

theorem test_ObjectAccessesBlock_7 : ∃ (s : State) (cx : Cx) (f : Fields) (c : Ctx), (s.Runs cx c) ∧ ((useAtomic false).ok f = true) ∧ (s.heldByOrder cx c = false) ∧ (s.toTwin (addrC c f) = false) ∧ (s.madeAtUnit0 (accessOf .clr (addrC c f) f 0x3F (c.b f) ((0 : Word))) = false) :=
  ⟨sRun, cx0, fAt, cRun, by decide⟩

theorem test_ObjectAccessesBlock_8 : ∃ (s : State) (cx : Cx) (f : Fields) (c : Ctx), (s.Runs cx c) ∧ ((useAtomic true).ok f = true) ∧ (s.heldByOrder cx c = false) ∧ (s.toTwin (addrC c f) = false) ∧ (s.madeAtUnit0 (accessOf .cas (addrC c f) f 0x40 (c.b f) (c.c3 f)) = false) :=
  ⟨sRun, cx0, fCas, cRun, by decide⟩

theorem test_ObjectAccessesBlock_9 : ∃ (s : State) (cx : Cx) (f : Fields) (c : Ctx), (s.Runs cx c) ∧ ((useAtomic true).ok f = true) ∧ (s.heldByOrder cx c = false) ∧ (s.toTwin (addrC c f) = true) ∧ (s.pairOk = true) :=
  ⟨sTwA, cxS, fCas, cTwA, by decide⟩

theorem test_ObjectAccessesBlock_10 : ∃ (s : State) (cx : Cx) (f : Fields) (c : Ctx), (s.Runs cx c) ∧ (useB.ok f = true) ∧ (s.heldByOrder cx c = false) ∧ (s.toTwin (addrI c f) = false) ∧ (((s.posted cx c).storeWord (whoOf cx c) (addrI c f).toNat (ertenWord 0x3B f) (c.b f)).1 = (0, 0)) :=
  ⟨sObj, cxS, fB, cObj, by decide⟩

theorem test_ObjectAccessesBlock_11 : ∃ (s : State) (cx : Cx) (f : Fields) (c : Ctx), (s.Runs cx c) ∧ (useB.ok f = true) ∧ (s.heldByOrder cx c = false) ∧ (s.toTwin (addrI c f) = true) ∧ (s.pairOk = true) :=
  ⟨sTwA, cxS, fB, cTwA, by decide⟩

theorem test_ObjectAccessesBlock_12 : ∃ (s : State) (cx : Cx) (f : Fields) (c : Ctx), (s.Runs cx c) ∧ (useB.ok f = true) ∧ (s.heldByOrder cx c = true) :=
  ⟨sOrd, cx0, fB, cOrd, by decide⟩

theorem test_AccessReturns_1 : ∃ (s : State) (cx : Cx) (c : Ctx) (x : Access) (d : Word) (t : State), (s.Held cx c (.access x)) ∧ (x.lost = false) ∧ (x.made = none) ∧ (s.madeByTwin cx x = false) ∧ (s.answer cx c x = some ((0, 0), d, t)) ∧ (x.kind = .load ∨ t.sentSince s = false) ∧ (t.ctx? cx = some c) ∧ (c.ended = none) ∧ (c.kill = none) ∧ (c.refused = []) :=
  ⟨sAcc, cxS, cAcc, xAcc, 0, sAcc, by decide⟩

theorem test_AccessReturns_2 : ∃ (s : State) (cx : Cx) (c : Ctx) (x : Access) (r : Sub) (d : Word) (t : State), (s.Held cx c (.access x)) ∧ (x.lost = false) ∧ (x.made = none) ∧ (s.madeByTwin cx x = false) ∧ (s.answer cx c x = some (r, d, t)) ∧ (r ≠ (0, 0)) ∧ (t.ctx? cx = some c) ∧ (c.ended = none) ∧ (c.kill = none) :=
  ⟨sAccD, cx0, cAccD, xAccD, (0x7F, 5), 0, (sAccD.refused (whoOf cx0 cAccD) xAccD.addr.toNat [] (0x7F, 5)), by decide⟩

theorem test_AccessReturns_3 : ∃ (s : State) (cx : Cx) (c : Ctx) (x : Access) (r : TwinReply), (s.Held cx c (.access x)) ∧ (x.lost = false) ∧ (x.made = none) ∧ (s.madeByTwin cx x = true) ∧ (s.pairOk = true) ∧ ((r.code, r.sub) = (0, 0)) ∧ (c.kill = none) ∧ (c.refused = []) :=
  ⟨sAccT, cxS, cAccT, xAccT, rep0, by decide⟩

theorem test_AccessReturns_4 : ∃ (s : State) (cx : Cx) (c : Ctx) (x : Access) (_tw : Option TwinReply), (s.Held cx c (.access x)) ∧ (x.made = none) ∧ (x.lost = true ∨ (s.madeByTwin cx x = true ∧ s.pairOk = false)) ∧ (c.kill = none) :=
  ⟨sAccU, cxS, cAccT, xAccT, none, by decide⟩

theorem test_AtomicsReturnTheOldWord_1 : ∃ (s : State) (w : Who) (addr : Nat) (instr b c d : Word) (k : AccKind) (t : State), (k ≠ .load) ∧ (sharesAt addr = none) ∧ (segAddr addr = false) ∧ (s.access w addr instr k b c = ((0, 0), d, t)) :=
  ⟨sObj, (whoOf cxS cObj), xAcc.addr.toNat, 0, 5, 1, 0, .cas, sObj, by decide⟩

theorem test_AtomicsReturnTheOldWord_2 : ∃ (s : State) (w : Who) (addr : Nat) (instr b c d : Word) (k : AccKind) (t : State), (k ≠ .load) ∧ (segAddr addr = true) ∧ (s.access w addr instr k b c = ((0, 0), d, t)) :=
  ⟨sSegM, (whoOf cxS cSeg), (0x0C * 2 ^ 34 + 8195), 0, 5, 1, 5, .swap, (sSegM.segWrite 8195 5), by decide⟩

theorem test_AtomicsReturnTheOldWord_3 : ∃ (s : State) (w : Who) (addr : Nat) (_instr _c : Word) (ix : List Nat) (x : Buf), (sharesAt addr = some ix) ∧ (firstSub (s.authority w addr true) = none) ∧ (s.bufView ix = some x) ∧ (x.inUse = true) ∧ (x.shares < 65535) :=
  ⟨uBuf, (whoOf cxS cIss), (Reg.Buf.SHARES.addr [0, 7, 1]), 0, 0, [0, 7, 1], buf0, by decide⟩

theorem test_TicketsWaitedFor_1 : ∃ (s : State) (cx : Cx) (f : Fields) (c : Ctx) (w : Word) (e : Nat), (s.Runs cx c) ∧ (useOne.ok f = true) ∧ (s.viewTicket cx c (c.a f) = .done w (some e)) :=
  ⟨sTix, cxS, fOne, cTix, (cword 0 0), 3, by decide⟩

theorem test_TicketsWaitedFor_2 : ∃ (s : State) (cx : Cx) (f : Fields) (c : Ctx) (w : Word), (s.Runs cx c) ∧ (useOne.ok f = true) ∧ (s.viewTicket cx c (c.a f) = .done w none) :=
  ⟨sShT, cx0, fOne, cShT, (cword 0 7), by decide⟩

theorem test_TicketsWaitedFor_3 : ∃ (s : State) (cx : Cx) (f : Fields) (c : Ctx), (s.Runs cx c) ∧ (useOne.ok f = true) ∧ (s.viewTicket cx c (c.a f) = .running) :=
  ⟨sTixR, cxS, fOne, cTix, by decide⟩

theorem test_TicketsWaitedFor_4 : ∃ (s : State) (cx : Cx) (f : Fields) (c : Ctx), (s.Runs cx c) ∧ (useOne.ok f = true) ∧ (s.viewTicket cx c (c.a f) = .invalid) :=
  ⟨sRun, cx0, fOne, cRun, by decide⟩

theorem test_TicketsWaitedFor_5 : ∃ (s : State) (cx : Cx) (c : Ctx) (tk w : Word) (wd e : Nat), (s.Held cx c (.wait tk wd)) ∧ (s.viewTicket cx c tk = .done w (some e)) ∧ (c.kill = none) ∧ (c.refused = []) :=
  ⟨sTixW, cxS, cTixW, (ticketWord 3 tixDone), (cword 0 0), 1, 3, by decide⟩

theorem test_TicketsWaitedFor_6 : ∃ (s : State) (cx : Cx) (c : Ctx) (tk w : Word) (wd : Nat), (s.Held cx c (.wait tk wd)) ∧ (s.viewTicket cx c tk = .done w none) ∧ (c.kill = none) ∧ (c.refused = []) :=
  ⟨sShW, cx0, cShW, (sheetTicketWord 0 3), (cword 0 7), 1, by decide⟩

theorem test_Ordering_1 : ∃ (s : State) (cx : Cx) (f : Fields) (c : Ctx), (s.Runs cx c) ∧ (Use.ok {} f = true) :=
  ⟨sRun, cx0, fZ, cRun, by decide⟩

theorem test_Ordering_2 : ∃ (s : State) (cx : Cx) (f : Fields) (c : Ctx), (s.Runs cx c) ∧ (Use.ok {} f = true) ∧ (s.settled cx c = true) :=
  ⟨sRun, cx0, fZ, cRun, by decide⟩

theorem test_Ordering_3 : ∃ (s : State) (cx : Cx) (f : Fields) (c : Ctx), (s.Runs cx c) ∧ (Use.ok {} f = true) ∧ (s.settled cx c = false) :=
  ⟨sTixR, cxS, fZ, cTix, by decide⟩

theorem test_Ordering_4 : ∃ (s : State) (cx : Cx) (c : Ctx) (x : Access), (s.Held cx c (.heldAccess x)) ∧ (s.settled cx c = true) ∧ (s.toTwin x.addr = false) ∧ (s.madeAtUnit0 { x with lost := false } = false) :=
  ⟨sHeld, cxS, cHeld, xAcc, by decide⟩

theorem test_Ordering_5 : ∃ (s : State) (cx : Cx) (c : Ctx) (x : Access), (s.Held cx c (.heldAccess x)) ∧ (s.settled cx c = true) ∧ (s.toTwin x.addr = true) ∧ (s.pairOk = true) :=
  ⟨(tPair (tHand { cObj with block := .heldAccess xAccT, order := true }) 2), cxS, { cObj with block := .heldAccess xAccT, order := true }, xAccT, by decide⟩

theorem test_Ordering_6 : ∃ (s : State) (cx : Cx) (c : Ctx) (x : Access), (s.Held cx c (.heldAccess x)) ∧ (s.settled cx c = true) ∧ (s.toTwin x.addr = true) ∧ (s.pairOk = false) ∧ (s.madeAtUnit0 { x with lost := true } = false) :=
  ⟨((tHand { cObj with block := .heldAccess xAccT, order := true }).wr Reg.Bar.PAIRING [] 2), cxS, { cObj with block := .heldAccess xAccT, order := true }, xAccT, by decide⟩

theorem test_Ordering_7 : ∃ (s : State) (cx : Cx) (c : Ctx) (a v i : Word) (u t : State) (d : Ctx), (s.Held cx c (.heldStore a v i)) ∧ (s.settled cx c = true) ∧ (s.toTwin a = false) ∧ (d = { s.waited c 0 false with pc := c.pc + 1, block := .none, order := false }) ∧ (u = s.putCtx cx d) ∧ (u.storeWord (whoOf cx d) a.toNat i v = ((0, 0), t)) ∧ (t.ctx? cx = some d) ∧ (c.kill = none) ∧ (c.refused = []) :=
  ⟨sHeldS, cxS, cHeldS, BitVec.ofNat 40 (Reg.Key.TENANT.addr [70]), 0, 0, (sHeldS.putCtx cxS { cHeldS with pc := 11, block := .none, order := false }), (sHeldS.putCtx cxS { cHeldS with pc := 11, block := .none, order := false }), { cHeldS with pc := 11, block := .none, order := false }, by decide⟩

theorem test_Ordering_8 : ∃ (s : State) (cx : Cx) (c : Ctx) (a i : Word) (wd : Nat) (tw : Option TwinReply) (u : State) (d : Ctx), (s.Held cx c (.heldIssue a wd i tw)) ∧ (s.settled cx c = true) ∧ (u = s.issueAt cx { c with order := false } a wd i tw) ∧ (u.ctx? cx = some d) ∧ (d.block = .none) ∧ (d.kill = none) ∧ (d.refused = []) :=
  ⟨sHeldI, cx0, cHeldI, 0x200000, 0, 1, none, (sHeldI.raiseAt cx0 { cHeldI with block := .none, order := false, cycles := 3 } 0x7E 2 0x200000 0), { cHeldI with block := .none, order := false, pc := 0x40, cycles := 5 }, by decide⟩

theorem test_Ordering_9 : ∃ (s : State) (cx : Cx) (c : Ctx), (s.Held cx c .fence) ∧ (s.settled cx c = true) ∧ (c.kill = none) ∧ (c.refused = []) :=
  ⟨sFen, cxS, cFen, by decide⟩

theorem test_Ordering_10 : ∃ (s : State) (cx : Cx) (c : Ctx) (code sub : Nat), (s.Held cx c .ending) ∧ (c.ended = some (code, sub)) ∧ (s.settled cx c = true) ∧ (c.refused = []) :=
  ⟨sEnd, cxS, cEnd, 0, 0, by decide⟩

theorem test_Ordering_11 : ∃ (s : State) (cx : Cx) (c : Ctx) (code sub : Nat), (s.Held cx c .stopped) ∧ (c.ended = some (code, sub)) ∧ (s.settled cx c = true) :=
  ⟨(tHand { cEnd with block := .stopped }), cxS, { cEnd with block := .stopped }, 0, 0, by decide⟩

theorem test_TimeAndYield_1 : ∃ (s : State) (cx : Cx) (f : Fields) (c : Ctx), (s.Runs cx c) ∧ (useWd.ok f = true) :=
  ⟨sRun, cx0, fW, cRun, by decide⟩

theorem test_TimeAndYield_2 : ∃ (s : State) (cx : Cx) (f : Fields) (c : Ctx), (s.Runs cx c) ∧ (useOne.ok f = true) ∧ (sdiff (c.a f) s.nowW ≤ 0) :=
  ⟨sLate, cx0, fOne, cRun, by decide⟩

theorem test_TimeAndYield_3 : ∃ (s : State) (cx : Cx) (f : Fields) (c : Ctx), (s.Runs cx c) ∧ (useOne.ok f = true) ∧ (0 < sdiff (c.a f) s.nowW) :=
  ⟨sRun, cx0, fOne, cRun, by decide⟩

theorem test_TimeAndYield_4 : ∃ (s : State) (cx : Cx) (c : Ctx) (tm : Word) (wd : Nat) (u : State), (s.Held cx c (.untilTime tm wd)) ∧ (c.kill = none) ∧ (c.refused = []) ∧ (u = s.advanceTo (cueCycle (s.extOf tm))) :=
  ⟨sUnt, cxS, cUnt, 9, 1, (sUnt.advanceTo 16), by decide⟩

theorem test_TimeAndYield_5 : ∃ (s : State) (cx : Cx) (f : Fields) (c : Ctx) (z : Nat), (s.Runs cx c) ∧ (Use.ok {} f = true) ∧ (c.kind = .prompter z) :=
  ⟨sRun, cx0, fZ, cRun, 0, by decide⟩

theorem test_TimeAndYield_6 : ∃ (s : State) (cx : Cx) (f : Fields) (c : Ctx), (s.Runs cx c) ∧ (Use.ok {} f = true) ∧ (c.tree? = none) :=
  ⟨sObj, cxS, fZ, cObj, by decide⟩

theorem test_TimeAndYield_7 : ∃ (s : State) (cx : Cx) (f : Fields) (c : Ctx), (s.Runs cx c) ∧ (useImm.ok f = true) ∧ (s.dataWord cx 0 ≠ 0) ∧ ((s.dataWord cx 0).toNat < 2 ^ 17) ∧ (s.dataWord cx 5 = 0) :=
  ⟨sVec, cx0, fJ, cVec, by decide⟩

theorem test_ExceptionEntry_1 : ∃ (s : State) (cx : Cx) (_c : Ctx) (code sub _epc : Nat) (_addr _instr : Word) (_posted : Bool), (s.dataWord cx 0 ≠ 0) ∧ ((s.dataWord cx 0).toNat < 2 ^ 17) ∧ (s.dataWord cx 5 = 0) ∧ (code < 256) ∧ (sub < 256) :=
  ⟨sVec, cx0, cVec, 0x7E, 1, 10, 0, 0, false, by decide⟩

theorem test_BadEncodingsFault_1 : ∃ (s : State) (cx : Cx) (f : Fields) (c : Ctx), (s.Runs cx c) ∧ (f.imm ≠ 0) :=
  ⟨sRun, cx0, fI, cRun, by decide⟩

theorem test_BadEncodingsFault_2 : ∃ (s : State) (cx : Cx) (f : Fields) (c : Ctx), (s.Runs cx c) ∧ (useWd.ok f = true) ∧ (c.tree? = none) :=
  ⟨sObj, cxS, fW, cObj, by decide⟩

theorem test_BadEncodingsFault_3 : ∃ (s : State) (cx : Cx) (_f : Fields) (c : Ctx) (n : Nat), (s.ctx? cx = some c) ∧ (c.runs = true) ∧ (s.onCore cx = true) ∧ (s.fetchFault cx c = some (n, none)) :=
  ⟨sOff, cx0, fR, cOff, 3, by decide⟩

theorem test_BadEncodingsFault_4 : ∃ (s : State) (cx : Cx) (_f : Fields) (c : Ctx) (n : Nat) (w : Word), (s.ctx? cx = some c) ∧ (c.runs = true) ∧ (s.onCore cx = true) ∧ (s.fetchFault cx c = some (n, some w)) :=
  ⟨sUnd, cx0, fR, cUnd, 1, 0, by decide⟩

theorem test_BadEncodingsFault_5 : ∃ (s : State) (cx : Cx) (c : Ctx) (w : Word), (c.pc < c.icount) ∧ (c.code[c.pc]? = some w) ∧ (s.cpu.badCode.contains (cxKey cx * 2 ^ 17 + c.pc) = false) :=
  ⟨sUnd, cx0, cUnd, 0, by decide⟩

theorem test_BlockedContextsDoNothing_1 : ∃ (s : State) (cx : Cx) (_f : Fields), (∀ c, s.ctx? cx = some c → c.runs = false ∨ s.onCore cx = false) :=
  ⟨State.reset, cx0, fZ, by intro c h; simp [State.ctx?, State.reset, Map.get?] at h⟩

theorem test_SheetInstructions_1 : ∃ (s : State) (cx : Cx) (f : Fields) (c : Ctx) (z : Nat), (s.Runs cx c) ∧ (c.tree? = some z) ∧ (useGrant.ok f = true) ∧ (s.grantCode z ((c.a f).toNat % 4096) (s.grantEntry z ((c.a f).toNat % 4096) (c.b f).toNat (c.c3 f).toNat f.imm13) = 0) :=
  ⟨sPr, cx0, fGr, cPr, 0, by decide⟩

theorem test_SheetInstructions_2 : ∃ (s : State) (cx : Cx) (f : Fields) (c : Ctx) (z : Nat), (s.Runs cx c) ∧ (c.tree? = some z) ∧ (useGrant.ok f = true) ∧ (s.grantCode z ((c.a f).toNat % 4096) (s.grantEntry z ((c.a f).toNat % 4096) (c.b f).toNat (c.c3 f).toNat f.imm13) ≠ 0) :=
  ⟨sRun, cx0, fGr, cRun, 0, by decide⟩

theorem test_SheetInstructions_3 : ∃ (s : State) (cx : Cx) (f : Fields) (c : Ctx) (z : Nat), (s.Runs cx c) ∧ (c.tree? = some z) ∧ (useQuiet.ok f = true) ∧ (s.quietCode z (f.imm13 % 4) (if f.imm13 % 4 = 1 then (c.c3 f).toNat % 1024 else 0x3FF) (c.a f).toNat (c.b f).toNat = 0) :=
  ⟨sPr, cx0, fQu, cPr, 0, by decide⟩

theorem test_SheetInstructions_4 : ∃ (s : State) (cx : Cx) (f : Fields) (c : Ctx) (z : Nat), (s.Runs cx c) ∧ (c.tree? = some z) ∧ (useQuiet.ok f = true) ∧ (s.quietCode z (f.imm13 % 4) (if f.imm13 % 4 = 1 then (c.c3 f).toNat % 1024 else 0x3FF) (c.a f).toNat (c.b f).toNat ≠ 0) :=
  ⟨sRun, cx0, fQu, cRun, 0, by decide⟩

theorem test_SealStandingReport_1 : ∃ (s : State) (cx : Cx) (f : Fields) (c : Ctx) (z : Nat), (s.Runs cx c) ∧ (c.tree? = some z) ∧ (useWd.ok f = true) ∧ ((s.tree z).sealed = false) :=
  ⟨sPr, cx0, fW, cPr, 0, by decide⟩

theorem test_SealStandingReport_2 : ∃ (s : State) (cx : Cx) (f : Fields) (c : Ctx) (z : Nat), (s.Runs cx c) ∧ (c.tree? = some z) ∧ (useWd.ok f = true) ∧ ((s.tree z).sealed = true) :=
  ⟨(sPr.modTree 0 (fun tr => { tr with sealed := true })), cx0, fW, cPr, 0, by decide⟩

theorem test_SealStandingReport_3 : ∃ (s : State) (cx : Cx) (f : Fields) (c : Ctx) (z : Nat), (s.Runs cx c) ∧ (c.tree? = some z) ∧ (useStanding.ok f = true) ∧ (s.understudy z = false) ∧ (f.imm13.testBit 8 = false) ∧ (s.standingCode z (standingOf f c (s.rd Reg.Cue.FRAME [z])) = 0) ∧ ((s.tree z).standing.any (fun o => o.alloc == (c.a f).toNat % 4096 && o.start == (c.b f).toNat) = false) :=
  ⟨sPr, cx0, fSt, cPr, 0, by decide⟩

theorem test_SealStandingReport_4 : ∃ (s : State) (cx : Cx) (f : Fields) (c : Ctx) (z : Nat), (s.Runs cx c) ∧ (c.tree? = some z) ∧ (useStanding.ok f = true) ∧ (s.understudy z = false) ∧ (f.imm13.testBit 8 = false) ∧ (s.standingCode z (standingOf f c (s.rd Reg.Cue.FRAME [z])) = 0) ∧ ((s.tree z).standing.any (fun o => o.alloc == (c.a f).toNat % 4096 && o.start == (c.b f).toNat) = true) :=
  ⟨(sPr.modTree 0 (fun tr => { tr with standing := [standingOf fSt cPr 3] })), cx0, fSt, cPr, 0, by decide⟩

theorem test_SealStandingReport_5 : ∃ (s : State) (cx : Cx) (f : Fields) (c : Ctx) (z : Nat), (s.Runs cx c) ∧ (c.tree? = some z) ∧ (useStanding.ok f = true) ∧ (s.understudy z = false) ∧ (f.imm13.testBit 8 = false) ∧ (s.standingCode z (standingOf f c (s.rd Reg.Cue.FRAME [z])) ≠ 0) :=
  ⟨sRun, cx0, fSt, cRun, 0, by decide⟩

theorem test_SealStandingReport_6 : ∃ (s : State) (cx : Cx) (f : Fields) (c : Ctx) (z : Nat), (s.Runs cx c) ∧ (c.tree? = some z) ∧ (useStanding.ok f = true) ∧ (s.understudy z = false) ∧ (f.imm13.testBit 8 = true) ∧ ((s.tree z).standing.any (fun o => o.alloc == (c.a f).toNat % 4096 && o.start == (c.b f).toNat) = true) :=
  ⟨(sPr.modTree 0 (fun tr => { tr with standing := [{ standingOf fSt cPr 0 with period := 3 }] })), cx0, fSd, cPr, 0, by decide⟩

theorem test_SealStandingReport_7 : ∃ (s : State) (cx : Cx) (f : Fields) (c : Ctx) (z : Nat), (s.Runs cx c) ∧ (c.tree? = some z) ∧ (useStanding.ok f = true) ∧ (s.understudy z = false) ∧ (f.imm13.testBit 8 = true) ∧ ((s.tree z).standing.any (fun o => o.alloc == (c.a f).toNat % 4096 && o.start == (c.b f).toNat) = false) :=
  ⟨sPr, cx0, fSd, cPr, 0, by decide⟩

theorem test_SealStandingReport_8 : ∃ (s : State) (cx : Cx) (f : Fields) (c : Ctx) (z : Nat), (s.Runs cx c) ∧ (c.tree? = some z) ∧ (useStanding.ok f = true) ∧ (s.understudy z = true) :=
  ⟨((sPr.wr Reg.Bar.PAIRING [] 2).wr Reg.Pon.LIT [0] 0), cx0, fSt, cPr, 0, by decide⟩

theorem test_SealStandingReport_9 : ∃ (s : State) (cx : Cx) (f : Fields) (c : Ctx) (z : Nat), (s.Runs cx c) ∧ (c.tree? = some z) ∧ (useOne.ok f = true) :=
  ⟨sPr, cx0, fOne, cPr, 0, by decide⟩

theorem test_RefusedStores_1 : ∃ (s : State) (cx : Cx) (c : Ctx) (r : Refused) (rest : List Refused), (s.Held cx c .none) ∧ (c.refused = r :: rest) :=
  ⟨sRef, cx0, cRef, ⟨0x7F, 6, 0, 0, false⟩, [], by decide⟩

theorem test_RefusedStores_2 : ∃ (s : State) (cx : Cx) (c : Ctx) (r : Refused) (rest : List Refused), (s.Held cx c .fence) ∧ (c.refused = r :: rest) :=
  ⟨(tWith cx0 { cRef with block := .fence }), cx0, { cRef with block := .fence }, ⟨0x7F, 6, 0, 0, false⟩, [], by decide⟩

theorem test_RefusedStores_3 : ∃ (s : State) (cx : Cx) (c : Ctx) (r : Refused) (rest : List Refused) (code sub : Nat), (s.Held cx c .ending) ∧ (c.refused = r :: rest) ∧ (c.kill = some (code, sub)) :=
  ⟨(tWith cx0 { cRef with block := .ending, kill := some (0x7E, 9) }), cx0, { cRef with block := .ending, kill := some (0x7E, 9) }, ⟨0x7F, 6, 0, 0, false⟩, [], 0x7E, 9, by decide⟩

theorem test_RefusedStores_4 : ∃ (s : State) (cx : Cx) (c : Ctx) (r : Refused) (rest : List Refused), (s.Held cx c .ending) ∧ (c.refused = r :: rest) ∧ (c.kill = none) :=
  ⟨(tWith cx0 { cRef with block := .ending }), cx0, { cRef with block := .ending }, ⟨0x7F, 6, 0, 0, false⟩, [], by decide⟩

theorem test_RefusedStores_5 : ∃ (s : State) (cx : Cx) (c : Ctx) (r : Refused) (rest : List Refused), (s.Held cx c .stopped) ∧ (c.refused = r :: rest) :=
  ⟨(tWith cx0 { cRef with block := .stopped }), cx0, { cRef with block := .stopped }, ⟨0x7F, 6, 0, 0, false⟩, [], by decide⟩

theorem test_TicketsComplete_1 : ∃ (o : Op) (u : State) (t : Tix) (code _result : Nat), (o.e ≤ 4096) ∧ (u.cpu.tickets.get? o.e = some t) ∧ (t.gen = o.g) ∧ (t.orphan = false) ∧ (code < 256) :=
  ⟨opT, uT, tixRun, 0, 3, by decide⟩

theorem test_TicketsComplete_2 : ∃ (o : Op) (u : State) (t : Tix) (_code _result : Nat), (o.e ≤ 4096) ∧ (u.cpu.tickets.get? o.e = some t) ∧ (t.gen = o.g) ∧ (t.orphan = true) :=
  ⟨opT, (tTix State.reset { tixRun with orphan := true }), { tixRun with orphan := true }, 0, 3, by decide⟩

theorem test_TableOperations_1 : ∃ (s : State) (cx : Cx) (f : Fields) (c : Ctx) (ws : List Word) (_tw : Option TwinReply), (s.Issues cx c f ws) ∧ (dbits ws 0 0 8 = 0x01) :=
  ⟨(sIss wIns), cxS, fIs, cIss, wIns, none, by decide⟩

theorem test_TableOperations_2 : ∃ (s : State) (cx : Cx) (f : Fields) (c : Ctx) (ws : List Word) (_tw : Option TwinReply), (s.Issues cx c f ws) ∧ (dbits ws 0 0 8 = 0x02) :=
  ⟨(sIss wDel), cxS, fIs, cIss, wDel, none, by decide⟩

theorem test_TableOperations_3 : ∃ (s : State) (cx : Cx) (f : Fields) (c : Ctx) (ws : List Word) (_tw : Option TwinReply), (s.Issues cx c f ws) ∧ (dbits ws 0 0 8 = 0x03) :=
  ⟨(sIss wRead), cxS, fIs, cIss, wRead, none, by decide⟩

theorem test_TableOperations_4 : ∃ (s : State) (cx : Cx) (f : Fields) (c : Ctx) (ws : List Word) (_tw : Option TwinReply), (s.Starts cx c f ws 0x01) ∧ (s.pairing = 0) ∧ (dword ws 1 = fwdTable) ∧ (dbits ws 2 0 4 = 2) ∧ (dbits ws 2 4 4 = 1) ∧ ((s.tableInsert (whoOf cx c).tenant (dword ws 3) (dword ws 4) (dword ws 5)).1 = 0) :=
  ⟨(sIssF wIns), cxS, fIs, cIss, wIns, none, by decide⟩

theorem test_TableOperations_5 : ∃ (s : State) (cx : Cx) (f : Fields) (c : Ctx) (ws : List Word) (_tw : Option TwinReply) (h : Nat) (e : FEnt), (s.Starts cx c f ws 0x02) ∧ (s.pairing = 0) ∧ (dword ws 1 = fwdTable) ∧ (dbits ws 0 14 1 = 0) ∧ (s.entAt (dword ws 2) = some (h, e)) ∧ ((whoOf cx c).tenant = 0 ∨ e.tenant = (whoOf cx c).tenant) ∧ (e.parity = false) ∧ (e.struck = false) :=
  ⟨(sIssF wDel), cxS, fIs, cIss, wDel, none, 0, fEnt0, by decide⟩

theorem test_TableOperations_6 : ∃ (s : State) (cx : Cx) (f : Fields) (c : Ctx) (ws : List Word) (_tw : Option TwinReply) (h : Nat) (e : FEnt), (s.Starts cx c f ws 0x02) ∧ (s.pairing = 0) ∧ (dword ws 1 = fwdTable) ∧ (dbits ws 0 14 1 = 1) ∧ (dbits ws 2 0 4 = 2) ∧ (fwdKeyOk (dword ws 3) (dword ws 4) = true) ∧ (∀ x ∈ s.fwd.table, x.2.struck = false) ∧ (s.entOf (dword ws 3 % 2 ^ 18) (fwdMac (dword ws 3) (dword ws 4)) = some (h, e)) ∧ ((whoOf cx c).tenant = 0 ∨ e.tenant = (whoOf cx c).tenant) :=
  ⟨(sIssF wDelK), cxS, fIs, cIss, wDelK, none, 0, fEnt0, by decide⟩

theorem test_TableOperations_7 : ∃ (s : State) (cx : Cx) (f : Fields) (c : Ctx) (ws : List Word) (_tw : Option TwinReply) (h : Nat) (e : FEnt), (s.Starts cx c f ws 0x03) ∧ (dword ws 1 = fwdTable) ∧ (dword ws 3 + 3 ≤ c.dwords) ∧ (s.entAt (dword ws 2) = some (h, e)) ∧ ((whoOf cx c).tenant = 0 ∨ e.tenant = (whoOf cx c).tenant) ∧ (e.parity = false) ∧ (e.struck = false) :=
  ⟨(sIssF wRead), cxS, fIs, cIss, wRead, none, 0, fEnt0, by decide⟩

theorem test_TableOperations_8 : ∃ (o : Op) (u : State) (code r : Nat) (t : State), (o.Plain 0x01 u) ∧ (o.table u = none) ∧ (dbits o.ws 2 0 4 = 2) ∧ (dbits o.ws 2 4 4 = 1) ∧ (u.pairing = 0) ∧ (u.tableInsert o.w.tenant (dword o.ws 3) (dword o.ws 4) (dword o.ws 5) = (code, r, t)) ∧ (code ≠ 0x7F) :=
  ⟨(opW wIns), uFwd, 0, (handleOf 0 fEnt0), (uFwd.tableInsert 0 5 6 0x10).2.2, by decide⟩

theorem test_TableOperations_9 : ∃ (o : Op) (u : State) (h : Nat) (e : FEnt), (o.Plain 0x02 u) ∧ (o.table u = none) ∧ (dbits o.ws 0 14 1 = 0) ∧ (u.pairing = 0) ∧ (u.entAt (dword o.ws 2) = some (h, e)) ∧ (o.w.tenant = 0 ∨ e.tenant = o.w.tenant) ∧ (e.parity = false) ∧ (e.struck = false) :=
  ⟨(opW wDel), uFwd, 0, fEnt0, by decide⟩

theorem test_TableOperations_10 : ∃ (o : Op) (u : State) (h : Nat) (e : FEnt), (o.Plain 0x02 u) ∧ (o.table u = none) ∧ (dbits o.ws 0 14 1 = 0) ∧ (u.pairing = 0) ∧ (u.entAt (dword o.ws 2) = some (h, e)) ∧ (o.w.tenant = 0 ∨ e.tenant = o.w.tenant) ∧ (e.parity = false) ∧ (e.struck = true) :=
  ⟨(opW wDel), uFwdS, 0, { fEnt0 with struck := true }, by decide⟩

theorem test_TableOperations_11 : ∃ (o : Op) (u : State), (o.Plain 0x02 u) ∧ (o.table u = none) ∧ (dbits o.ws 0 14 1 = 0) ∧ (u.pairing = 0) ∧ (u.entAt (dword o.ws 2) = none) :=
  ⟨(opW wDel), uT, by decide⟩

theorem test_TableOperations_12 : ∃ (o : Op) (u : State) (h : Nat) (e : FEnt) (t : State), (o.Plain 0x03 u) ∧ (o.table u = none) ∧ (o.c.covers (dword o.ws 3) 3 = true) ∧ (u.entAt (dword o.ws 2) = some (h, e)) ∧ (o.w.tenant = 0 ∨ e.tenant = o.w.tenant) ∧ (e.parity = false) ∧ (e.struck = false) ∧ (u.writeLocals o.cx o.c (dword o.ws 3) [BitVec.ofNat 40 (fwdKey0 e.svc e.mac), BitVec.ofNat 40 (e.mac % 2 ^ 32), BitVec.ofNat 40 e.data] = (none, t)) :=
  ⟨(opW wRead), uFwd, 0, fEnt0, (uFwd.writeLocals cxS cIss 20 [BitVec.ofNat 40 (fwdKey0 fEnt0.svc fEnt0.mac), BitVec.ofNat 40 (fEnt0.mac % 2 ^ 32), BitVec.ofNat 40 fEnt0.data]).2, by decide⟩

theorem test_TableOperations_13 : ∃ (o : Op) (u : State), (layoutOk (dbits o.ws 0 0 8) o.ws = true) ∧ (o.c.tree? = none) ∧ (o.onTwin (dbits o.ws 0 0 8) u = false) ∧ (dbits o.ws 0 0 8 ∈ [0x01, 0x02, 0x10, 0x11]) ∧ (u.issuesAtUnit0 (dbits o.ws 0 0 8) = true) :=
  ⟨(opW wDel), (tPair { uT with env := { uT.env with unit := 1 } } 1), by decide⟩

theorem test_TableOperations_14 : ∃ (o : Op) (u : State), (layoutOk (dbits o.ws 0 0 8) o.ws = true) ∧ (o.c.tree? = none) ∧ (o.onTwin (dbits o.ws 0 0 8) u = true) ∧ (dbits o.ws 0 0 8 ≠ 0x03) ∧ (u.pairOk = false) :=
  ⟨(opW [0x302, wTab + 0x8000000000, 0x100000]), (uT.wr Reg.Bar.PAIRING [] 2), by decide⟩

theorem test_KeyOperations_1 : ∃ (s : State) (cx : Cx) (f : Fields) (c : Ctx) (ws : List Word) (_tw : Option TwinReply), (s.Issues cx c f ws) ∧ (dbits ws 0 0 8 = 0x10) :=
  ⟨(sIss wKw), cxS, fIs, cIss, wKw, none, by decide⟩

theorem test_KeyOperations_2 : ∃ (s : State) (cx : Cx) (f : Fields) (c : Ctx) (ws : List Word) (_tw : Option TwinReply), (s.Issues cx c f ws) ∧ (dbits ws 0 0 8 = 0x11) :=
  ⟨(sIss wKe), cxS, fIs, cIss, wKe, none, by decide⟩

theorem test_KeyOperations_3 : ∃ (s : State) (cx : Cx) (f : Fields) (c : Ctx) (ws : List Word) (tw : Option TwinReply) (n k : Nat), (s.Starts cx c f ws 0x10) ∧ (s.pairing = 0 ∨ (s.pairOk = true ∧ s.env.unit = 0)) ∧ (s.toTwin (ws.getD 1 0) = false) ∧ (keySlotAt (dword ws 1) = some n) ∧ ((s.opOf cx c f ws tw).keyAuthority n s = none) ∧ (dbits ws 2 0 18 ≤ 147455) ∧ ((bankOf ws).fits n = true) ∧ (s.wrappingKey n = some k) :=
  ⟨((sIss wKw).wr Reg.Key.STATE [0] 1), cxS, fIs, cIss, wKw, none, 70, 0, by decide⟩

theorem test_KeyOperations_4 : ∃ (s : State) (cx : Cx) (f : Fields) (c : Ctx) (ws : List Word) (tw : Option TwinReply) (n : Nat), (s.Starts cx c f ws 0x11) ∧ (s.pairing = 0 ∨ (s.pairOk = true ∧ s.env.unit = 0)) ∧ (s.toTwin (ws.getD 1 0) = false) ∧ (keySlotAt (dword ws 1) = some n) ∧ ((s.opOf cx c f ws tw).keyAuthority n s = none) :=
  ⟨(sIss wKe), cxS, fIs, cIss, wKe, none, 70, by decide⟩

theorem test_KeyOperations_5 : ∃ (o : Op) (u : State) (n k : Nat), (o.Plain 0x10 u) ∧ (keySlotAt (dword o.ws 1) = some n) ∧ (o.keyAuthority n u = none) ∧ (dbits o.ws 2 0 18 ≤ 147455) ∧ (u.pairing = 0 ∨ (u.pairOk = true ∧ u.env.unit = 0)) ∧ ((bankOf o.ws).fits n = true) ∧ (u.wrappingKey n = some k) :=
  ⟨(opW wKw), (uT.wr Reg.Key.STATE [0] 1), 70, 0, by decide⟩

theorem test_KeyOperations_6 : ∃ (o : Op) (u : State) (n : Nat), (o.Plain 0x11 u) ∧ (keySlotAt (dword o.ws 1) = some n) ∧ (o.keyAuthority n u = none) ∧ (u.pairing = 0 ∨ (u.pairOk = true ∧ u.env.unit = 0)) :=
  ⟨(opW wKe), uT, 70, by decide⟩

theorem test_KeyOperations_7 : ∃ (o : Op) (u : State) (n : Nat), (o.Plain 0x10 u) ∧ (keySlotAt (dword o.ws 1) = some n) ∧ (o.keyAuthority n u = none) ∧ (dbits o.ws 2 0 18 ≤ 147455) ∧ (u.pairing ≠ 0) ∧ (u.pairOk = false) ∧ ((bankOf o.ws).fits n = true) ∧ ((u.wrappingKey n).isSome = true) :=
  ⟨(opW wKw), ((uT.wr Reg.Key.STATE [0] 1).wr Reg.Bar.PAIRING [] 1), 70, by decide⟩

theorem test_KeyOperations_8 : ∃ (o : Op) (u : State) (n : Nat), (o.Plain 0x11 u) ∧ (keySlotAt (dword o.ws 1) = some n) ∧ (o.keyAuthority n u = none) ∧ (u.pairing ≠ 0) ∧ (u.pairOk = false) :=
  ⟨(opW wKe), (uT.wr Reg.Bar.PAIRING [] 1), 70, by decide⟩

theorem test_KeyOperations_9 : ∃ (s : State) (n : Nat) (b : Bank), (n < 147456) ∧ (s.flag Reg.Key.SWAP_PEND [n] = true) ∧ (s.rd Reg.Key.INFLIGHT [n] = 0) ∧ ((s.slot n).shadow = some b) ∧ (∀ r ∈ s.cipher.held, r.slot ≠ n) ∧ (s.cipher.waiting = []) ∧ (b.mode < 16) :=
  ⟨sSwap, 70, bank0, by decide⟩

theorem test_KeyOperations_10 : ∃ (s : State) (n e g : Nat) (b : Bank) (x : Tix), (n < 147456) ∧ (s.flag Reg.Key.SWAP_PEND [n] = true) ∧ (s.rd Reg.Key.INFLIGHT [n] = 0) ∧ ((s.slot n).shadow = some b) ∧ ((s.slot n).tix = [⟨e, g, .swapped, 1, 0⟩]) ∧ (s.cipher.held = []) ∧ (s.cipher.waiting = []) ∧ (s.pairing = 0) ∧ (e ≤ 4096) ∧ (s.cpu.tickets.get? e = some x) ∧ (x.gen = g) ∧ (x.orphan = false) :=
  ⟨(uT.putSlot 70 { emptySlot with shadow := some bank0, tix := [⟨3, 1, .swapped, 1, 0⟩] }).wr Reg.Key.SWAP_PEND [70] 1, 70, 3, 1, bank0, tixRun, by decide⟩

theorem test_KeyOperations_11 : ∃ (s : State) (n e g : Nat) (x : Tix), (n < 147456) ∧ (s.flag Reg.Key.SWAP_PEND [n] = false) ∧ (s.rd Reg.Key.INFLIGHT [n] = 0) ∧ ((s.slot n).ops = [.erase]) ∧ ((s.slot n).tix = [⟨e, g, .erased, 0, 0⟩]) ∧ (s.pairing = 0) ∧ (e ≤ 4096) ∧ (s.cpu.tickets.get? e = some x) ∧ (x.gen = g) ∧ (x.orphan = false) :=
  ⟨sEra, 70, 3, 1, tixRun, by decide⟩

theorem test_CopyAndQuery_1 : ∃ (s : State) (cx : Cx) (f : Fields) (c : Ctx) (ws : List Word) (_tw : Option TwinReply), (s.Issues cx c f ws) ∧ (dbits ws 0 0 8 = 0x20) :=
  ⟨(sIss wCpy), cxS, fIs, cIss, wCpy, none, by decide⟩

theorem test_CopyAndQuery_2 : ∃ (s : State) (cx : Cx) (f : Fields) (c : Ctx) (ws : List Word) (_tw : Option TwinReply), (s.Issues cx c f ws) ∧ (dbits ws 0 0 8 = 0x21) :=
  ⟨(sIss wPbq), cxS, fIs, cIss, wPbq, none, by decide⟩

theorem test_CopyAndQuery_3 : ∃ (s : State) (cx : Cx) (f : Fields) (c : Ctx) (ws : List Word) (_tw : Option TwinReply), (s.Starts cx c f ws 0x20) ∧ (dword ws 3 ≠ 0) ∧ (dbits ws 0 14 1 = 1) ∧ (dbits ws 0 15 1 = 1) ∧ (dword ws 1 + dword ws 3 ≤ c.dwords) ∧ (dword ws 2 + dword ws 3 ≤ c.dwords) ∧ (∀ i < dword ws 3, s.cpu.badData.contains (memBase cx + (dword ws 1 + i)) = false) ∧ (c.refused = []) :=
  ⟨(sIss wCpy), cxS, fIs, cIss, wCpy, none, by decide⟩

theorem test_CopyAndQuery_4 : ∃ (s : State) (cx : Cx) (f : Fields) (c : Ctx) (ws : List Word) (_tw : Option TwinReply), (s.Starts cx c f ws 0x21) ∧ (dbits ws 1 14 10 ≤ 1019 ∨ dbits ws 1 14 10 = 0x3FF) ∧ (s.flag Reg.Mem.MEM_OPEN [] = true) ∧ (dword ws 4 + max 1 (s.pbQuery (queryOf ws) (whoOf cx c).tenant).1.length ≤ c.dwords) :=
  ⟨((sIss wPbq).wr Reg.Mem.MEM_OPEN [] 1), cxS, fIs, cIss, wPbq, none, by decide⟩

theorem test_CopyAndQuery_5 : ∃ (o : Op) (_u : State), (dbits o.ws 0 0 8 = 0x20) ∧ (layoutOk 0x20 o.ws = true) ∧ (dword o.ws 3 ≠ 0) ∧ (dbits o.ws 0 14 1 = 1) ∧ (dbits o.ws 0 15 1 = 1) ∧ (o.c.covers (dword o.ws 1) (dword o.ws 3) = true) ∧ (o.c.covers (dword o.ws 2) (dword o.ws 3) = true) :=
  ⟨(opW wCpy), uT, by decide⟩

theorem test_CopyAndQuery_6 : ∃ (o : Op) (u : State), (o.Plain 0x20 u) ∧ (dword o.ws 3 ≠ 0) ∧ (dbits o.ws 0 14 1 = 0) ∧ (dbits o.ws 0 15 1 = 1) ∧ (u.toTwin (BitVec.ofNat 40 (dword o.ws 1)) = false) ∧ (o.c.covers (dword o.ws 2) (dword o.ws 3) = true) ∧ (firstSub (o.sourceChecks (dword o.ws 1) (dword o.ws 3) u) = none) :=
  ⟨(opW wCpo), uT, by decide⟩

theorem test_CopyAndQuery_7 : ∃ (o : Op) (u : State), (o.Plain 0x20 u) ∧ (dword o.ws 3 ≠ 0) ∧ (dbits o.ws 0 14 1 = 1) ∧ (dbits o.ws 0 15 1 = 0) ∧ (u.toTwin (BitVec.ofNat 40 (dword o.ws 2)) = false) ∧ (o.c.covers (dword o.ws 1) (dword o.ws 3) = true) ∧ (firstSub (o.destChecks (dword o.ws 2) (dword o.ws 3) (fun i => o.peek true (dword o.ws 1 + i) u) u) = none) :=
  ⟨(opW wCpd), uT, by decide⟩

theorem test_CopyAndQuery_8 : ∃ (o : Op) (u : State) (sub : Nat), (o.Plain 0x20 u) ∧ (dword o.ws 3 ≠ 0) ∧ (dbits o.ws 0 14 1 = 1) ∧ (dbits o.ws 0 15 1 = 0) ∧ (u.toTwin (BitVec.ofNat 40 (dword o.ws 2)) = false) ∧ (o.c.covers (dword o.ws 1) (dword o.ws 3) = true) ∧ (firstSub (o.destChecks (dword o.ws 2) (dword o.ws 3) (fun i => o.peek true (dword o.ws 1 + i) u) u) = some (0x7F, sub)) :=
  ⟨(opW wCpd), (uT.setDataWord cxS 20 0xFF), 6, by decide⟩

theorem test_CopyAndQuery_9 : ∃ (o : Op) (a b n : Nat) (_u : State), (0 < n) ∧ (a + n ≤ o.c.dwords) ∧ (b + n ≤ o.c.dwords) :=
  ⟨opT, 20, 24, 8, uT, by decide⟩

theorem test_CopyAndQuery_10 : ∃ (o : Op) (u : State), (o.Plain 0x20 u) ∧ (dword o.ws 3 = 0) ∧ (dbits o.ws 0 14 1 = 1) ∧ (dbits o.ws 0 15 1 = 1) :=
  ⟨(opW wCp0), uT, by decide⟩

theorem test_CopyAndQuery_11 : ∃ (o : Op) (u : State) (vs : List Word) (r : Nat) (v t : State), (o.Plain 0x21 u) ∧ (dbits o.ws 1 14 10 ≤ 1019 ∨ dbits o.ws 1 14 10 = 0x3FF) ∧ (u.flag Reg.Mem.MEM_OPEN [] = true) ∧ (u.pbQuery (queryOf o.ws) o.w.tenant = (vs, r, v)) ∧ (o.c.covers (dword o.ws 4) (max 1 vs.length) = true) ∧ (v.writeLocals o.cx o.c (dword o.ws 4) vs = (none, t)) ∧ (o.w.kind = .script ∨ o.w.kind = .system) :=
  ⟨(opW wPbq), uPb, [], 0, (uPb.pbQuery (queryOf wPbq) 0).2.2, (uPb.pbQuery (queryOf wPbq) 0).2.2, by decide⟩

theorem test_BufferOperations_1 : ∃ (s : State) (cx : Cx) (f : Fields) (c : Ctx) (ws : List Word) (_tw : Option TwinReply), (s.Issues cx c f ws) ∧ (dbits ws 0 0 8 = 0x30) :=
  ⟨(sIss wBf), cxS, fIs, cIss, wBf, none, by decide⟩

theorem test_BufferOperations_2 : ∃ (s : State) (cx : Cx) (f : Fields) (c : Ctx) (ws : List Word) (_tw : Option TwinReply), (s.Issues cx c f ws) ∧ (dbits ws 0 0 8 = 0x31) :=
  ⟨(sIss wBr), cxS, fIs, cIss, wBr, none, by decide⟩

theorem test_BufferOperations_3 : ∃ (s : State) (cx : Cx) (f : Fields) (c : Ctx) (ws : List Word) (tw : Option TwinReply) (k : Nat), (s.Starts cx c f ws 0x30) ∧ (s.toTwin (ws.getD 1 0) = false) ∧ ((s.opOf cx c f ws tw).bufChecks s = none) ∧ (s.liveRef (dword ws 1) = some k) ∧ (ownerMatches (s.issuerOf (whoOf cx c)).1 (s.issuerOf (whoOf cx c)).2 (s.buf k).owner = true) ∧ ((s.buf k).shares ≤ 1) :=
  ⟨{ sIss wBf with bufs := uBuf.bufs }, cxS, fIs, cIss, wBf, none, 7, by decide⟩

theorem test_BufferOperations_4 : ∃ (s : State) (cx : Cx) (f : Fields) (c : Ctx) (ws : List Word) (tw : Option TwinReply) (k : Nat), (s.Starts cx c f ws 0x31) ∧ (s.toTwin (ws.getD 1 0) = false) ∧ ((s.opOf cx c f ws tw).bufChecks s = none) ∧ (s.liveRef (dword ws 1) = some k) ∧ (ownerMatches (s.issuerOf (whoOf cx c)).1 (s.issuerOf (whoOf cx c)).2 (s.buf k).owner = false) ∧ (2 ≤ (s.buf k).shares) :=
  ⟨{ sIss wBr with bufs := uBufO.bufs }, cxS, fIs, cIss, wBr, none, 7, by decide⟩

theorem test_BufferOperations_5 : ∃ (o : Op) (u : State) (k : Nat), (o.Plain 0x30 u) ∧ (o.bufChecks u = none) ∧ (u.liveRef (dword o.ws 1) = some k) ∧ (ownerMatches (u.issuerOf o.w).1 (u.issuerOf o.w).2 (u.buf k).owner = true) ∧ ((u.buf k).shares ≤ 1) :=
  ⟨(opW wBf), uBuf, 7, by decide⟩

theorem test_BufferOperations_6 : ∃ (o : Op) (u : State) (k : Nat), (o.Plain 0x30 u) ∧ (o.bufChecks u = none) ∧ (u.liveRef (dword o.ws 1) = some k) ∧ (ownerMatches (u.issuerOf o.w).1 (u.issuerOf o.w).2 (u.buf k).owner = false) :=
  ⟨(opW wBf), uBufO, 7, by decide⟩

theorem test_BufferOperations_7 : ∃ (o : Op) (u : State), (o.Plain 0x30 u) ∧ (o.bufChecks u = none) ∧ (u.liveRef (dword o.ws 1) = none) :=
  ⟨(opW wBf), uT, by decide⟩

theorem test_BufferOperations_8 : ∃ (o : Op) (u : State) (k : Nat), (o.Plain 0x31 u) ∧ (o.bufChecks u = none) ∧ (u.liveRef (dword o.ws 1) = some k) ∧ (ownerMatches (u.issuerOf o.w).1 (u.issuerOf o.w).2 (u.buf k).owner = false) ∧ (2 ≤ (u.buf k).shares) :=
  ⟨(opW wBr), uBufO, 7, by decide⟩

theorem test_BufferOperations_9 : ∃ (s : State) (k : Nat), (k / 4194304 < 4) ∧ (s.reh.lent.contains k = false) :=
  ⟨uBuf, 7, by decide⟩

theorem test_Cues_1 : ∃ (s : State) (cx : Cx) (f : Fields) (c : Ctx) (ws : List Word) (_tw : Option TwinReply), (s.Issues cx c f ws) ∧ (dbits ws 0 0 8 = 0x40) :=
  ⟨(sIss wCue), cxS, fIs, cIss, wCue, none, by decide⟩

theorem test_Cues_2 : ∃ (s : State) (cx : Cx) (f : Fields) (c : Ctx) (ws : List Word) (_tw : Option TwinReply), (s.Starts cx c f ws 0x40) ∧ (dbits ws 0 14 1 = 0) ∧ (s.toTwin (ws.getD 2 0) = false) ∧ (firstSub (s.authority (whoOf cx c) (ws.getD 2 0).toNat true) = none) ∧ (0 < sdiff (ws.getD 1 0) s.nowW) :=
  ⟨(sIss wCue), cxS, fIs, cIss, wCue, none, by decide⟩

theorem test_Cues_3 : ∃ (s : State) (cx : Cx) (f : Fields) (c : Ctx) (ws : List Word) (_tw : Option TwinReply), (s.Starts cx c f ws 0x40) ∧ (dbits ws 0 14 1 = 0) ∧ (s.toTwin (ws.getD 2 0) = false) ∧ (firstSub (s.authority (whoOf cx c) (ws.getD 2 0).toNat true) = none) ∧ (sdiff (ws.getD 1 0) s.nowW < 0) ∧ ((s.nowW - ws.getD 1 0).toNat ≤ (if dbits ws 4 0 31 = 0 then 777600 else dbits ws 4 0 31)) :=
  ⟨{ sIss wCue with ext := 100 }, cxS, fIs, cIss, wCue, none, by decide⟩

theorem test_Cues_4 : ∃ (o : Op) (u : State), (o.Plain 0x40 u) ∧ (dbits o.ws 0 14 1 = 0) ∧ (u.toTwin (o.ws.getD 2 0) = false) ∧ (firstSub (u.authority o.w (o.ws.getD 2 0).toNat true) = none) ∧ (0 < sdiff (o.ws.getD 1 0) u.nowW) ∧ (o.w.kind = .script ∨ o.w.kind = .system) :=
  ⟨(opW wCue), uT, by decide⟩

theorem test_Cues_5 : ∃ (o : Op) (u : State), (o.Plain 0x40 u) ∧ (dbits o.ws 0 14 1 = 0) ∧ (u.toTwin (o.ws.getD 2 0) = false) ∧ (firstSub (u.authority o.w (o.ws.getD 2 0).toNat true) = none) ∧ (sdiff (o.ws.getD 1 0) u.nowW < 0) ∧ ((u.nowW - o.ws.getD 1 0).toNat ≤ (if dbits o.ws 4 0 31 = 0 then 777600 else dbits o.ws 4 0 31)) ∧ (o.w.kind = .script ∨ o.w.kind = .system) :=
  ⟨(opW wCueP), { uT with ext := 100 }, by decide⟩

theorem test_Cues_6 : ∃ (o : Op) (u : State), (o.Plain 0x40 u) ∧ (dbits o.ws 0 14 1 = 0) ∧ (u.toTwin (o.ws.getD 2 0) = false) ∧ (firstSub (u.authority o.w (o.ws.getD 2 0).toNat true) = none) ∧ (sdiff (o.ws.getD 1 0) u.nowW < 0) ∧ ((if dbits o.ws 4 0 31 = 0 then 777600 else dbits o.ws 4 0 31) < (u.nowW - o.ws.getD 1 0).toNat) ∧ (o.w.kind = .script ∨ o.w.kind = .system) :=
  ⟨(opW wCueP), { uT with ext := 1000000 }, by decide⟩

theorem test_Cues_7 : ∃ (s : State) (q : Cue) (before after : List Cue) (_tw : Option TwinReply), (s.ptp.cues = before ++ q :: after) ∧ (∀ r ∈ before, r.entry ≠ q.entry) ∧ (s.cueReady before q after = true) ∧ (q.port = none) :=
  ⟨sCue, cue0, [], [], none, by decide⟩

theorem test_Cues_8 : ∃ (s : State) (q : Cue) (p : Nat) (before after : List Cue) (_tw : Option TwinReply), (s.ptp.cues = before ++ q :: after) ∧ (∀ r ∈ before, r.entry ≠ q.entry) ∧ (s.cueReady before q after = true) ∧ (q.port = some p) :=
  ⟨sCueB, cueB, 0, [], [], none, by decide⟩

theorem test_Cues_9 : ∃ (s t : State) (q : Cue) (x : Tix) (_tw : Option TwinReply), (s.toTwin q.target = false) ∧ (s.cpu.tickets.get? q.entry = some x) ∧ (x.orphan = false) ∧ (s.storeWord { cx := q.cx, kind := q.kind, tenant := q.tenant, remote := false } q.target.toNat 0 q.value = ((0, 0), t)) ∧ (t.sentSince s = false) :=
  ⟨sCue, (sCue.storeWord ⟨cxS, .script, 0, false⟩ xAcc.addr.toNat 0 7).2, cue0, tixRun, none, by decide⟩

theorem test_StageAndCurtain_1 : ∃ (s : State) (cx : Cx) (f : Fields) (c : Ctx) (ws : List Word) (_tw : Option TwinReply), (s.Issues cx c f ws) ∧ (dbits ws 0 0 8 = 0x50) :=
  ⟨(sIss wStg), cxS, fIs, cIss, wStg, none, by decide⟩

theorem test_StageAndCurtain_2 : ∃ (s : State) (cx : Cx) (f : Fields) (c : Ctx) (ws : List Word) (_tw : Option TwinReply), (s.Issues cx c f ws) ∧ (dbits ws 0 0 8 = 0x51) :=
  ⟨(sIss wCur), cxS, fIs, cIss, wCur, none, by decide⟩

theorem test_StageAndCurtain_3 : ∃ (s : State) (cx : Cx) (f : Fields) (c : Ctx) (ws : List Word) (_tw : Option TwinReply) (recs : List (List Word)), (s.Starts cx c f ws 0x50) ∧ (s.pairing = 0) ∧ ((s.opTake cx c ws).1 < 4096) ∧ (dword ws 2 ≠ 0) ∧ (s.sieve.curtain = none) ∧ (s.holdsRecords cx c (dword ws 1) (dword ws 2) recs = true) ∧ ((s.stage (whoOf cx c).tenant recs).1 = 0) :=
  ⟨(sIssSt wStgD), cxS, fIs, cIss, wStgD, none, recStg, by decide, by decide, Nat.lt_of_le_of_lt (Nat.le_of_eq (Nat.zero_add _)) (Nat.mod_lt _ (by decide)), by decide, by decide, by decide, by decide⟩

theorem test_StageAndCurtain_4 : ∃ (s : State) (cx : Cx) (f : Fields) (c : Ctx) (ws : List Word) (_tw : Option TwinReply), (s.Starts cx c f ws 0x51) ∧ (s.pairing = 0) ∧ ((whoOf cx c).operator = true) ∧ (s.sieve.curtain = none) :=
  ⟨(sIss wCur), cxS, fIs, cIss, wCur, none, by decide⟩

theorem test_StageAndCurtain_5 : ∃ (o : Op) (u : State) (recs : List (List Word)), (o.Plain 0x50 u) ∧ (dword o.ws 2 ≠ 0) ∧ (o.w.kind = .script ∨ o.w.kind = .system) ∧ (u.holdsRecords o.cx o.c (dword o.ws 1) (dword o.ws 2) recs = true) ∧ (u.sieve.curtain ≠ none) ∧ (u.pairing = 0) :=
  ⟨(opW wStgD), uStH, recStg, by decide⟩

theorem test_StageAndCurtain_6 : ∃ (o : Op) (u : State) (recs : List (List Word)) (sub : Nat), (o.Plain 0x50 u) ∧ (dword o.ws 2 ≠ 0) ∧ (o.w.kind = .script ∨ o.w.kind = .system) ∧ (o.w.cx = o.cx) ∧ (u.holdsRecords o.cx o.c (dword o.ws 1) (dword o.ws 2) recs = true) ∧ (u.sieve.curtain = none) ∧ (u.pairing = 0) ∧ (u.stage o.w.tenant recs = (0x7F, sub, u)) :=
  ⟨(opW wStgD), uStF, [[0x12]], 6, by decide⟩

theorem test_StageAndCurtain_7 : ∃ (o : Op) (u : State), (o.Plain 0x51 u) ∧ (o.w.operator = true) ∧ (o.w.kind = .script ∨ o.w.kind = .system) ∧ (u.sieve.curtain = none) ∧ (u.pairing = 0) :=
  ⟨(opW wCur), uT, by decide⟩

theorem test_StageAndCurtain_8 : ∃ (o : Op) (u : State), (o.Plain 0x51 u) ∧ (o.w.operator = true) ∧ (o.w.kind = .script ∨ o.w.kind = .system) ∧ (u.sieve.curtain ≠ none) ∧ (u.pairing = 0) :=
  ⟨(opW wCur), sCur, by decide⟩

theorem test_StageAndCurtain_9 : ∃ (s : State) (k : Curtain), (s.sieve.curtain = some k) ∧ (k.waiting = false) ∧ (s.holders (s.rd Reg.Sve.V_PREV []) = 0) ∧ (s.sieve.held = []) :=
  ⟨sCur, cur0, by decide⟩

theorem test_StageAndCurtain_10 : ∃ (s : State) (k : Curtain), (s.sieve.curtain = some k) ∧ (k.waiting = false) ∧ (s.holders (s.rd Reg.Sve.V_PREV []) ≠ 0) :=
  ⟨sCurH, cur0, by decide⟩

theorem test_StageAndCurtain_11 : ∃ (s : State) (k : Curtain), (s.sieve.curtain = some k) ∧ (k.waiting = true) ∧ (s.holders (s.rd Reg.Sve.V_PREV []) = 0) ∧ (s.sieve.held = []) :=
  ⟨sCurW, { cur0 with waiting := true }, by decide⟩

theorem test_StageAndCurtain_12 : ∃ (s : State) (k : Curtain), (s.sieve.curtain = some k) ∧ (k.waiting = true) ∧ (s.holders (s.rd Reg.Sve.V_PREV []) ≠ 0) ∧ (s.sieve.held = []) :=
  ⟨sCurHW, { cur0 with waiting := true }, by decide⟩

theorem test_FlushAndBadDescriptors_1 : ∃ (s : State) (cx : Cx) (f : Fields) (c : Ctx) (ws : List Word) (_tw : Option TwinReply), (s.Issues cx c f ws) ∧ (dbits ws 0 0 8 = 0x60) :=
  ⟨(sIss wFlu), cxS, fIs, cIss, wFlu, none, by decide⟩

theorem test_FlushAndBadDescriptors_2 : ∃ (s : State) (cx : Cx) (f : Fields) (c : Ctx) (ws : List Word) (tw : Option TwinReply) (k : Nat), (s.Starts cx c f ws 0x60) ∧ (s.toTwin (ws.getD 1 0) = false) ∧ (cntAt (dword ws 1) = some k) ∧ (dword ws 2 ≠ 0) ∧ (dword ws 2 ≤ 2097152) ∧ (k + dword ws 2 ≤ 131072 ∨ (k + dword ws 2 ≤ 2228224 ∧ s.flag Reg.Mem.MEM_OPEN [] = true)) ∧ (firstSub ((s.opOf cx c f ws tw).flushChecks k (dword ws 2) s) = none) :=
  ⟨(sIss wFlu), cxS, fIs, cIss, wFlu, none, 5, by decide⟩

theorem test_FlushAndBadDescriptors_3 : ∃ (o : Op) (u : State) (k : Nat), (o.Plain 0x60 u) ∧ (cntAt (dword o.ws 1) = some k) ∧ (dword o.ws 2 ≠ 0) ∧ (dword o.ws 2 ≤ 2097152) ∧ (k + dword o.ws 2 ≤ 131072) ∧ (firstSub (o.flushChecks k (dword o.ws 2) u) = none) :=
  ⟨(opW wFlu), uT, 5, by decide⟩

theorem test_FlushAndBadDescriptors_4 : ∃ (_s : State) (k n i : Nat), (k + n ≤ 131072) ∧ (i < n) :=
  ⟨uT, 5, 2, 1, by decide⟩

theorem test_FlushAndBadDescriptors_5 : ∃ (o : Op) (_u : State) (z : Nat), (layoutOk (dbits o.ws 0 0 8) o.ws = true) ∧ (o.c.tree? = some z) ∧ (¬(dbits o.ws 0 0 8 = 0x20 ∧ dbits o.ws 0 14 1 = 1 ∧ dbits o.ws 0 15 1 = 1)) :=
  ⟨{ opW wDel with c := cPr }, uT, 0, by decide⟩

theorem test_FlushAndBadDescriptors_6 : ∃ (s : State) (cx : Cx) (f : Fields) (c : Ctx) (ws : List Word) (_tw : Option TwinReply), (s.Issues cx c f ws) ∧ (dbits ws 0 0 8 ∉ knownTypes) :=
  ⟨(sIss [0x199]), cxS, fIs, cIss, [0x199], none, by decide⟩

theorem test_FlushAndBadDescriptors_7 : ∃ (s : State) (cx : Cx) (f : Fields) (c : Ctx) (w : Word) (_tw : Option TwinReply), (s.Runs cx c) ∧ (useI.ok f = true) ∧ (s.heldByOrder cx c = false) ∧ (c.place (addrI c f).toNat ≠ .outside) ∧ (s.holdsWord cx c (addrI c f).toNat w = true) ∧ (w.toNat / 256 % 32 = 0) :=
  ⟨(sIss []), cxS, fIs, cIss, 0, none, by decide⟩

theorem test_SubmissionsAreTaken_1 : ∃ (s : State) (f : Nat) (e : SubEntry) (_p : Place), (s.TakesNext f 1 e) :=
  ⟨sRing, 0, ent0, pl0, by decide +kernel⟩

theorem test_SubmissionsAreTaken_2 : ∃ (s : State) (f : Nat) (e : SubEntry) (_p : Place), (s.TakesNext f 2 e) :=
  ⟨sRing, 0, ent0, pl0, by decide +kernel⟩

theorem test_SubmissionsAreTaken_3 : ∃ (s : State) (f : Nat) (e : SubEntry) (_p : Place), (s.TakesNext f 3 e) :=
  ⟨sRing, 0, ent0, pl0, by decide +kernel⟩

theorem test_SubmissionsAreTaken_4 : ∃ (s : State) (f : Nat) (e : SubEntry) (_p : Place), (s.TakesNext f 4 e) :=
  ⟨sRing, 0, ent0, pl0, by decide +kernel⟩

theorem test_SubmissionsAreTaken_5 : ∃ (s : State) (f : Nat) (e : SubEntry) (_p : Place), (s.TakesNext f 5 e) :=
  ⟨sRing, 0, ent0, pl0, by decide +kernel⟩

theorem test_SubmissionsAreTaken_6 : ∃ (s : State) (f : Nat) (e : SubEntry) (_p : Place), (s.TakesNext f 6 e) :=
  ⟨sRing, 0, ent0, pl0, by decide +kernel⟩

theorem test_SubmissionsAreTaken_7 : ∃ (s : State) (f : Nat) (e : SubEntry) (_p : Place) (u : State), (s.TakesNext f 6 e) ∧ (u = s.entered f 6 e) ∧ (u.entryForm f (u.headEntry f) = (0, 0)) :=
  ⟨sRing, 0, ent0, pl0, (sRing.entered 0 6 ent0), by decide +kernel⟩

theorem test_SubmissionsAreTaken_8 : ∃ (s : State) (f : Nat) (_p : Place), (s.rd Reg.Hid.RR_FUNC [0] < 16) ∧ (f < 16) ∧ (s.taking f = .ready) ∧ (∀ g < 16, (g + 15 - s.rd Reg.Hid.RR_FUNC [0]) % 16 < (f + 15 - s.rd Reg.Hid.RR_FUNC [0]) % 16 → s.taking g ≠ .ready) :=
  ⟨(sRing.entered 0 6 ent0), 0, pl0, by decide +kernel⟩

theorem test_SubmissionsAreTaken_9 : ∃ (s : State) (f : Nat) (_p : Place), (f < 16) ∧ (s.rd Reg.Bar.SQ_HEAD [f] < s.ringSize f Reg.Bar.SQ_LOG2) ∧ (s.ringSize f Reg.Bar.SQ_LOG2 ≤ 4096) ∧ (s.entryForm f (s.headEntry f) ≠ (0, 0)) :=
  ⟨(sRing.entered 0 7 ent0), 0, pl0, by decide +kernel⟩

theorem test_SubmissionsAreTaken_10 : ∃ (s : State) (f t : Nat) (_p : Place), (f < 16) ∧ (s.entryForm f (s.headEntry f) = (0, 0)) ∧ (s.bound f = some t) ∧ (s.entryOwn f t (s.headEntry f) ≠ (0, 0)) :=
  ⟨(sRing.entered 0 4 ent0), 0, 0, pl0, by decide +kernel⟩

theorem test_SubmissionsAreTaken_11 : ∃ (s : State) (f : Nat) (_p : Place), (f < 16) ∧ (s.entryForm f (s.headEntry f) = (0, 0)) ∧ ((s.headEntry f).op = 6) :=
  ⟨(sRing.entered 0 6 ent0), 0, pl0, by decide +kernel⟩

theorem test_SubmissionEffects_1 : ∃ (s : State) (f : Nat) (e : SubEntry) (_p : Place) (u : State) (i : Image) (t : Nat), (s.TakesNext f 1 e) ∧ (u = s.entered f 1 e) ∧ (u.entryForm f (u.headEntry f) = (0, 0)) ∧ ((u.headEntry f).image = .ok i) ∧ (u.bound f = some t) ∧ (u.checkImage (countedImage i) 3 (some (u.headEntry f).imageLen) t 0 = (0, 0)) :=
  ⟨sRing, 0, { ent0 with image := .ok img3 }, pl0, sRun3, img3, 0, by decide +kernel, rfl, by decide +kernel, sRun3_image, by decide +kernel, img3_ok⟩

theorem test_SubmissionEffects_2 : ∃ (s : State) (f : Nat) (e : SubEntry) (_p : Place) (u : State) (r : Resident), (s.TakesNext f 2 e) ∧ (u = s.entered f 2 e) ∧ (u.entryForm f (u.headEntry f) = (0, 0)) ∧ (u.resident (u.headEntry f).target = some r) ∧ (u.bound f = some r.tenant) ∧ (r.unload = none) ∧ (∀ x ∈ u.cpu.residents, x.handle = r.handle → x = r) :=
  ⟨sRes0, 0, ent0, pl0, (sRes0.entered 0 2 ent0), res0, by decide +kernel⟩

theorem test_SubmissionEffects_3 : ∃ (s : State) (f : Nat) (e : SubEntry) (_p : Place) (u : State) (i : Image) (t : Nat), (s.TakesNext f 3 e) ∧ (u = s.entered f 3 e) ∧ (u.entryForm f (u.headEntry f) = (0, 0)) ∧ ((u.headEntry f).image = .ok i) ∧ (u.bound f = some t) ∧ (u.checkImage (countedImage i) 3 (some (u.headEntry f).imageLen) t 0 = (0, 0)) ∧ ((u.cpu.residents.map (fun r => r.img.icount)).sum + i.icount ≤ 98304) ∧ (u.cpu.residents.length < 2 ^ 32) :=
  ⟨sRing, 0, { ent0 with image := .ok img3 }, pl0, sRun3r, img3, 0, by decide +kernel, rfl, by decide +kernel, sRun3r_image, by decide +kernel, img3_okr, by decide +kernel, by decide +kernel⟩

theorem test_SubmissionEffects_4 : ∃ (s : State) (f : Nat) (e : SubEntry) (_p : Place) (u : State) (r : Resident), (s.TakesNext f 4 e) ∧ (u = s.entered f 4 e) ∧ (u.entryForm f (u.headEntry f) = (0, 0)) ∧ (u.resident (u.headEntry f).target = some r) ∧ (u.bound f = some r.tenant) ∧ (r.unload = none) ∧ (r.running = 0) :=
  ⟨sRes0, 0, ent0, pl0, (sRes0.entered 0 4 ent0), res0, by decide +kernel⟩

theorem test_SubmissionEffects_5 : ∃ (s : State) (f : Nat) (e : SubEntry) (_p : Place) (u : State) (i : Image), (s.TakesNext f 5 e) ∧ (u = s.entered f 5 e) ∧ (f = 0) ∧ (u.entryForm f (u.headEntry f) = (0, 0)) ∧ (u.entryOwn f 0 (u.headEntry f) = (0, 0)) ∧ ((u.headEntry f).image = .ok i) ∧ (u.checkImage (countedImage i) 2 (some (u.headEntry f).imageLen) 0 (budgetOf (u.cycleN (u.headEntry f).target) (u.rd Reg.Cue.SEAL_LEAD [(u.headEntry f).target])) = (0, 0)) :=
  ⟨(sRing.wr Reg.Pon.MODE [0] 2), 0, { ent0 with image := .ok img2 }, pl0, sRun2, img2, by decide +kernel, rfl, rfl, by decide +kernel, by decide +kernel, sRun2_image, by rw [sRun2_target]; exact img2_ok⟩

theorem test_SubmissionEffects_6 : ∃ (s : State) (i : Image) (_e : SubEntry) (_j : Job) (p : Place) (cx : Cx), ((s.freeSlots (areaWords i))[p.pick % (s.freeSlots (areaWords i)).length]? = some cx) :=
  ⟨sRing, img3, ent0, job0, pl0, ⟨72, 1⟩, by decide +kernel⟩

theorem test_SubmissionEffects_7 : ∃ (s : State) (f t : Nat) (i : Image) (_p : Place), (f < 16) ∧ (s.entryForm f (s.headEntry f) = (0, 0)) ∧ ((s.headEntry f).op = 1) ∧ ((s.headEntry f).image = .ok i) ∧ (s.bound f = some t) ∧ (s.checkImage (countedImage i) 3 (some (s.headEntry f).imageLen) t 0 = (0, 0)) :=
  ⟨sRun3, 0, 0, img3, pl0, by decide +kernel, by decide +kernel, by decide +kernel, sRun3_image, by decide +kernel, img3_ok⟩

theorem test_SubmissionEffects_8 : ∃ (s : State) (f t : Nat) (i : Image) (_p : Place), (f < 16) ∧ (s.entryForm f (s.headEntry f) = (0, 0)) ∧ ((s.headEntry f).op = 1) ∧ ((s.headEntry f).image = .ok i) ∧ (s.bound f = some t) ∧ (s.checkImage (countedImage i) 3 (some (s.headEntry f).imageLen) t 0 ≠ (0, 0)) :=
  ⟨sRunBad, 0, 0, imgK, pl0, by decide +kernel⟩

theorem test_SubmissionEffects_9 : ∃ (s : State) (f z : Nat) (i : Image) (_p : Place), (f = 0) ∧ (s.entryForm f (s.headEntry f) = (0, 0)) ∧ ((s.headEntry f).op = 5) ∧ ((s.headEntry f).target = z) ∧ (s.entryOwn f 0 (s.headEntry f) = (0, 0)) ∧ ((s.headEntry f).image = .ok i) ∧ (s.checkImage (countedImage i) 2 (some (s.headEntry f).imageLen) 0 (budgetOf (s.cycleN z) (s.rd Reg.Cue.SEAL_LEAD [z])) = (0, 0)) :=
  ⟨sRun2, 0, 0, img2, pl0, by decide +kernel, by decide +kernel, by decide +kernel, by decide +kernel, by decide +kernel, sRun2_image, img2_ok⟩

theorem test_SubmissionEffects_10 : ∃ (s : State) (f : Nat) (i : Image) (_p : Place), (f < 16) ∧ (s.entryForm f (s.headEntry f) = (0, 0)) ∧ ((s.headEntry f).op = 3) ∧ ((s.headEntry f).image = .ok i) ∧ (s.checkImage (countedImage i) 3 (some (s.headEntry f).imageLen) ((s.bound f).getD 0) 0 = (0, 0)) ∧ ((s.cpu.residents.map (fun r => r.img.icount)).sum + i.icount ≤ 98304) ∧ (s.cpu.residents.length < 2 ^ 32) :=
  ⟨sRun3r, 0, img3, pl0, by decide +kernel, by decide +kernel, by decide +kernel, sRun3r_image, img3_okr, by decide +kernel, by decide +kernel⟩

theorem test_SubmissionEffects_11 : ∃ (s : State) (f : Nat) (r : Resident) (_p : Place), (f < 16) ∧ (s.entryForm f (s.headEntry f) = (0, 0)) ∧ ((s.headEntry f).op = 4) ∧ (s.resident (s.headEntry f).target = some r) ∧ (r.tenant = (s.bound f).getD 0) ∧ (r.unload = none) ∧ (r.running = 0) :=
  ⟨sUnl, 0, res0, pl0, by decide +kernel⟩

theorem test_SubmissionEffects_12 : ∃ (s : State) (f : Nat) (r : Resident) (_p : Place), (f < 16) ∧ (s.entryForm f (s.headEntry f) = (0, 0)) ∧ ((s.headEntry f).op = 2) ∧ (s.resident (s.headEntry f).target = some r) ∧ (r.tenant = (s.bound f).getD 0) ∧ (r.unload = none) ∧ (∀ x ∈ s.cpu.residents, x.handle = r.handle → x = r) :=
  ⟨sRres, 0, res0, pl0, by decide +kernel⟩

theorem test_HostRings_1 : ∃ (s : State) (f v : Nat) (_es : List SubEntry), (f < 16) ∧ (f = 0 → s.flag Reg.Bar.BOOT_WAIT [] = false) ∧ (v < 4096) ∧ (v < 2 ^ s.rd Reg.Bar.SQ_LOG2 [f]) ∧ ((v + 2 ^ s.rd Reg.Bar.SQ_LOG2 [f] - s.rd Reg.Bar.SQ_TAIL [f] % 2 ^ s.rd Reg.Bar.SQ_LOG2 [f]) % 2 ^ s.rd Reg.Bar.SQ_LOG2 [f] ≤ (s.rd Reg.Bar.SQ_HEAD [f] + 2 * 2 ^ s.rd Reg.Bar.SQ_LOG2 [f] - s.rd Reg.Bar.SQ_TAIL [f] % 2 ^ s.rd Reg.Bar.SQ_LOG2 [f] - 1) % 2 ^ s.rd Reg.Bar.SQ_LOG2 [f]) :=
  ⟨sRing, 0, 3, [ent0], by decide⟩

theorem test_HostRings_2 : ∃ (s : State) (f v : Nat) (_es : List SubEntry), (f < 16) ∧ (f = 0 → s.flag Reg.Bar.BOOT_WAIT [] = false) ∧ (v < 4096) ∧ (2 ^ s.rd Reg.Bar.SQ_LOG2 [f] ≤ v ∨ (s.rd Reg.Bar.SQ_HEAD [f] + 2 * 2 ^ s.rd Reg.Bar.SQ_LOG2 [f] - s.rd Reg.Bar.SQ_TAIL [f] % 2 ^ s.rd Reg.Bar.SQ_LOG2 [f] - 1) % 2 ^ s.rd Reg.Bar.SQ_LOG2 [f] < (v + 2 ^ s.rd Reg.Bar.SQ_LOG2 [f] - s.rd Reg.Bar.SQ_TAIL [f] % 2 ^ s.rd Reg.Bar.SQ_LOG2 [f]) % 2 ^ s.rd Reg.Bar.SQ_LOG2 [f]) :=
  ⟨sRing, 0, 16, [], by decide⟩

theorem test_HostRings_3 : ∃ (s : State) (f v : Nat), (f < 16) ∧ (f = 0 → s.flag Reg.Bar.BOOT_WAIT [] = false) ∧ (v < 4096) ∧ (v < 2 ^ s.rd Reg.Bar.CQ_LOG2 [f]) ∧ ((v + 2 ^ s.rd Reg.Bar.CQ_LOG2 [f] - s.rd Reg.Bar.CQ_HEAD [f] % 2 ^ s.rd Reg.Bar.CQ_LOG2 [f]) % 2 ^ s.rd Reg.Bar.CQ_LOG2 [f] ≤ (s.rd Reg.Bar.CQ_TAIL [f] + 2 ^ s.rd Reg.Bar.CQ_LOG2 [f] - s.rd Reg.Bar.CQ_HEAD [f] % 2 ^ s.rd Reg.Bar.CQ_LOG2 [f]) % 2 ^ s.rd Reg.Bar.CQ_LOG2 [f]) :=
  ⟨(sRing.wr Reg.Bar.CQ_TAIL [0] 5), 0, 4, by decide⟩

theorem test_HostRings_4 : ∃ (s : State) (f v : Nat), (f < 16) ∧ (f = 0 → s.flag Reg.Bar.BOOT_WAIT [] = false) ∧ (v < 4096) ∧ (2 ^ s.rd Reg.Bar.CQ_LOG2 [f] ≤ v ∨ (s.rd Reg.Bar.CQ_TAIL [f] + 2 ^ s.rd Reg.Bar.CQ_LOG2 [f] - s.rd Reg.Bar.CQ_HEAD [f] % 2 ^ s.rd Reg.Bar.CQ_LOG2 [f]) % 2 ^ s.rd Reg.Bar.CQ_LOG2 [f] < (v + 2 ^ s.rd Reg.Bar.CQ_LOG2 [f] - s.rd Reg.Bar.CQ_HEAD [f] % 2 ^ s.rd Reg.Bar.CQ_LOG2 [f]) % 2 ^ s.rd Reg.Bar.CQ_LOG2 [f]) :=
  ⟨(sRing.wr Reg.Bar.CQ_TAIL [0] 5), 0, 6, by decide⟩

theorem test_HostRings_5 : ∃ (s : State) (f v : Nat), (f < 16) ∧ (f = 0 → s.flag Reg.Bar.BOOT_WAIT [] = false) ∧ (v < 4096) ∧ (v < 2 ^ s.rd Reg.Bar.EQ_LOG2 [f]) ∧ ((v + 2 ^ s.rd Reg.Bar.EQ_LOG2 [f] - s.rd Reg.Bar.EQ_HEAD [f] % 2 ^ s.rd Reg.Bar.EQ_LOG2 [f]) % 2 ^ s.rd Reg.Bar.EQ_LOG2 [f] ≤ (s.rd Reg.Bar.EQ_TAIL [f] + 2 ^ s.rd Reg.Bar.EQ_LOG2 [f] - s.rd Reg.Bar.EQ_HEAD [f] % 2 ^ s.rd Reg.Bar.EQ_LOG2 [f]) % 2 ^ s.rd Reg.Bar.EQ_LOG2 [f]) :=
  ⟨(sRing.wr Reg.Bar.EQ_TAIL [0] 5), 0, 4, by decide⟩

theorem test_HostRings_6 : ∃ (s : State) (f v : Nat), (f < 16) ∧ (f = 0 → s.flag Reg.Bar.BOOT_WAIT [] = false) ∧ (v < 4096) ∧ (2 ^ s.rd Reg.Bar.EQ_LOG2 [f] ≤ v ∨ (s.rd Reg.Bar.EQ_TAIL [f] + 2 ^ s.rd Reg.Bar.EQ_LOG2 [f] - s.rd Reg.Bar.EQ_HEAD [f] % 2 ^ s.rd Reg.Bar.EQ_LOG2 [f]) % 2 ^ s.rd Reg.Bar.EQ_LOG2 [f] < (v + 2 ^ s.rd Reg.Bar.EQ_LOG2 [f] - s.rd Reg.Bar.EQ_HEAD [f] % 2 ^ s.rd Reg.Bar.EQ_LOG2 [f]) % 2 ^ s.rd Reg.Bar.EQ_LOG2 [f]) :=
  ⟨(sRing.wr Reg.Bar.EQ_TAIL [0] 5), 0, 6, by decide⟩

theorem test_HostRings_7 : ∃ (_s : State) (f off code sub : Nat) (fld : Field), (f < 16) ∧ (off < 65536) ∧ (code < 256) ∧ (sub < 256) ∧ (fld ∈ [Reg.Bar.SQ_ERR, Reg.Bar.CQ_ERR, Reg.Bar.EQ_ERR]) :=
  ⟨sRing, 0, 0x1010, 0x7E, 1, Reg.Bar.SQ_ERR, by decide⟩

theorem test_HostRings_8 : ∃ (s : State) (f : Nat), (f < 16) ∧ (f = 0 → s.flag Reg.Bar.BOOT_WAIT [] = false) ∧ (s.flag Reg.Bar.SQ_EN [f] = false) ∧ (s.flag Reg.Bar.READY [] = true) :=
  ⟨(sRing.wr Reg.Bar.SQ_EN [0] 0), 0, by decide⟩

theorem test_HostRings_9 : ∃ (s : State) (f : Nat), (f < 16) ∧ (f = 0 → s.flag Reg.Bar.BOOT_WAIT [] = false) ∧ (s.flag Reg.Bar.SQ_EN [f] = true) ∧ (s.rd Reg.Hid.INFLIGHT_F [f] = 0) :=
  ⟨sRing, 0, by decide⟩

theorem test_HostRings_10 : ∃ (s : State) (f : Nat), (f < 16) ∧ (f = 0 → s.flag Reg.Bar.BOOT_WAIT [] = false) ∧ (s.flag Reg.Bar.CQ_EN [f] = false) ∧ (s.flag Reg.Bar.READY [] = true) :=
  ⟨(sRing.wr Reg.Bar.CQ_EN [0] 0), 0, by decide⟩

theorem test_HostRings_11 : ∃ (s : State) (f : Nat), (f < 16) ∧ (f = 0 → s.flag Reg.Bar.BOOT_WAIT [] = false) ∧ (s.flag Reg.Bar.CQ_EN [f] = true) ∧ (s.rd Reg.Hid.INFLIGHT_F [f] = 0) :=
  ⟨sRing, 0, by decide⟩

theorem test_HostRings_12 : ∃ (s : State) (f : Nat), (f < 16) ∧ (f = 0 → s.flag Reg.Bar.BOOT_WAIT [] = false) ∧ (s.flag Reg.Bar.EQ_EN [f] = false) ∧ (s.flag Reg.Bar.READY [] = true) :=
  ⟨(sRing.wr Reg.Bar.EQ_EN [0] 0), 0, by decide⟩

theorem test_HostRings_13 : ∃ (s : State) (f : Nat), (f < 16) ∧ (f = 0 → s.flag Reg.Bar.BOOT_WAIT [] = false) ∧ (s.flag Reg.Bar.EQ_EN [f] = true) ∧ (s.rd Reg.Hid.INFLIGHT_F [f] = 0) :=
  ⟨sRing, 0, by decide⟩

theorem test_HostRings_14 : ∃ (s : State) (f : Nat), (f < 16) ∧ (s.taking f = .stalled) ∧ (s.host.counted.contains (f * 4096 + s.rd Reg.Bar.SQ_HEAD [f]) = false) :=
  ⟨sStl, 0, by decide⟩

theorem test_HostRings_15 : ∃ (s : State) (f : Nat), (s.taking f ≠ .stalled) :=
  ⟨sRing, 0, by decide⟩

theorem test_HostRings_16 : ∃ (s : State) (f : Nat), (f < 16) ∧ (f = 0 → s.flag Reg.Bar.BOOT_WAIT [] = false) ∧ (s.flag Reg.Bar.CQ_EN [f] = true) ∧ (s.rd Reg.Hid.INFLIGHT_F [f] ≠ 0) :=
  ⟨(sRing.wr Reg.Hid.INFLIGHT_F [0] 1), 0, by decide⟩

theorem test_ScriptEndsAndInterrupts_1 : ∃ (s : State) (cx : Cx) (c : Ctx) (v : Nat), (s.ctx? cx = some c) ∧ (c.kind = .script) ∧ (c.ended = none) ∧ (completionCodes.contains v = true) ∧ (s.opsDone cx = true) ∧ (c.refused = []) ∧ (s.Accepts cx c [⟨Reg.Hst.SELF_END, [], v⟩] (Reg.Hst.SELF_END.addr [])) :=
  ⟨sScr, cxS, cScr, 0, by decide⟩

theorem test_ScriptEndsAndInterrupts_2 : ∃ (s : State) (cx : Cx) (c : Ctx) (j : Job) (_code _sub : Nat), (c.job = some j) ∧ (j.discard = false) ∧ (j.resident = 0) ∧ (s.rd Reg.Hid.CUR_CTX [cx.core] ≠ cx.ctx + 1) ∧ (c.cycles < 2 ^ 32) :=
  ⟨sScr.wr Reg.Hid.CUR_CTX [72] 1, cxS, cScr, job0, 0, 0, by decide, by decide, by decide, by decide, by decide⟩

theorem test_ScriptEndsAndInterrupts_3 : ∃ (s : State) (cx : Cx) (c : Ctx), (s.ctx? cx = some c) ∧ (c.kind = .script) ∧ (c.limit ≠ 0) ∧ (c.limit ≤ c.cycles) ∧ (c.ended = none) :=
  ⟨(tHand { cScr with limit := 5, cycles := 6 }), cxS, { cScr with limit := 5, cycles := 6 }, by decide⟩

theorem test_ScriptEndsAndInterrupts_4 : ∃ (s : State) (cx : Cx) (c : Ctx) (n : Nat), (s.Accepts cx c [⟨Reg.Aut.EN, [n], 0⟩] (Reg.Aut.EN.addr [n])) ∧ (s.pairing = 0) :=
  ⟨sSys1, ⟨72, 0⟩, cSys, 1, by decide⟩

theorem test_ScriptEndsAndInterrupts_5 : ∃ (s : State) (f : Nat), (f < 16) ∧ (s.rd Reg.Bar.COAL_US [f] ≠ 0) ∧ (s.rd Reg.Hid.CQ_COAL_AT [f] ≠ 0) ∧ ((s.rd Reg.Bar.IRQ_EN [f]).testBit 0 = true) ∧ (s.flag Reg.Hid.MSIX_MASK [f, s.rd Reg.Bar.CQ_VEC [f]] = false) :=
  ⟨((((sRing.wr Reg.Bar.COAL_US [0] 9).wr Reg.Hid.CQ_COAL_AT [0] 8).wr Reg.Bar.IRQ_EN [0] 7).wr Reg.Bar.CQ_VEC [0] 3), 0, by decide⟩

theorem test_ScriptEndsAndInterrupts_6 : ∃ (s : State) (f : Nat), (f < 16) ∧ (s.rd Reg.Bar.COAL_US [f] ≠ 0) ∧ (s.rd Reg.Hid.EQ_COAL_AT [f] ≠ 0) ∧ ((s.rd Reg.Bar.IRQ_EN [f]).testBit 1 = true) ∧ (s.flag Reg.Hid.MSIX_MASK [f, s.rd Reg.Bar.EQ_VEC [f]] = true) :=
  ⟨(((((sRing.wr Reg.Bar.COAL_US [0] 9).wr Reg.Hid.EQ_COAL_AT [0] 8).wr Reg.Bar.IRQ_EN [0] 7).wr Reg.Bar.EQ_VEC [0] 3).wr Reg.Hid.MSIX_MASK [0, 3] 1), 0, by decide⟩

theorem test_StoresOfPorts_1 : ∃ (s : State) (cx : Cx) (c : Ctx) (p v : Nat), (s.Accepts cx c [⟨Reg.Pon.LIGHT, [p], v⟩] (Reg.Pon.LIGHT.addr [p])) :=
  ⟨(sSys), ⟨72, 0⟩, cSys, 5, 1, by decide⟩

theorem test_StoresOfPorts_2 : ∃ (s : State) (cx : Cx) (c : Ctx) (p mode up role : Nat), (s.Accepts cx c [⟨Reg.Pon.MODE, [p], mode⟩, ⟨Reg.Pon.UP_RATE, [p], up⟩, ⟨Reg.Pon.ROLE, [p], role⟩] (Reg.Pon.MODE.addr [p])) :=
  ⟨(sSys.wr Reg.Pon.UP_RATE [5] 1), ⟨72, 0⟩, cSys, 5, 2, 0, 1, by decide⟩

theorem test_StoresOfPorts_3 : ∃ (s : State) (cx : Cx) (c : Ctx) (p mode : Nat), (s.Accepts cx c [⟨Reg.Pon.MODE, [p], mode⟩] (Reg.Pon.MODE.addr [p])) ∧ ((Chg.mk Reg.Pon.UP_RATE [p] (s.rd Reg.Pon.UP_RATE [p])).ok = true) ∧ ((Chg.mk Reg.Pon.ROLE [p] (s.rd Reg.Pon.ROLE [p])).ok = true) ∧ (s.rd Reg.Pon.BOND [p] = 0) ∧ (mode ≠ 0) :=
  ⟨(sSys), ⟨72, 0⟩, cSys, 5, 2, by decide⟩

theorem test_StoresOfPorts_4 : ∃ (s : State) (cx : Cx) (c : Ctx) (p v : Nat), (s.Accepts cx c [⟨Reg.Pon.BOND, [p], v⟩] (Reg.Pon.BOND.addr [p])) :=
  ⟨((sSys.wr Reg.Pon.MODE [4] 3).wr Reg.Pon.MODE [5] 3), ⟨72, 0⟩, cSys, 4, 1, by decide⟩

theorem test_StoresOfPorts_5 : ∃ (s : State) (p : Nat), (p < 64) ∧ (s.flag Reg.Pon.TRAINING [p] = true) :=
  ⟨(sSys.wr Reg.Pon.TRAINING [5] 1), 5, by decide⟩

theorem test_StoresOfPorts_6 : ∃ (s : State) (cx : Cx) (c : Ctx) (m : Nat), (s.Accepts cx c [⟨Reg.Pon.I2C_GO, [m], 1⟩] (Reg.Pon.I2C_GO.addr [m])) :=
  ⟨(sSys), ⟨72, 0⟩, cSys, 2, by decide⟩

theorem test_StoresOfPorts_7 : ∃ (s : State) (m : Nat), (m < 8) ∧ (s.flag Reg.Pon.I2C_BUSY [m] = true) :=
  ⟨(sSys.wr Reg.Pon.I2C_BUSY [3] 1), 3, by decide⟩

theorem test_StoresOfPorts_8 : ∃ (s : State) (m : Nat) (_bs : List Nat), (m < 8) ∧ (s.flag Reg.Pon.I2C_BUSY [m] = true) ∧ (s.flag Reg.Pon.I2C_READ [m] = false) :=
  ⟨(sSys.wr Reg.Pon.I2C_BUSY [3] 1), 3, [], by decide⟩

theorem test_StoresOfPorts_9 : ∃ (s : State) (m : Nat) (bs : List Nat), (m < 8) ∧ (s.flag Reg.Pon.I2C_BUSY [m] = true) ∧ (s.flag Reg.Pon.I2C_READ [m] = true) ∧ (s.rd Reg.Pon.I2C_LEN [m] = bs.length) ∧ (bs.length ≤ 32) ∧ (∀ b ∈ bs, b < 256) :=
  ⟨(((sSys.wr Reg.Pon.I2C_BUSY [3] 1).wr Reg.Pon.I2C_READ [3] 1).wr Reg.Pon.I2C_LEN [3] 6), 3, [1, 2, 3, 4, 250, 0], by decide⟩

theorem test_StoresOfTerminals_1 : ∃ (s : State) (cx : Cx) (c : Ctx) (z t : Nat), (s.Accepts cx c [⟨Reg.Rng.ADMIN, [z, t], 0⟩] (Reg.Rng.ADMIN.addr [z, t])) :=
  ⟨(sTrm), ⟨72, 0⟩, cSys, 0, 5, by decide⟩

theorem test_StoresOfTerminals_2 : ∃ (s : State) (cx : Cx) (c : Ctx) (z t : Nat), (s.Accepts cx c [⟨Reg.Rng.ADMIN, [z, t], 1⟩] (Reg.Rng.ADMIN.addr [z, t])) :=
  ⟨(sTrm), ⟨72, 0⟩, cSys, 0, 6, by decide⟩

theorem test_StoresOfTerminals_3 : ∃ (s : State) (z t : Nat), (z < 64) ∧ (t < 1020) ∧ (1 ≤ s.term z t) ∧ (s.term z t ≤ 4) :=
  ⟨sTrm, 0, 5, by decide⟩

theorem test_StoresOfTerminals_4 : ∃ (s : State) (cx : Cx) (c : Ctx) (z t v : Nat), (s.Accepts cx c [⟨Reg.Rng.DISABLE, [z, t], v⟩] (Reg.Rng.DISABLE.addr [z, t])) :=
  ⟨(sTrm), ⟨72, 0⟩, cSys, 0, 5, 1, by decide⟩

theorem test_StoresOfTerminals_5 : ∃ (_s : State) (z t : Nat), (z < 64) ∧ (t < 1020) :=
  ⟨sTrm, 0, 5, by decide⟩

theorem test_StoresOfTerminals_6 : ∃ (s : State) (cx : Cx) (c : Ctx) (z t : Nat), (s.Accepts cx c [⟨Reg.Rng.ROGUE_HELD, [z, t], 1⟩] (Reg.Rng.ROGUE_HELD.addr [z, t])) :=
  ⟨(sTrm.wr Reg.Rng.ROGUE_HELD [0, 5] 1), ⟨72, 0⟩, cSys, 0, 5, by decide⟩

theorem test_StoresOfTerminals_7 : ∃ (s : State) (cx : Cx) (c : Ctx) (z t v : Nat), (s.ctx? cx = some c) ∧ ((Chg.mk Reg.Rng.STATE [z, t] v).ok = true) ∧ (s.term z t ≠ v) ∧ (s.judge (whoOf cx c) (Reg.Rng.STATE.addr [z, t]) [⟨Reg.Rng.STATE, [z, t], v⟩] (s.memoryRefuses (Reg.Rng.STATE.addr [z, t])) = some (0x70, 0)) :=
  ⟨(sTrm), ⟨72, 0⟩, cSys, 0, 5, 1, by decide⟩

theorem test_StoresOfTerminals_8 : ∃ (s : State) (cx : Cx) (c : Ctx) (z t v : Nat), (s.ctx? cx = some c) ∧ (z < 64) ∧ (t < 1020) ∧ (v ≤ 5) ∧ (s.evs.queue.length < 1024) ∧ ((s.rd Reg.Cnt.EV_MASK [3]).testBit 16 = false) ∧ (tagOf s 0 (Reg.Rng.STATE.addr [z, t]) = 0) :=
  ⟨(sTrm), ⟨72, 0⟩, cSys, 0, 5, 1, by decide⟩

theorem test_StoresOfTerminals_9 : ∃ (s : State) (cx : Cx) (c : Ctx) (z t : Nat), (s.ctx? cx = some c) ∧ ((Chg.mk Reg.Rng.STATE [z, t] (s.term z t)).ok = true) ∧ (s.judge (whoOf cx c) (Reg.Rng.STATE.addr [z, t]) [] (s.memoryRefuses (Reg.Rng.STATE.addr [z, t])) = none) :=
  ⟨(sTrm), ⟨72, 0⟩, cSys, 0, 5, by decide⟩

theorem test_StoresOfTerminals_10 : ∃ (s : State) (cx : Cx) (c : Ctx) (z t v : Nat), (s.Accepts cx c [⟨Reg.Rng.PWR_CMD, [z, t], v⟩] (Reg.Rng.PWR_CMD.addr [z, t])) :=
  ⟨(sTrm), ⟨72, 0⟩, cSys, 0, 5, 1, by decide⟩

theorem test_StoresOfTerminals_11 : ∃ (s : State) (z t _v : Nat), (z < 64) ∧ (t < 1020) ∧ (s.isEpon z = false) ∧ (s.flag Reg.Pon.LIT [z] = true) :=
  ⟨sTrm, 0, 5, 1, by decide⟩

theorem test_StoresOfTerminals_12 : ∃ (s : State) (cx : Cx) (c : Ctx) (z t : Nat), (s.Accepts cx c [⟨Reg.Rng.RSSI_REQ, [z, t], 1⟩] (Reg.Rng.RSSI_REQ.addr [z, t])) :=
  ⟨(sTrm), ⟨72, 0⟩, cSys, 0, 5, by decide⟩

theorem test_StoresOfTerminals_13 : ∃ (s : State) (cx : Cx) (c : Ctx) (z t : Nat), (s.Accepts cx c [⟨Reg.Rng.REREG, [z, t], 1⟩] (Reg.Rng.REREG.addr [z, t])) :=
  ⟨(sTrm), ⟨72, 0⟩, cSys, 0, 5, by decide⟩

theorem test_StoresOfTerminals_14 : ∃ (s : State) (cx : Cx) (c : Ctx) (z t : Nat), (s.Accepts cx c [⟨Reg.Key.REKEY, [z, t], 1⟩] (Reg.Key.REKEY.addr [z, t])) :=
  ⟨(sTrm), ⟨72, 0⟩, cSys, 0, 5, by decide⟩

theorem test_StoresOfTerminals_15 : ∃ (s : State) (z t : Nat), (z < 64) ∧ (t < 1020) ∧ (s.rekeySlots z t ≠ none) :=
  ⟨(((sTrm.wr Reg.Key.DN_SLOT [0, 5] 100).wr Reg.Key.UP_SLOT [0, 5] 100).wr Reg.Key.SUCC [100] 101).wr Reg.Key.SUCC_V [100] 1, 0, 5, by decide⟩

theorem test_StoresOfTerminals_16 : ∃ (s : State) (z t : Nat), (z < 64) ∧ (t < 1020) ∧ (s.rekeySlots z t = none) :=
  ⟨sTrm, 0, 5, by decide⟩

theorem test_StoresOfTerminals_17 : ∃ (s : State) (cx : Cx) (c : Ctx) (m : Nat), (s.ctx? cx = some c) ∧ (m < 4) ∧ (s.judge (whoOf cx c) (Reg.Twn.PAIR_SEL.addr []) [⟨Reg.Twn.PAIR_SEL, [], m⟩] (s.memoryRefuses (Reg.Twn.PAIR_SEL.addr [])) = none) :=
  ⟨(sSys), ⟨72, 0⟩, cSys, 1, by decide⟩

theorem test_StoresOfTerminals_18 : ∃ (_s : State) (m : Nat), (m < 4) :=
  ⟨sSys, 0, by decide⟩

theorem test_StoresOfTerminals_19 : ∃ (s : State) (cx : Cx) (c : Ctx) (z : Nat), (s.Accepts cx c [⟨Reg.Twn.TKO_FAIL, [z], 1⟩] (Reg.Twn.TKO_FAIL.addr [z])) :=
  ⟨((((sSys.wr Reg.Twn.TKO_FAIL [4] 1).wr Reg.Twn.PAIRING [] 2).wr Reg.Bar.PAIRING [] 2).wr Reg.Twn.PAIR_SET [] 1), ⟨72, 0⟩, cSys, 4, by decide⟩

theorem test_StoresOfTerminals_20 : ∃ (s : State) (cx : Cx) (c : Ctx) (z v : Nat), (s.ctx? cx = some c) ∧ ((Chg.mk Reg.Twn.HOLDER [z] v).ok = true) ∧ (s.takesPart (whoOf cx c) Reg.Twn.HOLDER [z] v = true) ∧ (s.judge (whoOf cx c) (Reg.Twn.HOLDER.addr [z]) [⟨Reg.Twn.HOLDER, [z], v⟩] (s.memoryRefuses (Reg.Twn.HOLDER.addr [z])) = some (0x70, 0)) :=
  ⟨(((sSys.wr Reg.Twn.PAIRING [] 2).wr Reg.Bar.PAIRING [] 2).wr Reg.Twn.PAIR_SET [] 1), ⟨72, 0⟩, cSys, 4, 0, by decide⟩

theorem test_StoresOfTerminals_21 : ∃ (s : State) (cx : Cx) (c : Ctx) (z v : Nat), (s.ctx? cx = some c) ∧ ((Chg.mk Reg.Twn.HOLDER [z] v).ok = true) ∧ (s.takesPart (whoOf cx c) Reg.Twn.HOLDER [z] v = false) ∧ (s.judge (whoOf cx c) (Reg.Twn.HOLDER.addr [z]) [] (s.memoryRefuses (Reg.Twn.HOLDER.addr [z])) = none) :=
  ⟨(((sSys.wr Reg.Twn.PAIRING [] 2).wr Reg.Bar.PAIRING [] 2).wr Reg.Twn.PAIR_SET [] 1), ⟨72, 0⟩, cSys, 4, 2, by decide⟩

theorem test_StoresOfTime_1 : ∃ (s : State) (cx : Cx) (c : Ctx) (d v : Nat), (s.Accepts cx c [⟨Reg.Tim.OFS_IN, [d], v⟩] (Reg.Tim.OFS_IN.addr [d])) :=
  ⟨(sSys), ⟨72, 0⟩, cSys, 1, 5, by decide⟩

theorem test_StoresOfTime_2 : ∃ (_s : State) (d _v : Nat), (d < 2) :=
  ⟨sSys, 1, 5, by decide⟩

theorem test_StoresOfTime_3 : ∃ (s : State) (cx : Cx) (c : Ctx) (d : Nat), (s.Accepts cx c [⟨Reg.Tim.STEP_APPLY, [d], 1⟩] (Reg.Tim.STEP_APPLY.addr [d])) :=
  ⟨(sSys.wr Reg.Tim.PEND [1] 1), ⟨72, 0⟩, cSys, 1, by decide⟩

theorem test_StoresOfTime_4 : ∃ (_s : State) (d : Nat), (d < 2) :=
  ⟨sSys, 1, by decide⟩

theorem test_StoresOfTime_5 : ∃ (s : State) (cx : Cx) (c : Ctx) (d : Nat), (s.Accepts cx c [⟨Reg.Tim.STEP_DROP, [d], 1⟩] (Reg.Tim.STEP_DROP.addr [d])) :=
  ⟨(sSys.wr Reg.Tim.PEND [1] 1), ⟨72, 0⟩, cSys, 1, by decide⟩

theorem test_StoresOfTime_6 : ∃ (s : State) (cx : Cx) (c : Ctx) (d : Nat), (s.Accepts cx c [⟨Reg.Tim.SWITCH, [], d⟩] (Reg.Tim.SWITCH.addr [])) :=
  ⟨(sSys.wr Reg.Tim.VALID [1] 1), ⟨72, 0⟩, cSys, 1, by decide⟩

theorem test_StoresOfTime_7 : ∃ (_s : State) (d _k : Nat), (d < 2) :=
  ⟨sSys, 1, 0, by decide⟩

theorem test_StoresOfTime_8 : ∃ (s : State) (cx : Cx) (c : Ctx) (q r v : Nat), (s.Accepts cx c [⟨Reg.Tim.TS_POP, [q, r], v⟩] (Reg.Tim.TS_POP.addr [q, r])) :=
  ⟨(sTsq), ⟨72, 0⟩, cSys, 2, 1, 7, by decide⟩

theorem test_StoresOfTime_9 : ∃ (s : State) (cx : Cx) (c : Ctx), (s.Accepts cx c [⟨Reg.Tim.SNAP, [], 1⟩] (Reg.Tim.SNAP.addr [])) :=
  ⟨(sSys), ⟨72, 0⟩, cSys, by decide⟩

theorem test_StoresOfTime_10 : ∃ (_s : State) (cx : Cx), (ctxNo cx < 1280) :=
  ⟨sSys, cxS, by decide⟩

theorem test_StoresOfTime_11 : ∃ (s : State) (cx : Cx) (c : Ctx) (z v : Nat), (s.Accepts cx c [⟨Reg.Tim.TOD_SF_LO, [z], v⟩] (Reg.Tim.TOD_SF_LO.addr [z])) :=
  ⟨(sTail), ⟨72, 0⟩, cSys, 3, 9, by decide⟩

theorem test_StoresOfTime_12 : ∃ (s : State) (z _v : Nat), (z < 64) ∧ (s.head z = false) :=
  ⟨sTail, 3, 9, by decide⟩

theorem test_StoresOfLanesAndMemory_1 : ∃ (s : State) (cx : Cx) (c : Ctx) (u m : Nat), (s.Accepts cx c [⟨Reg.Lan.UL_MODE, [u], m⟩] (Reg.Lan.UL_MODE.addr [u])) :=
  ⟨(sSys), ⟨72, 0⟩, cSys, 4, 1, by decide⟩

theorem test_StoresOfLanesAndMemory_2 : ∃ (s : State) (cx : Cx) (c : Ctx) (u v : Nat), (s.Accepts cx c [⟨Reg.Lan.UL_EN, [u], v⟩] (Reg.Lan.UL_EN.addr [u])) :=
  ⟨(sSys), ⟨72, 0⟩, cSys, 4, 1, by decide⟩

theorem test_StoresOfLanesAndMemory_3 : ∃ (_s : State) (u m : Nat), (u < 32) ∧ (1 ≤ m) ∧ (m ≤ 9) :=
  ⟨sSys, 4, 1, by decide⟩

theorem test_StoresOfLanesAndMemory_4 : ∃ (s : State) (u : Nat), (u < 32) ∧ (s.rd Reg.Lan.UL_MODE [u] ≤ 9) :=
  ⟨sSys.wr Reg.Lan.UL_MODE [4] 1, 4, by decide⟩

theorem test_StoresOfLanesAndMemory_5 : ∃ (s : State) (cx : Cx) (c : Ctx) (l v : Nat), (s.Accepts cx c [⟨Reg.Lan.PRBS_GEN, [l], v⟩] (Reg.Lan.PRBS_GEN.addr [l])) :=
  ⟨(sLan), ⟨72, 0⟩, cSys, 4, 1, by decide⟩

theorem test_StoresOfLanesAndMemory_6 : ∃ (s : State) (cx : Cx) (c : Ctx) (l v : Nat), (s.Accepts cx c [⟨Reg.Lan.PRBS_CHK, [l], v⟩] (Reg.Lan.PRBS_CHK.addr [l])) :=
  ⟨(sLan), ⟨72, 0⟩, cSys, 4, 1, by decide⟩

theorem test_StoresOfLanesAndMemory_7 : ∃ (s : State) (cx : Cx) (c : Ctx) (l tx rx : Nat), (s.Accepts cx c [⟨Reg.Lan.PWR_TX, [l], tx⟩, ⟨Reg.Lan.PWR_RX, [l], rx⟩] (Reg.Lan.PWR_TX.addr [l])) :=
  ⟨(sSys), ⟨72, 0⟩, cSys, 4, 0, 0, by decide⟩

theorem test_StoresOfLanesAndMemory_8 : ∃ (_s : State) (l tx rx : Nat), (l < 88) ∧ (tx < 4) ∧ (rx < 4) :=
  ⟨sSys, 4, 0, 1, by decide⟩

theorem test_StoresOfLanesAndMemory_9 : ∃ (s : State) (cx : Cx) (c : Ctx), (s.Accepts cx c [⟨Reg.Mem.MEM_OPEN, [], 1⟩] (Reg.Mem.MEM_OPEN.addr [])) :=
  ⟨(sSys.wr Reg.Mem.MEM_TRAINED [] 0xFFFF), ⟨72, 0⟩, cSys, by decide⟩

theorem test_StoresOfLanesAndMemory_10 : ∃ (s : State) (cx : Cx) (c : Ctx), (s.Accepts cx c [⟨Reg.Buf.BUF_OPEN, [], 1⟩] (Reg.Buf.BUF_OPEN.addr [])) :=
  ⟨(sSys), ⟨72, 0⟩, cSys, by decide⟩

theorem test_StoresOfLanesAndMemory_11 : ∃ (s : State) (cx : Cx) (c : Ctx) (ref v : Nat) (ix : List Nat), (Reg.Buf.OWNER.at? ref = some ix) ∧ (s.Accepts cx c [⟨Reg.Buf.OWNER, ix, v⟩] (Reg.Buf.OWNER.addr ix)) ∧ (s.pairing = 0) :=
  ⟨(sOwn), ⟨72, 0⟩, cSys, (Reg.Buf.OWNER.addr [0, 7, 1]), (2 * 2 ^ 26 + 3), [0, 7, 1], by decide⟩

theorem test_StoresOfLanesAndMemory_12 : ∃ (s : State) (p i _g v n : Nat) (b : Buf), (s.bufs.get? (bufKey p i) = some b) ∧ (s.ownerTenant v = some n) :=
  ⟨sOwn, 0, 7, 1, (3 * 2 ^ 26), 0, { buf0 with owner := ownerSystem }, by decide⟩

theorem test_StoresOfLanesAndMemory_13 : ∃ (s : State) (cx : Cx) (c : Ctx), (s.Accepts cx c [⟨Reg.Key.CGO, [], 1⟩] (Reg.Key.CGO.addr [])) ∧ (c.kind = .script ∨ c.tenant = 0) :=
  ⟨sCgo, cxS, cScr, by decide⟩

theorem test_StoresOfTheSystem_1 : ∃ (s : State) (cx : Cx) (c : Ctx) (core : Nat), (s.Accepts cx c [⟨Reg.Cnt.TR_FREEZE, [core], 1⟩] (Reg.Cnt.TR_FREEZE.addr [core])) :=
  ⟨(sSys), ⟨72, 0⟩, cSys, 9, by decide⟩

theorem test_StoresOfTheSystem_2 : ∃ (s : State) (cx : Cx) (c : Ctx) (core : Nat), (s.Accepts cx c [⟨Reg.Cnt.TR_CLEAR, [core], 1⟩] (Reg.Cnt.TR_CLEAR.addr [core])) :=
  ⟨(sSys), ⟨72, 0⟩, cSys, 9, by decide⟩

theorem test_StoresOfTheSystem_3 : ∃ (_s : State) (core : Nat), (core < 80) :=
  ⟨sSys, 9, by decide⟩

theorem test_StoresOfTheSystem_4 : ∃ (s : State) (cx : Cx) (c : Ctx) (z : Nat), (s.Accepts cx c [⟨Reg.Reh.DARK_GO, [z], 1⟩] (Reg.Reh.DARK_GO.addr [z])) :=
  ⟨(sSys), ⟨72, 0⟩, cSys, 9, by decide⟩

theorem test_StoresOfTheSystem_5 : ∃ (s : State) (cx : Cx) (c : Ctx), (s.Accepts cx c [⟨Reg.Reh.LC_REQ, [], 1⟩] (Reg.Reh.LC_REQ.addr [])) :=
  ⟨(sSys), ⟨72, 0⟩, cSys, by decide⟩

theorem test_StoresOfTheSystem_6 : ∃ (s : State) (cx : Cx) (c : Ctx), (s.Accepts cx c [⟨Reg.Reh.LC_GO, [], 1⟩] (Reg.Reh.LC_GO.addr [])) :=
  ⟨(sSys.wr Reg.Hid.LC_ASKED [0] 1), ⟨72, 0⟩, cSys, by decide⟩

theorem test_StoresOfTheSystem_7 : ∃ (s : State), (s.tokenCheck ≠ (0, 0)) ∧ (s.tokenCheck.1 < 256) ∧ (s.tokenCheck.2 < 256) ∧ (s.tokenCheck.1 ≠ 0) :=
  ⟨sSys, by decide⟩

theorem test_StoresOfTheSystem_8 : ∃ (s : State), (s.tokenByte 5 ≠ 4) :=
  ⟨sTok, by decide⟩

theorem test_StoresOfTheSystem_9 : ∃ (s : State) (cx : Cx) (c : Ctx), (s.Accepts cx c [⟨Reg.Reh.MFG_TEST, [], 1⟩] (Reg.Reh.MFG_TEST.addr [])) :=
  ⟨(sSys), ⟨72, 0⟩, cSys, by decide⟩

theorem test_StoresOfTheSystem_10 : ∃ (s : State) (cx : Cx) (c : Ctx), (s.Accepts cx c [⟨Reg.Pwr.WDOG_KICK, [], 0xA5C3⟩] (Reg.Pwr.WDOG_KICK.addr [])) :=
  ⟨(sSys), ⟨72, 0⟩, cSys, by decide⟩

theorem test_StoresOfTheSystem_11 : ∃ (s : State) (cx : Cx) (c : Ctx), (s.Accepts cx c [⟨Reg.Pwr.ROLLBACK_BURN, [], 1⟩] (Reg.Pwr.ROLLBACK_BURN.addr [])) :=
  ⟨(sSys.wr Reg.Pwr.SYS_VERSION [] 4), ⟨72, 0⟩, cSys, by decide⟩

theorem test_ResetsThatHold_1 : ∃ (_s : State) (low : Nat), (low < 1550) :=
  ⟨sPr, 1500, by decide⟩

theorem test_ResetsThatHold_2 : ∃ (_s : State) (vin : Nat), (3950 < vin) :=
  ⟨sPr, 4000, by decide⟩

theorem test_ResetsThatHold_3 : ∃ (_s : State) (r _mv : Nat), (r < 8) :=
  ⟨sPr, 3, 700, by decide⟩

theorem test_ResetsThatHold_4 : ∃ (s : State) (temp : Int), (s.tjMax ≤ temp) :=
  ⟨sPr, 126, by decide⟩

theorem test_ResetsThatHold_5 : ∃ (_s : State) (k : Nat), (k ≤ 10) :=
  ⟨sPr, 3, by decide⟩

theorem test_ResetsThatHold_6 : ∃ (s : State) (low vin : Nat) (temp : Int), (1550 ≤ low) ∧ (vin ≤ 3950) ∧ (temp < s.tjMax) :=
  ⟨sPr, 1550, 3950, 119, by decide⟩

theorem test_ResetsThatBoot_1 : ∃ (s : State) (_b : Boot), (s.flag Reg.Hid.SYS_RUN [0] = true) ∧ (s.flag Reg.Pwr.WDOG_EN [] = true) ∧ (s.flag Reg.Bar.SYS_HALTED [] = false) ∧ (s.rd Reg.Hid.HELD [0] = 0) :=
  ⟨((sUp.wr Reg.Hid.SYS_RUN [0] 1).wr Reg.Pwr.WDOG_EN [] 1), boot0, by decide⟩

theorem test_ResetsThatBoot_2 : ∃ (s : State) (_b : Boot), (s.pairing ≠ 2) ∧ (s.rd Reg.Hid.HELD [0] = 0) :=
  ⟨sUp, boot0, by decide⟩

theorem test_ResetsThatBoot_3 : ∃ (s : State) (_b : Boot), (s.pairing = 2) ∧ (s.rd Reg.Hid.RST_AT [0] = 0) :=
  ⟨(sSys.wr Reg.Bar.PAIRING [] 2), boot0, by decide⟩

theorem test_ResetsThatBoot_4 : ∃ (_s : State) (_b : Boot) (k : Nat), (k % 65536 ≠ 0xC1EA) :=
  ⟨sSys, boot0, 5, by decide⟩

theorem test_ResetsThatBoot_5 : ∃ (s : State) (_b : Boot), (s.rd Reg.Hid.RST_AT [0] ≠ 0) ∧ (s.rd Reg.Hid.HELD [0] = 0) :=
  ⟨(sUp.wr Reg.Hid.RST_AT [0] 9), boot0, by decide⟩

theorem test_ResetsThatBoot_6 : ∃ (s : State) (_b : Boot), (s.rd Reg.Hid.HELD [0] = 0) :=
  ⟨sUp, boot0, by decide⟩

theorem test_ResetsThatBoot_7 : ∃ (_s : State) (k : Nat), (k ≤ 10) :=
  ⟨sPr, 3, by decide⟩

theorem test_ResetsThatBoot_8 : ∃ (s : State) (b : Boot), (bareBoot b) ∧ (s.lifecycle ≠ 4) ∧ (s.cpu.ctxs = []) ∧ (s.rd Reg.Bar.READY [] = 0) :=
  ⟨State.reset, boot0, by decide⟩

theorem test_ResetsThatBoot_9 : ∃ (s : State) (b : Boot) (i : Image), (b.src % 4 < 2) ∧ (b.slot0 = some i) ∧ (s.lifecycle ≠ 4) ∧ (s.checkImage i 1 none 0 0 = (0, 0)) :=
  ⟨State.reset, { boot0 with slot0 := some img1 }, img1, by decide, rfl, by decide, img1_ok⟩

theorem test_ResetsThatBoot_10 : ∃ (s : State) (_b : Boot), (s.rd Reg.Hid.HELD [0] &&& 113 ≠ 0) ∧ (s.rd Reg.Hid.HELD [0] ||| 113 = 113) :=
  ⟨(State.reset.wr Reg.Hid.HELD [0] 16), boot0, by decide⟩

theorem test_ResetsThatBoot_11 : ∃ (s : State) (_b : Boot), (s.rd Reg.Hid.HELD [0] = 2) :=
  ⟨(State.reset.wr Reg.Hid.HELD [0] 2), boot0, by decide⟩

theorem test_ResetsThatBoot_12 : ∃ (s : State) (_b : Boot), (s.rd Reg.Hid.HELD [0] = 2 ^ 7) :=
  ⟨(State.reset.wr Reg.Hid.HELD [0] 128), boot0, by decide⟩

theorem test_ResetsThatBoot_13 : ∃ (s : State) (temp : Int) (_b : Boot), (temp ≤ s.tjMax - 15) ∧ (s.rd Reg.Hid.HELD [0] = 2 ^ 8) :=
  ⟨(State.reset.wr Reg.Hid.HELD [0] 256), 90, boot0, by decide⟩

theorem test_ResetsThatBoot_14 : ∃ (s : State) (i : Image) (_n : Nat), (s.flag Reg.Bar.BOOT_WAIT [] = true) ∧ (s.checkImage i 1 (some (s.rd Reg.Bar.BOOT_LEN [])) 0 0 = (0, 0)) :=
  ⟨(State.reset.wr Reg.Bar.BOOT_WAIT [] 1).wr Reg.Bar.BOOT_LEN [] 325, img1, 0, by decide, img1_ok2⟩

theorem test_ResetsThatBoot_15 : ∃ (s : State) (i : Image) (_n : Nat), (s.flag Reg.Bar.BOOT_WAIT [] = true) ∧ ((s.checkImage i 1 (some (s.rd Reg.Bar.BOOT_LEN [])) 0 0).1 ≠ 0) :=
  ⟨(State.reset.wr Reg.Bar.BOOT_WAIT [] 1), img0, 0, by decide⟩

theorem test_ResetsThatBoot_16 : ∃ (s : State) (_d : Dma) (_n : Nat), (s.flag Reg.Bar.BOOT_WAIT [] = false) :=
  ⟨sSys, .headerError, 0, by decide⟩

theorem test_ResetsThatBoot_17 : ∃ (s : State), (s.flag Reg.Hid.SYS_RUN [0] = true) ∧ (s.timeOn = true) ∧ (s.flag Reg.Twn.PAIR_SET [] = true) ∧ (s.flag Reg.Mem.MEM_OPEN [] = true) ∧ (s.flag Reg.Buf.BUF_OPEN [] = true) ∧ (s.flag Reg.Bar.READY [] = false) :=
  ⟨{ (((sSys.wr Reg.Hid.SYS_RUN [0] 1).wr Reg.Twn.PAIR_SET [] 1).wr Reg.Mem.MEM_OPEN [] 1).wr Reg.Buf.BUF_OPEN [] 1 with timeOn := true }, by decide⟩

theorem test_ResetsThatBoot_18 : ∃ (s : State), (s.flag Reg.Mem.MEM_OPEN [] = false ∨ s.flag Reg.Buf.BUF_OPEN [] = false ∨ s.timeOn = false) :=
  ⟨sSys, by decide⟩

theorem test_ResetsOfTheHost_1 : ∃ (_s : State) (v : Nat), (1 ≤ v) ∧ (v ≤ 15) :=
  ⟨(sRing.wr Reg.Bar.SQ_TAIL [3] 5), 3, by decide⟩

theorem test_ResetsOfTheHost_2 : ∃ (_s : State) (v : Nat), (v ≤ 15) :=
  ⟨(sRing.wr Reg.Bar.SQ_TAIL [3] 5), 3, by decide⟩

theorem test_ResetsOfTheHost_3 : ∃ (_s : State) (g w : Nat), (g ∈ [2, 5, 8, 16, 32]) ∧ (w ∈ [1, 2, 4, 8]) :=
  ⟨sSys, 32, 8, by decide⟩

theorem test_ResetsOfTheHost_4 : ∃ (_s : State) (g w : Nat), (g ∉ [2, 5, 8, 16, 32] ∨ w ∉ [1, 2, 4, 8]) :=
  ⟨sSys, 7, 8, by decide⟩

theorem test_ResetsOfTheHost_5 : ∃ (s t : State) (cx : Cx) (c : Ctx) (a v : Word), (s.ctx? cx = some c) ∧ (s.toTwin a = false) ∧ ((s.freeWord).2.storeWord (whoOf cx c) a.toNat (s.freeWord).1 v = ((0, 0), t)) :=
  ⟨sSys, (sSys.freeWord.2.storeWord (whoOf ⟨72, 0⟩ cSys) (BitVec.ofNat 40 (Reg.Buf.BUF_OPEN.addr [])).toNat sSys.freeWord.1 1).2, ⟨72, 0⟩, cSys, BitVec.ofNat 40 (Reg.Buf.BUF_OPEN.addr []), 1, by decide, by decide, Prod.ext (by decide) rfl⟩

theorem test_ResetsOfTheHost_6 : ∃ (s t : State) (cx : Cx) (c : Ctx) (a v : Word) (x : Sub), (s.ctx? cx = some c) ∧ (s.toTwin a = false) ∧ ((s.freeWord).2.storeWord (whoOf cx c) a.toNat (s.freeWord).1 v = (x, t)) ∧ (x.1 ≠ 0) :=
  ⟨sSys, (sSys.freeWord.2.storeWord (whoOf ⟨72, 0⟩ cSys) (BitVec.ofNat 40 (2 ^ 34 - 1)).toNat sSys.freeWord.1 1).2, ⟨72, 0⟩, cSys, BitVec.ofNat 40 (2 ^ 34 - 1), 1, (sSys.freeWord.2.storeWord (whoOf ⟨72, 0⟩ cSys) (BitVec.ofNat 40 (2 ^ 34 - 1)).toNat sSys.freeWord.1 1).1, by decide, by decide, rfl, by decide⟩

theorem test_ResetsOfTheHost_7 : ∃ (s : State) (cx : Cx) (c : Ctx) (v : Nat), (s.ctx? cx = some c) ∧ (c.kind = .system) ∧ (v ≤ 600) :=
  ⟨sSys, ⟨72, 0⟩, cSys, 77, by decide⟩

theorem test_ResetsOfTheHost_8 : ∃ (s : State) (f v : Nat), (f < 16) ∧ (f = 0 → s.flag Reg.Bar.BOOT_WAIT [] = false) ∧ (v < 2 ^ 15) :=
  ⟨sRing, 0, 0x7321, by decide⟩

theorem test_ResetsOfTheHost_9 : ∃ (s : State) (f v : Nat) (m : Bool), (f < 16) ∧ (v < 16) ∧ (m = true ∨ s.flag Reg.Hid.MSIX_PEND [f, v] = false) :=
  ⟨sRing, 0, 3, true, by decide⟩

theorem test_ResetsOfTheHost_10 : ∃ (s : State) (f v : Nat), (f < 16) ∧ (v < 16) ∧ (s.flag Reg.Hid.MSIX_PEND [f, v] = true) :=
  ⟨(sRing.wr Reg.Hid.MSIX_PEND [0, 3] 1), 0, 3, by decide⟩

theorem test_ResetsOfTheHost_11 : ∃ (s : State) (_on : Bool), (s.flag Reg.Hst.LINK_UP [] = true) :=
  ⟨(sRing.wr Reg.Hst.LINK_UP [] 1), true, by decide⟩

theorem test_ResetsOfTheHost_12 : ∃ (_s : State) (f _off size : Nat), (f < 16) ∧ (size = 8 ∨ size = 4) :=
  ⟨sRing, 0, 0x1010, 8, by decide⟩

theorem test_ResetsOfTheHost_13 : ∃ (_s : State) (f _off _size : Nat), (f < 16) :=
  ⟨sRing, 0, 8, 8, by decide⟩

theorem test_ResetsOfTheHost_14 : ∃ (_s : State) (off len : Nat), (len ∈ [8, 16, 32, 64, 128, 256, 512]) ∧ (off % len = 0) :=
  ⟨sRing, 64, 32, by decide⟩

theorem test_ResetsOfTheHost_15 : ∃ (_s : State) (f off size _v : Nat), (f < 16) ∧ (size ≠ 8 ∨ off % 8 ≠ 0) :=
  ⟨sRing, 0, 0x1060, 4, 0, by decide⟩

theorem test_SupplyAndTemperature_1 : ∃ (s : State) (vin : Nat), (s.rd Reg.Hid.HELD [0] = 0) ∧ (s.flag Reg.Pwr.DIP_ACTIVE [] = false) ∧ (vin < s.rd Reg.Pwr.VIN_WARN []) :=
  ⟨sUp, 1600, by decide⟩

theorem test_SupplyAndTemperature_2 : ∃ (_s : State) (b : Nat) (_v : Bool), (b < 7) :=
  ⟨sUp, 5, true, by decide⟩

theorem test_SupplyAndTemperature_3 : ∃ (s : State) (_low vin us : Nat), (s.flag Reg.Pwr.DIP_ACTIVE [] = true) ∧ (s.rd Reg.Pwr.VIN_WARN [] + 20 < vin) ∧ (vin < 2 ^ 13) ∧ (us < 2 ^ 27) :=
  ⟨((sSys.wr Reg.Pwr.DIP_ACTIVE [] 1).wr Reg.Hid.DIP_LOW [0] 2300), 2200, 3300, 50, by decide⟩

theorem test_SupplyAndTemperature_4 : ∃ (s : State), (s.rd Reg.Hid.DIP_END [0] ≠ 0) :=
  ⟨(sSys.wr Reg.Hid.DIP_END [0] 7), by decide⟩

theorem test_SupplyAndTemperature_5 : ∃ (_s : State) (vin : Nat), (vin < 2 ^ Reg.Pwr.VIN_MV.w) :=
  ⟨sSys, 3750, by decide⟩

theorem test_SupplyAndTemperature_6 : ∃ (s : State) (r mv : Nat) (crit : Bool), (r < 8) ∧ (s.flag Reg.Pwr.RAIL_CRIT_R [r] ≠ crit) ∧ (mv < 2 ^ Reg.Pwr.RAIL_MV.w) :=
  ⟨sSys, 3, 700, true, by decide⟩

theorem test_SupplyAndTemperature_7 : ∃ (_s : State) (temp : Int) (sensor : Nat), (-128 ≤ temp) ∧ (temp ≤ 127) ∧ (sensor < 8) :=
  ⟨sSys, 101, 2, by decide⟩

theorem test_SupplyAndTemperature_8 : ∃ (s : State) (_o : AvsObs), (s.rd Reg.Hid.HELD [0] = 0) :=
  ⟨sUp, { slacks := [], lower := false }, by decide⟩

theorem test_SupplyAndTemperature_9 : ∃ (s : State) (_o : AvsObs), (s.rd Reg.Pwr.VCORE_MIN [] ≤ s.rd Reg.Pwr.VCORE_MAX []) ∧ (2 * s.rd Reg.Pwr.VCORE_MIN [] ≤ s.rd Reg.Hid.VCORE_H [0]) ∧ (s.rd Reg.Hid.VCORE_H [0] ≤ 2 * s.rd Reg.Pwr.VCORE_MAX []) ∧ (s.flag Reg.Pwr.AVS_EN [] = true) :=
  ⟨(sSys.wr Reg.Hid.VCORE_H [0] (2 * sSys.rd Reg.Pwr.VCORE_MIN [])).wr Reg.Pwr.AVS_EN [] 1, { slacks := [3], lower := false }, by decide⟩

theorem test_SupplyAndTemperature_10 : ∃ (_s : State) (j : Nat), (j < 4) :=
  ⟨sSys, 2, by decide⟩

theorem test_SupplyAndTemperature_11 : ∃ (_s : State) (j : Nat) (_v : Bool), (j < 4) :=
  ⟨sSys, 2, true, by decide⟩

theorem test_FramesAndSheets_1 : ∃ (s : State) (z : Nat) (_plain : Bool), (s.framing z = true) ∧ (s.flag Reg.Pon.BOND_PARTNER [z] = false) ∧ (s.timeOn = true) :=
  ⟨sPr, 0, false, by decide⟩

theorem test_FramesAndSheets_2 : ∃ (s : State) (z : Nat) (_plain : Bool), (s.framing z = true) ∧ (s.flag Reg.Pon.BOND_PARTNER [z] = false) ∧ (s.timeOn = true) ∧ (∀ q ∈ s.ptp.cues, s.boundDue z (s.nextBoundary z) q = false) :=
  ⟨sPr, 0, false, by decide +kernel⟩

theorem test_FramesAndSheets_3 : ∃ (s : State) (p : Nat) (_plain : Bool), (p < 64) ∧ (s.tail p = true) :=
  ⟨(sTail.wr Reg.Pon.LIGHT [3] 1), 3, true, by decide⟩

theorem test_FramesAndSheets_4 : ∃ (s : State) (z : Nat), (s.framing z = true) ∧ (s.flag Reg.Hid.F_RUN [z] = true) ∧ ((s.tree z).fixed = none) ∧ (s.flag Reg.Pon.BOND_PARTNER [z] = false) ∧ (s.understudy z = false) ∧ (s.flag Reg.Cue.LOADED [z] = true) ∧ ((s.tree z).sealed = true) ∧ ((s.tree z).late = false) :=
  ⟨(sPr.modTree 0 (fun t => { t with sealed := true })), 0, by decide⟩

theorem test_FramesAndSheets_5 : ∃ (s : State) (z : Nat), (s.framing z = true) ∧ (s.flag Reg.Hid.F_RUN [z] = true) ∧ ((s.tree z).fixed = none) ∧ (s.flag Reg.Pon.BOND_PARTNER [z] = false) ∧ (s.understudy z = false) ∧ (s.flag Reg.Cue.LOADED [z] = true) ∧ ((s.tree z).sealed = false) :=
  ⟨sPr, 0, by decide⟩

theorem test_FramesAndSheets_6 : ∃ (s : State) (z m : Nat) (rest : List Nat), (z < 64) ∧ (s.server z < 64) ∧ (s.flag Reg.Cue.IDLE_TREE [z] = false) ∧ (s.rd Reg.Hid.SPARE_STEP [z] = 0) ∧ (s.rd Reg.Hid.TEST_STEP [z] = 0) ∧ (s.freeWings = m :: rest) ∧ (m ≠ s.server z) ∧ (64 ≤ m) ∧ (m < 72) :=
  ⟨sPr, 0, 64, [65, 66, 67, 68, 69, 70, 71], by decide⟩

theorem test_Bursts_1 : ∃ (s : State) (z : Nat) (w : Win) (ws : List Win) (obs : BurstObs) (d : Int) (sc : Nat), (z < 64) ∧ (s.head z = true) ∧ (takeWin .grant (s.tree z).wins = some (w, ws)) ∧ (w.wide = false) ∧ (w.term < 1020) ∧ (s.ponClock = true) ∧ (s.timeOn = true) ∧ (searchDelim (s.searchReach z w) obs.scores = some (d, sc)) :=
  ⟨sWn, 0, win0, [], obs0, 3, 60, by decide⟩

theorem test_Bursts_2 : ∃ (s : State) (z : Nat) (w : Win) (ws : List Win) (obs : BurstObs), (z < 64) ∧ (s.head z = true) ∧ (takeWin .grant (s.tree z).wins = some (w, ws)) ∧ (w.wide = false) ∧ (obs.overrun = false) ∧ (searchDelim (s.searchReach z w) obs.scores = none) :=
  ⟨sWn, 0, win0, [], { obs0 with scores := [(2, 57)] }, by decide⟩

theorem test_Bursts_3 : ∃ (s : State) (z : Nat) (w : Win) (ws : List Win), (z < 64) ∧ (s.head z = true) ∧ (takeWin .grant (s.tree z).wins = some (w, ws)) :=
  ⟨sWn, 0, win0, [], by decide⟩

theorem test_Bursts_4 : ∃ (s : State) (z : Nat) (w : Win) (ws : List Win), (z < 64) ∧ (s.head z = true) ∧ (takeWin .grant (s.tree z).wins = some (w, ws)) ∧ (w.term < 1020) ∧ (s.timeOn = true) ∧ (s.rd Reg.Hid.MISS_RUN [z, w.term] = 0) :=
  ⟨sWn, 0, win0, [], by decide⟩

theorem test_Bursts_5 : ∃ (s : State) (z : Nat) (w : Win) (ws : List Win), (z < 64) ∧ (s.head z = true) ∧ (takeWin .grant (s.tree z).wins = some (w, ws)) ∧ (w.term < 1020) ∧ (s.rd Reg.Hid.MISS_RUN [z, w.term] = 1) :=
  ⟨(sWn.wr Reg.Hid.MISS_RUN [0, 5] 1), 0, win0, [], by decide⟩

theorem test_Bursts_6 : ∃ (lim : Int) (l : List (Int × Nat)) (d : Int) (sc : Nat), (searchDelim lim l = some (d, sc)) :=
  ⟨64, [(3, 60), (1, 59), (5, 60)], 3, 60, by decide⟩

theorem test_Bursts_7 : ∃ (s : State) (z : Nat) (w : Win) (ws : List Win) (_cs : List Candidate), (s.ranges z = true) ∧ (takeWin .disc (s.tree z).wins = some (w, ws)) :=
  ⟨(sPr.modTree 0 (fun t => { t with wins := [winD] })), 0, winD, [], [cand0], by decide⟩

theorem test_Bursts_8 : ∃ (s : State) (z : Nat) (_d : Decoded) (b : Burst) (rest : List Burst), (z < 64) ∧ ((s.tree z).bursts = b :: rest) ∧ (b.ok = false) :=
  ⟨(sPr.modTree 0 (fun t => { t with bursts := [{ bur0 with ok := false }] })), 0, noneDecoded, { bur0 with ok := false }, [], by decide⟩

theorem test_Bursts_9 : ∃ (s : State) (z : Nat) (d : Decoded) (b : Burst) (rest : List Burst), (z < 64) ∧ ((s.tree z).bursts = b :: rest) ∧ (b.ok = true) ∧ (d.frames = []) :=
  ⟨(sPr.modTree 0 (fun t => { t with bursts := [bur0] })), 0, { noneDecoded with codewords := 9 }, bur0, [], by decide⟩

theorem test_Bursts_10 : ∃ (s : State) (z : Nat), (z < 64) ∧ (s.head z = true) :=
  ⟨sPr, 0, by decide⟩

theorem test_Bursts_11 : ∃ (s : State) (z : Nat), (z < 64) ∧ (s.head z = true) ∧ (s.understudy z = false) :=
  ⟨sPr, 0, by decide⟩

theorem test_RangingOfTerminals_1 : ∃ (s : State) (z a : Nat) (c : Candidate) (rest : List (Nat × Candidate)) (n : Nat), (s.ranges z = true) ∧ (s.isEpon z = false) ∧ ((s.tree z).found = (a, c) :: rest) ∧ (s.recordOf z c.snHi c.snLo = some n) ∧ (n < 1020) ∧ (s.term z n = stIDLE) ∧ (s.flag Reg.Rng.ADMIN [z, n] = true) :=
  ⟨(sIdl.modTree 0 (fun t => { t with found := [(aT, cand0)] })), 0, aT, cand0, [], 5, by decide⟩

theorem test_RangingOfTerminals_2 : ∃ (s : State) (z a : Nat) (c : Candidate) (rest : List (Nat × Candidate)), (s.ranges z = true) ∧ (s.isEpon z = false) ∧ ((s.tree z).found = (a, c) :: rest) ∧ (s.recordOf z c.snHi c.snLo = none) :=
  ⟨(sPr.modTree 0 (fun t => { t with found := [(aT, cand0)] })), 0, aT, cand0, [], by decide⟩

theorem test_RangingOfTerminals_3 : ∃ (s : State) (z : Nat) (w : Win) (ws : List Win) (cs : List Candidate) (c : Candidate) (_g _h _ph _sd : Nat), (s.ranges z = true) ∧ (s.isEpon z = false) ∧ (takeWin .rng (s.tree z).wins = some (w, ws)) ∧ (w.term < 1020) ∧ (w.swWrote = false) ∧ (s.term z w.term = stRANGING) ∧ ((s.goodCands z w cs).find? (fun x => x.onu == w.term) = some c) ∧ (c.x ≤ (s.rate z).tickBits (s.dPre z)) ∧ ((s.rate z).bitTicks ((s.rate z).tickBits (s.dPre z) - c.x) ≤ 2438553) :=
  ⟨sRng, 0, winR, [], [candR], candR, 9, 9, 1, 7, by decide⟩

theorem test_RangingOfTerminals_4 : ∃ (s : State) (z : Nat) (w : Win) (ws : List Win) (cs : List Candidate) (_g _h _ph _sd : Nat), (s.ranges z = true) ∧ (s.isEpon z = false) ∧ (takeWin .rng (s.tree z).wins = some (w, ws)) ∧ (s.goodCands z w cs = []) :=
  ⟨sRng, 0, winR, [], [], 9, 9, 1, 7, by decide⟩

theorem test_RangingOfTerminals_5 : ∃ (s : State) (z : Nat) (w : Win) (ws : List Win), (s.ranges z = true) ∧ (takeWin .rng (s.tree z).wins = some (w, ws)) :=
  ⟨sRng, 0, winR, [], by decide⟩

theorem test_RangingOfTerminals_6 : ∃ (s : State) (z : Nat) (w : Win) (ws : List Win), (s.ranges z = true) ∧ (takeWin .rng (s.tree z).wins = some (w, ws)) ∧ (w.term < 1020) ∧ (s.term z w.term = stRANGING) ∧ (s.rd Reg.Rng.RANGE_TRY [z, w.term] < s.rd Reg.Rng.RANGE_TRIES [z]) ∧ (s.rd Reg.Hid.RNG_PREV [z, w.term] < 8) :=
  ⟨sRng, 0, winR, [], by decide⟩

theorem test_RangingOfTerminals_7 : ∃ (s : State) (z n : Nat) (_id : List Nat), (s.ranges z = true) ∧ (s.isEpon z = false) ∧ (n < 1020) ∧ (s.rd Reg.Key.MIC_SLOT [z, n] = 0) :=
  ⟨sPr, 0, 5, [1, 2], by decide⟩

theorem test_RangingOfTerminals_8 : ∃ (s : State) (z n : Nat) (_id : List Nat), (s.ranges z = true) ∧ (s.isEpon z = false) ∧ (n < 1020) ∧ (s.rd Reg.Key.MIC_SLOT [z, n] ≠ 0) :=
  ⟨(sPr.wr Reg.Key.MIC_SLOT [0, 5] 3), 0, 5, [1, 2], by decide⟩

theorem test_RangingOfTerminals_9 : ∃ (s : State) (z n : Nat), (s.ranges z = true) ∧ (s.isEpon z = false) ∧ (n < 1020) ∧ (s.rd Reg.Key.MIC_SLOT [z, n] = 0) ∧ (s.rd Reg.Hid.DRIFT_SENDS [z, n] ≠ 0) :=
  ⟨(sPr.wr Reg.Hid.DRIFT_SENDS [0, 5] 1), 0, 5, by decide⟩

theorem test_RangingOfTerminals_10 : ∃ (s : State) (z n : Nat), (s.ranges z = true) ∧ (s.isEpon z = false) ∧ (n < 1020) ∧ (s.rd Reg.Key.MIC_SLOT [z, n] = 0) :=
  ⟨(sPr.wr Reg.Rng.PWR_BUSY [0, 5] 1), 0, 5, by decide⟩

theorem test_RangingOfTerminals_11 : ∃ (s : State) (z n : Nat) (_k : AckKind), (s.ranges z = true) ∧ (s.isEpon z = false) ∧ (n < 1020) ∧ (s.rd Reg.Key.MIC_SLOT [z, n] ≠ 0) :=
  ⟨(sPr.wr Reg.Key.MIC_SLOT [0, 5] 3), 0, 5, .changePower, by decide⟩

theorem test_RangingOfTerminals_12 : ∃ (s : State) (z n : Nat), (s.ranges z = true) ∧ (n < 1020) ∧ (3 ≤ s.rd Reg.Hid.DRIFT_SENDS [z, n]) ∧ ((s.tree z).ctrl.any (fun m => m.kind == .rangingTime && m.term == n) = false) :=
  ⟨(sPr.wr Reg.Hid.DRIFT_SENDS [0, 5] 3), 0, 5, by decide⟩

theorem test_RangingOfTerminals_13 : ∃ (s : State) (z n : Nat), (s.ranges z = true) ∧ (n < 1020) ∧ (s.rd Reg.Hid.DRIFT_SENDS [z, n] = 1 ∨ s.rd Reg.Hid.DRIFT_SENDS [z, n] = 2) ∧ ((s.tree z).ctrl.any (fun m => m.kind == .rangingTime && m.term == n) = false) :=
  ⟨(sPr.wr Reg.Hid.DRIFT_SENDS [0, 5] 2), 0, 5, by decide⟩

theorem test_RangingOfTerminals_14 : ∃ (s : State) (z n _b : Nat), (n < 1020) ∧ (s.rd Reg.Hid.DRIFT_SENDS [z, n] < 3) :=
  ⟨sPr, 0, 5, 777600, by decide⟩

theorem test_RangingOfTerminals_15 : ∃ (s : State) (z a : Nat) (c : Candidate) (rest : List (Nat × Candidate)) (n : Nat), (s.ranges z = true) ∧ (s.isEpon z = true) ∧ ((s.tree z).found = (a, c) :: rest) ∧ (s.recordOf z c.snHi c.snLo = some n) ∧ (n < 1020) ∧ (s.term z n = stIDLE) ∧ (s.flag Reg.Rng.ADMIN [z, n] = true) ∧ (s.roundTrip z a c.ts ≤ s.rd Reg.Rng.EQD_ZERO [z]) ∧ (s.rd Reg.Rng.EQD_ZERO [z] ≤ s.roundTrip z a c.ts + 2438553) :=
  ⟨(sEpo.modTree 0 (fun t => { t with found := [(aT, candE)] })), 0, aT, candE, [], 5, by decide⟩

theorem test_RangingOfTerminals_16 : ∃ (s : State) (z n : Nat), (s.ranges z = true) ∧ (s.isEpon z = true) ∧ (n < 1020) ∧ (s.term z n = stRANGING) :=
  ⟨(sEpo.wr Reg.Rng.STATE [0, 5] 2), 0, 5, by decide⟩

theorem test_RangingOfTerminals_17 : ∃ (s : State) (z : Nat) (r : BufReport), (z < 64) ∧ (s.head z = true) ∧ (s.isEpon z = true) ∧ (r.alloc < 4096) :=
  ⟨sEpo, 0, { alloc := 1030, backlog := 500, valid := true }, by decide⟩

theorem test_RangingOfTerminals_18 : ∃ (s : State) (z n : Nat), (s.ranges z = true) ∧ (n < 1020) ∧ (s.term z n = stLOST ∨ s.term z n = stSN_KNOWN ∨ (s.term z n = stRANGING ∧ s.isEpon z = true)) :=
  ⟨(sPr.wr Reg.Rng.STATE [0, 5] 4), 0, 5, by decide⟩

theorem test_RangingOfTerminals_19 : ∃ (s : State) (z n : Nat), (s.ranges z = true) ∧ ((s.tree z).iso.on = true) ∧ ((s.tree z).iso.watch = 0) ∧ ((s.tree z).iso.attributed = true ∨ s.flag Reg.Rng.ROGUE_METHOD [z] = false) ∧ ((s.tree z).iso.test = [n]) ∧ ((s.tree z).iso.dirty = false) :=
  ⟨(sPr.modTree 0 (fun t => { t with iso := iso0 })), 0, 5, by decide⟩

theorem test_RangingOfTerminals_20 : ∃ (s : State) (z a b : Nat) (h rest : List Nat), (s.ranges z = true) ∧ ((s.tree z).iso.on = true) ∧ ((s.tree z).iso.watch = 0) ∧ ((s.tree z).iso.attributed = false) ∧ (s.flag Reg.Rng.ROGUE_METHOD [z] = true) ∧ ((s.tree z).iso.test = a :: b :: h) ∧ ((s.tree z).iso.rest = rest) :=
  ⟨((sPr.wr Reg.Rng.ROGUE_METHOD [0] 1).modTree 0 (fun t => { t with iso := { iso0 with attributed := false, test := [5, 6], rest := [7] } })), 0, 5, 6, [], [7], by decide⟩

theorem test_RangingOfTerminals_21 : ∃ (s : State) (z n : Nat), (s.ranges z = true) ∧ ((s.tree z).iso.on = true) ∧ ((s.tree z).iso.watch = 0) ∧ ((s.tree z).iso.attributed = true) ∧ ((s.tree z).iso.test = [n]) ∧ (n < 1020) ∧ ((s.tree z).iso.dirty = false) :=
  ⟨(sPr.modTree 0 (fun t => { t with iso := iso0 })), 0, 5, by decide⟩

theorem test_RangingOfTerminals_22 : ∃ (s : State) (z n : Nat), (s.ranges z = true) ∧ ((s.tree z).iso.on = true) ∧ ((s.tree z).iso.watch = 0) ∧ ((s.tree z).iso.attributed = true) ∧ ((s.tree z).iso.test = [n]) ∧ (n < 1020) ∧ ((s.tree z).iso.dirty = true) :=
  ⟨(sPr.modTree 0 (fun t => { t with iso := { iso0 with dirty := true } })), 0, 5, by decide⟩

theorem test_TailPorts_1 : ∃ (s : State) (p : Nat) (o : SyncObs), (p < 64) ∧ (s.tail p = true) ∧ (s.rd Reg.Pon.TAIL_SYNC [p] = 2) ∧ (o.pos = (s.tree p).syncs.getD 0 0 + s.frameBits p) ∧ (o.errors ≤ 2) :=
  ⟨sTail, 3, { pos := 1244160, errors := 1 }, by decide⟩

theorem test_TailPorts_2 : ∃ (s : State) (p : Nat) (o : SyncObs), (p < 64) ∧ (s.tail p = true) ∧ (s.rd Reg.Pon.TAIL_SYNC [p] = 2) ∧ (o.pos = (s.tree p).syncs.getD 0 0 + s.frameBits p) ∧ (2 < o.errors) ∧ (3 ≤ (s.tree p).syncs.getD 1 0) :=
  ⟨(sTail.modTree 3 (fun t => { t with syncs := [0, 3] })), 3, { pos := 1244160, errors := 9 }, by decide⟩

theorem test_TailPorts_3 : ∃ (s : State) (p : Nat) (o : SyncObs), (p < 64) ∧ (s.tail p = true) ∧ (s.rd Reg.Pon.TAIL_SYNC [p] ≠ 2) ∧ (o.errors ≤ 2) ∧ ((s.tree p).syncs = [o.pos - s.frameBits p]) ∧ (s.frameBits p ≤ o.pos) :=
  ⟨((sTail.wr Reg.Pon.TAIL_SYNC [3] 1).modTree 3 (fun t => { t with syncs := [5] })), 3, { pos := 1244165, errors := 0 }, by decide⟩

theorem test_TailPorts_4 : ∃ (s : State) (p : Nat) (a _start _size _frame : Nat), (s.tailSynced p = true) ∧ (a < 16) ∧ (s.flag Reg.Pon.TAIL_ID_VALID [p] = true) :=
  ⟨sTlv, 3, 1, 100, 20, 777600, by decide⟩

theorem test_TailPorts_5 : ∃ (s : State) (p : Nat) (_start _size _frame : Nat), (s.tailSynced p = true) ∧ (s.flag Reg.Pon.TAIL_ID_VALID [p] = false) :=
  ⟨(sTlv.wr Reg.Pon.TAIL_ID_VALID [3] 0), 3, 100, 20, 777600, by decide⟩

theorem test_TailPorts_6 : ∃ (s : State) (p : Nat) (_ploam : Bool) (a d size : Nat) (rest : List (Nat × Nat × Nat)), (s.tailSynced p = true) ∧ ((s.tree p).tailQ = (a, d, size) :: rest) ∧ (s.tailMaySend p = true) :=
  ⟨((sTlv.wr Reg.Pon.LIT [3] 1).modTree 3 (fun t => { t with tailQ := [(1, 900000, 20)] })), 3, true, 1, 900000, 20, [], by decide⟩

theorem test_TailPorts_7 : ∃ (s : State) (p : Nat) (_ploam : Bool) (a d size : Nat) (rest : List (Nat × Nat × Nat)), (s.tailSynced p = true) ∧ ((s.tree p).tailQ = (a, d, size) :: rest) ∧ (s.tailMaySend p = false) :=
  ⟨(sTlv.modTree 3 (fun t => { t with tailQ := [(1, 900000, 20)] })), 3, true, 1, 900000, 20, [], by decide⟩

theorem test_TailPorts_8 : ∃ (s : State) (p : Nat), (p < 64) ∧ (s.tail p = true) ∧ (s.flag Reg.Pon.LIT [p] = true) :=
  ⟨(sTlv.wr Reg.Pon.LIT [3] 1), 3, by decide⟩

theorem test_TailPorts_9 : ∃ (s : State) (p : Nat), (p < 64) ∧ (s.tail p = true) ∧ (s.rd Reg.Hid.TAIL_LOST_AT [p] ≠ 0) :=
  ⟨(sTlv.wr Reg.Hid.TAIL_LOST_AT [3] 9), 3, by decide⟩

theorem test_TailPorts_10 : ∃ (s : State) (p : Nat) (v : Bool), (p < 64) ∧ (s.flag Reg.Pon.LOS_IN [p] ≠ v) :=
  ⟨sTlv, 3, true, by decide⟩

theorem test_TailPorts_11 : ∃ (s : State) (p : Nat) (still : Bool), (p < 64) ∧ (s.tail p = true) ∧ ((s.rd Reg.Pon.DEFECT [p]).testBit 2 ≠ (s.flag Reg.Pon.LOS_IN [p] || still || !s.ponClock)) :=
  ⟨sTlv, 3, true, by decide⟩

theorem test_TailPorts_12 : ∃ (s : State) (p : Nat) (n k : Nat), (p < 64) ∧ (s.tail p = true) ∧ (0 < n) ∧ (n < k * 10 ^ s.rd Reg.Pon.SD_LIM [p]) ∧ ((s.rd Reg.Pon.DEFECT [p]).testBit 4 = false) :=
  ⟨sTlv, 3, 100, 9, by decide⟩

theorem test_TailPorts_13 : ∃ (s : State) (p : Nat), (p < 64) ∧ (s.head p = true) ∧ (s.rd Reg.Hid.UNC_RUN [p] = 9) ∧ (s.rd Reg.Pon.UNC_LIM [p] * s.rd Reg.Hid.CW_INT [p] < s.rd Reg.Hid.UNC_INT [p] * 1000000) ∧ ((s.rd Reg.Pon.DEFECT [p]).testBit 1 = false) :=
  ⟨((sPr.wr Reg.Hid.UNC_RUN [0] 9).wr Reg.Hid.UNC_INT [0] 1000), 0, by decide⟩

theorem test_TailPorts_14 : ∃ (s : State) (p : Nat) (n : Nat), (s.tailSynced p = true) ∧ (n < 2 ^ Reg.Hid.TAIL_PRE.w) :=
  ⟨(sTlv.wr Reg.Pon.LIT [3] 1), 3, 200, by decide⟩

theorem test_TailPorts_15 : ∃ (s : State) (p : Nat) (id ven num : Nat), (s.tailSn p ven num = true) ∧ (id < 1023) :=
  ⟨(sTlv.wr Reg.Pon.LIT [3] 1), 3, 7, 0, 0, by decide⟩

theorem test_TailPorts_16 : ∃ (s : State) (p : Nat) (id e : Nat), (s.tailFor p id = true) ∧ (e < 2 ^ Reg.Pon.TAIL_EQD.w) :=
  ⟨sTlv, 3, 1023, 777, by decide⟩

theorem test_TailPorts_17 : ∃ (s : State) (p : Nat) (id : Nat), (s.tailFor p id = true) :=
  ⟨sTlv, 3, 1023, by decide⟩

theorem test_TailPorts_18 : ∃ (s : State) (p : Nat) (ven num : Nat) (_en : Bool), (s.tailSn p ven num = true) :=
  ⟨sTlv, 3, 0, 0, false, by decide⟩

theorem test_TailPorts_19 : ∃ (s : State) (p : Nat) (id _k : Nat), (s.tailFor p id = true) :=
  ⟨sTlv, 3, 1023, 2, by decide⟩

theorem test_PairTimeAndClaims_1 : ∃ (s : State), (s.pairing ≠ 0) ∧ (s.flag Reg.Twn.PAIR_SET [] = true) ∧ (s.timeOn = false) ∧ (s.flag Reg.Hid.PROBED [0] = false) :=
  ⟨sGr, by decide⟩

theorem test_PairTimeAndClaims_2 : ∃ (s : State) (_e : Nat), (s.timeOn = false) :=
  ⟨sGr, 7, by decide⟩

theorem test_PairTimeAndClaims_3 : ∃ (s : State) (p : Probe), (s.pairing ≠ 0) ∧ (s.flag Reg.Twn.LANES_UP [] = true) ∧ (s.timeOn = false) ∧ (p.running = true) :=
  ⟨sGr, { err := 0, running := true, alone := true, twinExt := 900, latency := 30 }, by decide⟩

theorem test_PairTimeAndClaims_4 : ∃ (s : State) (p : Probe), (s.pairing ≠ 0) ∧ (s.flag Reg.Twn.LANES_UP [] = true) ∧ (s.timeOn = false) ∧ (p.running = false) :=
  ⟨sGr, { err := 0, running := false, alone := false, twinExt := 0, latency := 30 }, by decide⟩

theorem test_PairTimeAndClaims_5 : ∃ (s : State) (p : Probe), (s.pairing ≠ 0) ∧ (s.flag Reg.Twn.LANES_UP [] = true) ∧ (s.timeOn = true) ∧ (-128 ≤ p.err) ∧ (p.err ≤ 127) :=
  ⟨sGrT, { err := -3, running := true, alone := true, twinExt := 900, latency := 30 }, by decide⟩

theorem test_PairTimeAndClaims_6 : ∃ (s : State), (s.pairing ≠ 0) ∧ (s.rd Reg.Hid.CUE_ACC [0] < 400) :=
  ⟨sGrT, by decide⟩

theorem test_PairTimeAndClaims_7 : ∃ (s : State), (s.pairing ≠ 0) ∧ (s.rd Reg.Hid.CUE_ACC [0] < 336) :=
  ⟨sGrT, by decide⟩

theorem test_PairTimeAndClaims_8 : ∃ (r : Nat) (l : List Nat), (r < 2 ^ 58) ∧ (∀ b ∈ l, b < 2) :=
  ⟨5, [1, 0, 1, 1], by decide⟩

theorem test_PairTimeAndClaims_9 : ∃ (_lanes : Bool) (unit mode : Nat) (f : CueFrame), (unit < 2) ∧ (mode < 4) ∧ (f.flags < 256) ∧ (f.hb < 2 ^ 24) ∧ (f.stamp < 2 ^ 40) :=
  ⟨false, 1, 2, { hb := 7, stamp := 100000, flags := 5, lit := 3, claims := [9] }, by decide⟩

theorem test_PairTimeAndClaims_10 : ∃ (s : State) (r : RxFrame), (s.pairing ≠ 0) ∧ (r.lanes = true) ∧ (s.flag Reg.Twn.LANES_UP [] = true) :=
  ⟨sGrT, rx0, by decide⟩

theorem test_PairTimeAndClaims_11 : ∃ (s : State) (r : RxFrame), (s.pairing ≠ 0) ∧ (r.lanes = false) ∧ (syncErrors r.line ≤ 2) ∧ (s.flag Reg.Twn.CUE_UP [] = true) :=
  ⟨(sGrT.wr Reg.Twn.CUE_UP [] 1), { rx0 with lanes := false, line := cueSync * 2 ^ 1212 + 77 }, by decide +kernel⟩

theorem test_PairTimeAndClaims_12 : ∃ (s : State) (r : RxFrame), (s.pairing ≠ 0) ∧ (r.lanes = false) ∧ (syncErrors r.line ≤ 2) ∧ (s.flag Reg.Twn.CUE_UP [] = false) ∧ (s.flag Reg.Hid.CUE_SYNCS [0] = true) ∧ (r.spaced = true) :=
  ⟨((sGrT.wr Reg.Twn.CUE_UP [] 0).wr Reg.Hid.CUE_SYNCS [0] 1), { rx0 with lanes := false, line := cueSync * 2 ^ 1212 + 77 }, by decide +kernel⟩

theorem test_PairTimeAndClaims_13 : ∃ (s : State) (r : CueRx), (s.pairing ≠ 0) ∧ (r.crcOk = true) ∧ (r.typ = 1) ∧ ((sdiff r.stamp s.nowW).natAbs ≤ 62208) ∧ (r.unit ≠ s.env.unit) ∧ (r.mode = s.pairing) ∧ (r.hb < 2 ^ 24) ∧ (s.rd Reg.Hid.CARRIER_HB [bit r.lanes] ≠ r.hb + 1) ∧ (∀ f ∈ s.pair.rcvd, f.hb ≠ r.hb) :=
  ⟨sGrT, cueR, by decide⟩

theorem test_PairTimeAndClaims_14 : ∃ (_s : State) (r : CueRx), (r.crcOk = false ∨ r.typ ≠ 1) :=
  ⟨sGrT, { cueR with crcOk := false }, by decide⟩

theorem test_PairTimeAndClaims_15 : ∃ (s : State) (r : CueRx), (r.crcOk = true) ∧ (r.typ = 1) ∧ ((sdiff r.stamp s.nowW).natAbs ≤ 62208) ∧ (s.rd Reg.Hid.CARRIER_HB [bit r.lanes] ≠ r.hb % 2 ^ 24 + 1) ∧ (r.unit = s.env.unit ∨ r.mode ≠ s.pairing) :=
  ⟨sGrT, { cueR with unit := 0 }, by decide⟩

theorem test_PairTimeAndClaims_16 : ∃ (s : State), (s.pairing ≠ 0) ∧ (s.flag Reg.Twn.CUE_UP [] = true) :=
  ⟨(sGrT.wr Reg.Twn.CUE_UP [] 1), by decide⟩

theorem test_PairTimeAndClaims_17 : ∃ (s : State), (s.pairing ≠ 0) ∧ (s.flag Reg.Twn.TWIN_LOST [] = false) ∧ (s.timeOn = true) :=
  ⟨sGrT, by decide⟩

theorem test_PairTimeAndClaims_18 : ∃ (s : State) (z : Nat), (z < 64) ∧ (s.rd Reg.Hid.WTR_END [z] ≠ 0) ∧ (s.flag Reg.Twn.WTR_RUN [z] = true) :=
  ⟨((sGrT.wr Reg.Hid.WTR_END [4] 90).wr Reg.Twn.WTR_RUN [4] 1), 4, by decide⟩

theorem test_PairSheetsAndMirrors_1 : ∃ (s : State) (z k : Nat) (m : SheetMsg) (es : List Entry) (al : Bool) (rest : List (Nat × List Entry × Bool)), (s.framing z = true) ∧ (s.understudy z = true) ∧ (s.flag Reg.Twn.LANES_UP [] = true) ∧ (s.ownFrame z m.frame = (k : Int)) ∧ ((s.tree z).shadow = (k, es, al) :: rest) :=
  ⟨sShd, 0, 5, { frame := 2, entries := [msg0], shift := 8, summary := [] }, [], false, [], by decide⟩

theorem test_PairSheetsAndMirrors_2 : ∃ (s : State) (z k : Nat) (es : List Entry) (al : Bool) (rest : List (Nat × List Entry × Bool)), (s.framing z = true) ∧ (s.understudy z = true) ∧ ((s.tree z).shadow = (k, es, al) :: rest) :=
  ⟨sShd, 0, 5, [], false, [], by decide⟩

theorem test_PairSheetsAndMirrors_3 : ∃ (s : State) (z : Nat), (z < 64) ∧ (s.flag Reg.Twn.VERIFYING [z] = true) ∧ (s.rd Reg.Twn.N_VERIFY [] ≤ s.rd Reg.Hid.VERIFY_N [z]) :=
  ⟨((sGrT.wr Reg.Twn.VERIFYING [4] 1).wr Reg.Hid.VERIFY_N [4] 15), 4, by decide⟩

theorem test_PairSheetsAndMirrors_4 : ∃ (s : State) (z : Nat), (z < 64) ∧ ((s.rd Reg.Twn.PEN [z]).testBit 6 = false) :=
  ⟨sGrT, 4, by decide⟩

theorem test_PairSheetsAndMirrors_5 : ∃ (s : State) (_seq : Nat) (m : MirrorOp), (s.pairing ≠ 0) ∧ (s.flag Reg.Twn.LANES_UP [] = true) ∧ (s.env.unit ≠ 0 ∨ sharedOp m = false) :=
  ⟨sGrT, 7, .word 0 1, by decide⟩

theorem test_PairSheetsAndMirrors_6 : ∃ (s : State) (_seq : Nat) (m : MirrorOp), (s.pairing ≠ 0) ∧ (s.flag Reg.Twn.LANES_UP [] = true) ∧ (s.env.unit = 0) ∧ (sharedOp m = true) ∧ ((match m with | .learn .. => true | _ => false) = false) :=
  ⟨sGrT, 7, .raked 3 [], by decide⟩

theorem test_PairSheetsAndMirrors_7 : ∃ (s : State) (_seq _a _b _d _n : Nat) (_w _x : Bool), (s.pairing ≠ 0) ∧ (s.flag Reg.Twn.LANES_UP [] = true) ∧ (s.env.unit = 0) :=
  ⟨sGrT, 7, 1, 2, 3, 0, false, false, by decide⟩

theorem test_PairSheetsAndMirrors_8 : ∃ (s : State) (a : Nat) (_v : Word), (s.mirrors a = false) :=
  ⟨sGrT, (Reg.Pon.LIGHT.addr [0]), 1, by decide⟩

theorem test_PairSheetsAndMirrors_9 : ∃ (s : State) (_cx : Cx) (_k : CtxKind) (_n _a : Nat), (s.pairing ≠ 0) ∧ (s.flag Reg.Twn.LANES_UP [] = true) ∧ (s.pairOk = true) :=
  ⟨(tPair sGrT 1), cxS, .script, 0, Reg.Rng.STATE.addr [0, 5], by decide⟩

theorem test_PairSheetsAndMirrors_10 : ∃ (s : State) (_cx : Cx) (_k : CtxKind) (_n _a : Nat) (_v : Word), (s.pairing ≠ 0) ∧ (s.flag Reg.Twn.LANES_UP [] = true) ∧ (s.pairOk = true) :=
  ⟨(tPair sGrT 1), cxS, .script, 0, Reg.Buf.BUF_OPEN.addr [], 1, by decide⟩

theorem test_PairSheetsAndMirrors_11 : ∃ (s : State) (_cx : Cx) (_k : CtxKind) (_n _a : Nat) (_x : AccKind) (_b _c : Word), (s.pairing ≠ 0) ∧ (s.flag Reg.Twn.LANES_UP [] = true) ∧ (s.pairOk = true) :=
  ⟨(tPair sGrT 1), cxS, .script, 0, Reg.Buf.BUF_OPEN.addr [], .add, 1, 0, by decide⟩

theorem test_PairSheetsAndMirrors_12 : ∃ (s : State) (_cx : Cx) (_k : CtxKind) (_n _a : Nat) (_ws : List Word), (s.pairing ≠ 0) ∧ (s.flag Reg.Twn.LANES_UP [] = true) ∧ (s.pairOk = true) :=
  ⟨(tPair sGrT 1), cxS, .script, 0, 7, [], by decide⟩

theorem test_PairSheetsAndMirrors_13 : ∃ (s : State) (_cx : Cx) (_k : CtxKind) (_n : Nat) (_op : RemoteOp), (s.pairing ≠ 0) ∧ (s.flag Reg.Twn.LANES_UP [] = true) ∧ (s.pairOk = false) :=
  ⟨sGrT, cxS, .script, 0, .load 0, by decide⟩

theorem test_PairSheetsAndMirrors_14 : ∃ (s : State) (ms : List MirrorOp), (s.pairLive = true) ∧ (s.flag Reg.Hid.FORMED [0] = false) ∧ ((((ms.filter s.replacesOp).foldl State.resynced (s.wr Reg.Hid.FORMED [0] 1)).raise 0xAA (Reg.Twn.PAIRING.addr []) [(ms.filter s.replacesOp).length]).pairing ≠ 2) :=
  ⟨(tPair sGrT 1).wr Reg.Hid.FORMED [0] 0, [.word 0 1], by decide +kernel⟩

theorem test_PairSheetsAndMirrors_15 : ∃ (s : State) (ms : List MirrorOp), (s.pairLive = true) ∧ (s.flag Reg.Hid.FORMED [0] = false) ∧ ((((ms.filter s.replacesOp).foldl State.resynced (s.wr Reg.Hid.FORMED [0] 1)).raise 0xAA (Reg.Twn.PAIRING.addr []) [(ms.filter s.replacesOp).length]).pairing = 2) :=
  ⟨(tPair sGrT 2).wr Reg.Hid.FORMED [0] 0, [.word 0 1], by decide +kernel⟩

theorem test_PairSheetsAndMirrors_16 : ∃ (c q : Nat) (data : List Nat), (1 ≤ c) ∧ (c ≤ 6) ∧ (q < 2 ^ 16) ∧ (data.length < 2 ^ 24) :=
  ⟨4, 7, [1, 2, 3], by decide⟩

theorem test_PairSheetsAndMirrors_17 : ∃ (s : State) (rx : TwinRx) (q _m _r z f _t _p : Nat) (_x : TwinReply) (_b _y : Bool) (_l : List Nat), (s.pairing ≠ 0) ∧ (s.flag Reg.Lan.RX_UP [] = true) ∧ (messageOk rx.wire = true) ∧ (rx.waiting < chanDepth 4) ∧ (z < 64) ∧ (f < 16384) ∧ (q < 147456) :=
  ⟨(sGrT.wr Reg.Lan.RX_UP [] 1), ⟨(nextBlocks 2 [txMsg 7 (4, [])]).1.map TwBlock.blk, 0⟩, 7, 1, 2, 3, 4, 5, 6, rep0, true, false, [1, 2], by decide +kernel⟩

theorem test_PairSheetsAndMirrors_18 : ∃ (s : State) (rx : TwinRx) (_m : TwinMsg), (s.pairing ≠ 0) ∧ (s.flag Reg.Lan.RX_UP [] = false ∨ messageOk rx.wire = false) :=
  ⟨(sGrT.wr Reg.Lan.RX_UP [] 1), ⟨[], 0⟩, .ack 7, by decide +kernel⟩

theorem test_PairSheetsAndMirrors_19 : ∃ (s : State) (rx : TwinRx) (_q : Nat), (s.pairing ≠ 0) ∧ (s.flag Reg.Lan.RX_UP [] = true) ∧ (messageOk rx.wire = true) ∧ (chanDepth 4 ≤ rx.waiting) :=
  ⟨(sGrT.wr Reg.Lan.RX_UP [] 1), ⟨(nextBlocks 2 [txMsg 7 (4, [])]).1.map TwBlock.blk, 100000⟩, 7, by decide +kernel⟩

theorem test_PairSheetsAndMirrors_20 : ∃ (s : State) (m : TwinOut), (s.unacked.find? (fun x => x.seq == m.seq) = some m) ∧ (m.acked = false) ∧ (m.tries < 3) :=
  ⟨{ sGrT with unacked := [tout0] }, tout0, by decide⟩

theorem test_PairSheetsAndMirrors_21 : ∃ (s : State) (m : TwinOut), (s.unacked.find? (fun x => x.seq == m.seq) = some m) ∧ (m.acked = false) ∧ (3 ≤ m.tries) :=
  ⟨{ sGrT with unacked := [{ tout0 with tries := 3 }] }, { tout0 with tries := 3 }, by decide⟩

theorem test_LanesAndLinks_1 : ∃ (s : State) (u : Nat), (s.linkable u = true) ∧ (s.flag Reg.Lan.AN_EN [u] = true) ∧ (s.rd Reg.Lan.UL_MODE [u] ≤ 9) :=
  ⟨sLk, 4, by decide⟩

theorem test_LanesAndLinks_2 : ∃ (s : State) (u m f : Nat), (s.linkable u = true) ∧ (s.flag Reg.Lan.AN_EN [u] = true) ∧ (m ≠ s.rd Reg.Lan.UL_MODE [u] ∨ f ≠ s.fecSel u) :=
  ⟨sLk, 4, 3, 0, by decide⟩

theorem test_LanesAndLinks_3 : ∃ (s : State) (u : Nat) (v : Bool), (s.flag Reg.Lan.LOCAL_FAULT [u] ≠ v) :=
  ⟨sLk, 4, true, by decide⟩

theorem test_LanesAndLinks_4 : ∃ (s : State) (u : Nat) (_r : Bool), (s.linkable u = true) ∧ (s.flag Reg.Lan.AN_EN [u] = false) :=
  ⟨(sLk.wr Reg.Lan.AN_EN [4] 0), 4, true, by decide⟩

theorem test_LanesAndLinks_5 : ∃ (s : State) (u : Nat) (_r : Bool), (u < 32) ∧ (s.flag Reg.Lan.MEMBER [u] = false) ∧ (s.rd Reg.Lan.UL_MODE [u] ≠ 0) :=
  ⟨sLk, 4, false, by decide⟩

theorem test_LanesAndLinks_6 : ∃ (s : State) (ms : List Marker) (m : Marker), (s.pairing ≠ 0) ∧ (majority ms = some m) ∧ (m.reform = false) ∧ (m.ack = false) ∧ (m.txSet < 2 ^ 24) ∧ (m.rxUsable < 2 ^ 24) :=
  ⟨sGrT, [mk0, mk0], mk0, by decide⟩

theorem test_LanesAndLinks_7 : ∃ (s : State) (ms : List Marker) (m : Marker), (s.pairing ≠ 0) ∧ (majority ms = some m) ∧ (m.reform = true) ∧ (∀ l < 24, s.rd Reg.Lan.PWR_TX [64 + l] = 0) ∧ (m.txSet < 2 ^ 24) ∧ (m.rxUsable < 2 ^ 24) ∧ (s.unacked = []) ∧ (s.cipher.slots = []) :=
  ⟨sGrT, [{ mk0 with reform := true }], { mk0 with reform := true }, by decide⟩

theorem test_LanesAndLinks_8 : ∃ (s : State) (l : Nat) (_b : Bool), (l < 24) ∧ (s.pairing ≠ 0) ∧ ((s.rd Reg.Lan.RX_SET []).testBit l = true) ∧ (s.flag Reg.Lan.BLOCK_LOCK [64 + l] = true) ∧ (s.flag Reg.Lan.ALIGN_LOCK [64 + l] = true) :=
  ⟨((((sGrT.wr Reg.Lan.RX_SET [] 0xFFFFFF).wr Reg.Lan.BLOCK_LOCK [66] 1).wr Reg.Lan.ALIGN_LOCK [66] 1).wr Reg.Lan.RX_UP [] 1), 2, true, by decide⟩

theorem test_LanesAndLinks_9 : ∃ (s : State) (l : Nat), (l < 24) ∧ (s.pairing ≠ 0) ∧ (s.usable l = true) ∧ (s.rd Reg.Hid.TW_SINCE [l] ≠ 0) ∧ (s.flag Reg.Hid.TW_FORMED [0] = true) ∧ ((s.rd Reg.Hid.TW_ADV [0]).testBit l = false) :=
  ⟨(((((((sGrT.wr Reg.Lan.BLOCK_LOCK [66] 1).wr Reg.Lan.ALIGN_LOCK [66] 1).wr Reg.Hid.TW_SINCE [2] 5).wr Reg.Hid.TW_FORMED [0] 1).wr Reg.Lan.PWR_RX [66] 0).wr Reg.Lan.TW_LANE_EN [66] 1)), 2, by decide⟩

theorem test_LanesAndLinks_10 : ∃ (s : State) (l n : Nat), (l < 32) ∧ (s.flag Reg.Lan.SD [l] = false) ∧ (n < s.rd Reg.Hid.LANE_ERR [l, 0] * 10 ^ s.rd Reg.Lan.SD_EXP [l]) ∧ (s.pairing = 0) :=
  ⟨(sLk.wr Reg.Hid.LANE_ERR [4, 0] 3), 4, 10, by decide⟩

theorem test_LanesAndLinks_11 : ∃ (s : State) (l n : Nat), (l < 32) ∧ (s.flag Reg.Lan.SF [l] = false) ∧ (n < s.rd Reg.Hid.LANE_ERR [l, 1] * 10 ^ s.rd Reg.Lan.SF_EXP [l]) ∧ (s.pairing = 0) ∧ (s.firstLane l < 32) :=
  ⟨((sLk.wr Reg.Lan.LINK_UP [4] 1).wr Reg.Hid.LANE_ERR [4, 1] 3), 4, 10, by decide⟩

theorem test_LanesAndLinks_12 : ∃ (s : State) (l _a _b : Nat), (s.laneLives l = true) :=
  ⟨sLk, 4, 1, 2, by decide⟩

theorem test_LanesAndLinks_13 : ∃ (s : State) (l : Nat) (_vs : List Bool), (s.laneLives l = true) :=
  ⟨sGrT, 66, [true, false], by decide⟩

theorem test_LanesAndLinks_14 : ∃ (_s : State) (l : Nat) (_b _a : Bool), (l < 32) :=
  ⟨sLk, 4, true, true, by decide⟩

theorem test_LanesAndLinks_15 : ∃ (s : State) (l : Nat) (_es : List Nat), (s.laneLives l = true) ∧ (s.rd Reg.Lan.PRBS_CHK [l] ≠ 0) :=
  ⟨(sLk.wr Reg.Lan.PRBS_CHK [4] 1), 4, [0, 1], by decide⟩

theorem test_LanesAndLinks_16 : ∃ (s : State) (l : Nat) (_g : Int) (_w : TapWish), (s.laneLives l = true) ∧ (s.flag Reg.Lan.EQ_MODE [l] = true) ∧ (s.rd Reg.Lan.PWR_RX [l] = 0) ∧ (s.rd Reg.Lan.CTLE_MIN [l] ≤ s.rd Reg.Lan.CTLE_MAX [l]) :=
  ⟨(sLk.wr Reg.Lan.EQ_MODE [4] 1), 4, 99, ⟨[200, -3], some (1, 2, 3)⟩, by decide⟩

theorem test_LanesAndLinks_17 : ∃ (s : State) (l i : Nat) (_g v : Int) (w : TapWish), (s.laneLives l = true) ∧ (s.flag Reg.Lan.EQ_MODE [l] = true) ∧ (s.rd Reg.Lan.PWR_RX [l] = 0) ∧ (i < lanesTaps l) ∧ (w.rx[i]? = some v) :=
  ⟨(sLk.wr Reg.Lan.EQ_MODE [4] 1), 4, 1, 99, -3, ⟨[200, -3], none⟩, by decide⟩

theorem test_LanesAndLinks_18 : ∃ (s : State) (l : Nat) (_g : Int) (_ts : List Int), (s.flag Reg.Lan.EQ_MODE [l] = false) :=
  ⟨(sLk.wr Reg.Lan.EQ_MODE [4] 0), 4, 9, [5], by decide⟩

theorem test_LanesAndLinks_19 : ∃ (s : State) (l : Nat) (_g : Int) (_ts : List Int) (_a _b _c : Int), (l < 32) ∧ (s.flag Reg.Lan.EQ_MODE [l] = false) ∧ (s.flag Reg.Lan.AN_EN [s.firstLane l] = true) :=
  ⟨(sLk.wr Reg.Lan.EQ_MODE [4] 0), 4, 0, [7], 3, -9, 2, by decide⟩

theorem test_ClocksAndLatches_1 : ∃ (s : State) (d : Nat), (d < 2) ∧ (s.flag Reg.Tim.MASTER [d] = true) ∧ (s.outDom ≠ d) :=
  ⟨(sSys.wr Reg.Tim.MASTER [1] 1), 1, by decide⟩

theorem test_ClocksAndLatches_2 : ∃ (s : State) (d : Nat), (d < 2) ∧ (s.flag Reg.Tim.MASTER [d] = true) ∧ (s.outDom = d) ∧ (s.flag Reg.Tim.OUT_VALID [] = true) ∧ (s.flag Reg.Tim.AUTO_SW [] = true) ∧ (s.flag Reg.Tim.MASTER [1 - d] = true) :=
  ⟨((((sSys.wr Reg.Tim.MASTER [0] 1).wr Reg.Tim.MASTER [1] 1).wr Reg.Tim.OUT_VALID [] 1).wr Reg.Tim.AUTO_SW [] 1), 0, by decide⟩

theorem test_ClocksAndLatches_3 : ∃ (s : State) (d : Nat), (d < 2) ∧ (s.flag Reg.Tim.MASTER [d] = true) ∧ (s.outDom = d) ∧ (s.flag Reg.Tim.OUT_VALID [] = true) ∧ (s.flag Reg.Tim.AUTO_SW [] = true) ∧ (s.flag Reg.Tim.MASTER [1 - d] = false) :=
  ⟨(((((sSys.wr Reg.Tim.MASTER [0] 1).wr Reg.Tim.MASTER [1] 0).wr Reg.Tim.OUT_VALID [] 1).wr Reg.Tim.AUTO_SW [] 1)), 0, by decide⟩

theorem test_ClocksAndLatches_4 : ∃ (s : State) (f : PtpFrame) (m : PtpMsg), (f.port < 32) ∧ (ptpMsg f.bytes = some m) ∧ (m.mtype = 0) ∧ (f.rx = false) ∧ (m.twoStep = false) ∧ (m.trailer f.bytes = true) ∧ (s.flag Reg.Tim.ONE_STEP [f.port] = true) :=
  ⟨(sSys.wr Reg.Tim.ONE_STEP [2] 1), { port := 2, rx := false, bytes := ptpS }, ptpM 0, by decide⟩

theorem test_ClocksAndLatches_5 : ∃ (s : State) (f : PtpFrame) (m : PtpMsg), (f.port ≤ 32) ∧ (ptpMsg f.bytes = some m) ∧ (f.rx = true) ∧ (s.flag Reg.Tim.TS_EN [f.port] = true) ∧ ((s.tsq f.port 1).length < 64) :=
  ⟨(sSys.wr Reg.Tim.TS_EN [2] 1), { port := 2, rx := true, bytes := ptpS }, ptpM 0, by decide⟩

theorem test_ClocksAndLatches_6 : ∃ (s : State) (f : PtpFrame) (m : PtpMsg), (f.port ≤ 32) ∧ (ptpMsg f.bytes = some m) ∧ (f.rx = true) ∧ (s.flag Reg.Tim.TS_EN [f.port] = true) ∧ (64 ≤ (s.tsq f.port 1).length) :=
  ⟨((sSys.wr Reg.Tim.TS_EN [2] 1).putTsq 2 1 (List.replicate 64 [])), { port := 2, rx := true, bytes := ptpS }, ptpM 0, by decide⟩

theorem test_ClocksAndLatches_7 : ∃ (_s : State) (f : PtpFrame), (ptpMsg f.bytes = none ∨ 32 < f.port) :=
  ⟨sSys, { port := 2, rx := true, bytes := [] }, by decide⟩

theorem test_ClocksAndLatches_8 : ∃ (b : List Nat) (o : Nat), (typeAt b = o) ∧ (netNum b o 2 = 0x88F7) ∧ (o + 36 ≤ b.length) ∧ (netNum b (o + 2) 1 % 16 ≤ 3) :=
  ⟨ptpS, 12, by decide⟩

theorem test_ClocksAndLatches_9 : ∃ (s : State) (z : Nat) (x : Tod), (z < 64) ∧ (s.ptp.tod.get? z = some x) ∧ (x.pred = none) ∧ (0 ≤ s.outAt s.ext) :=
  ⟨{ sSys with ptp := { sSys.ptp with tod := [(3, ⟨7, none⟩)] } }, 3, ⟨7, none⟩, by decide⟩

theorem test_ClocksAndLatches_10 : ∃ (s : State), (s.rd Reg.Hid.PPSI_AT [0] = 0) ∧ (s.flag Reg.Tim.SRC [0] = false) ∧ (s.flag Reg.Tim.SRC [1] = false) :=
  ⟨sSys, by decide⟩

theorem test_ClocksAndLatches_11 : ∃ (s : State), (s.rd Reg.Hid.PPSI_AT [0] ≠ 0) ∧ ((Int.ofNat s.ext + signed 16 (s.rd Reg.Tim.PPS_OFS_IN [])).toNat < s.rd Reg.Hid.PPSI_AT [0] - 1 + msTicks 900) :=
  ⟨(sSys.wr Reg.Hid.PPSI_AT [0] 5), by decide⟩

theorem test_ClocksAndLatches_12 : ∃ (s : State), (s.flag Reg.Tim.PPS_EN [] = true) ∧ (s.flag Reg.Tim.OUT_VALID [] = true) ∧ (s.rd Reg.Hid.PPS_AT [0] = 0) :=
  ⟨((sSys.wr Reg.Tim.PPS_EN [] 1).wr Reg.Tim.OUT_VALID [] 1), by decide⟩

theorem test_ClocksAndLatches_13 : ∃ (s : State), (s.timeOn = true) :=
  ⟨sGrT, by decide⟩

theorem test_ObservationAndScrub_1 : ∃ (s : State) (j : Nat), (j < 4096) ∧ (s.flag Reg.Cnt.TH_EN [j] = true) ∧ (s.rd Reg.Cnt.TH_N [j] < s.signal (s.rd Reg.Cnt.TH_KIND [j]) (s.rd Reg.Cnt.TH_INDEX [j])) ∧ (s.flag Reg.Cnt.TH_ABOVE [j] = false) ∧ (s.flag Reg.Cnt.TH_EVENT [j] = false) :=
  ⟨sThr, 4, by decide⟩

theorem test_ObservationAndScrub_2 : ∃ (s : State) (j : Nat), (j < 4096) ∧ (s.flag Reg.Cnt.TH_EN [j] = true) ∧ (s.rd Reg.Cnt.TH_N [j] < s.signal (s.rd Reg.Cnt.TH_KIND [j]) (s.rd Reg.Cnt.TH_INDEX [j])) ∧ (s.flag Reg.Cnt.TH_ABOVE [j] = false) ∧ (s.flag Reg.Cnt.TH_EVENT [j] = true) :=
  ⟨(sThr.wr Reg.Cnt.TH_EVENT [4] 1), 4, by decide⟩

theorem test_ObservationAndScrub_3 : ∃ (s : State) (j : Nat), (j < 4096) ∧ (s.flag Reg.Cnt.TH_EN [j] = true) ∧ (s.signal (s.rd Reg.Cnt.TH_KIND [j]) (s.rd Reg.Cnt.TH_INDEX [j]) ≤ s.rd Reg.Cnt.TH_N [j]) :=
  ⟨(sThr.wr Reg.Cnt.TH_N [4] 9), 4, by decide⟩

theorem test_ObservationAndScrub_4 : ∃ (s : State) (e : Ev) (q : List Ev), (s.evs.queue = e :: q) ∧ (s.evs.dropped = 0) ∧ (s.flag Reg.Bar.EQ_EN [0] = false) ∧ (s.vfOf e.tenant = none) :=
  ⟨{ sSys with evs := { sSys.evs with queue := [ev0] } }, ev0, [], by decide⟩

theorem test_ObservationAndScrub_5 : ∃ (s : State) (e : Ev) (q : List Ev), (s.evs.queue = e :: q) ∧ (s.evs.dropped = 0) ∧ (s.flag Reg.Bar.EQ_EN [0] = true) ∧ (s.vfOf e.tenant = none) ∧ ((s.rd Reg.Bar.EQ_TAIL [0] + 1) % 2 ^ s.rd Reg.Bar.EQ_LOG2 [0] ≠ s.rd Reg.Bar.EQ_HEAD [0]) ∧ ((s.rd Reg.Bar.IRQ_EN [0]).testBit 1 = false) :=
  ⟨{ sRing with evs := { sRing.evs with queue := [ev0] } }, ev0, [], by decide⟩

theorem test_ObservationAndScrub_6 : ∃ (s : State) (w : RateWin), (s.window? w.code w.key = some w) ∧ (w.count = 0) :=
  ⟨{ sSys with evs := { sSys.evs with windows := [rw0] } }, rw0, by decide⟩

theorem test_ObservationAndScrub_7 : ∃ (s : State) (w : RateWin), (s.window? w.code w.key = some w) ∧ (w.count ≠ 0) ∧ (w.last.tenant = 0) ∧ (s.evs.queue.length < 1024) ∧ (severity w.last.code = 4) :=
  ⟨{ sSys with evs := { sSys.evs with windows := [{ rw0 with count := 3 }] } }, { rw0 with count := 3 }, by decide⟩

theorem test_ObservationAndScrub_8 : ∃ (s : State) (n : Nat), (s.flag Reg.Mem.MEM_OPEN [] = true) ∧ (32 * n < s.memBytes) :=
  ⟨uPb, 9, by decide⟩

theorem test_ObservationAndScrub_9 : ∃ (s : State) (n : Nat), (s.flag Reg.Mem.MEM_OPEN [] = true) ∧ (32 * n < s.memBytes) ∧ (16777216 ≤ 32 * n) :=
  ⟨uPb, 600000, by decide⟩

theorem test_SievePackets_1 : ∃ (s : State) (p : Packet), (64 ≤ p.ingress) ∧ (p.ingress < 96) ∧ (s.flag Reg.Lan.LINK_UP [p.ingress - 64] = true) ∧ (s.flag Reg.Lan.UL_EN [p.ingress - 64] = true) ∧ (frameLen p.bytes ≤ 10240) ∧ (p.fcsOk = false) :=
  ⟨sUpl, { pkUp with fcsOk := false }, by decide⟩

theorem test_SievePackets_2 : ∃ (s : State) (p : Packet), (64 ≤ p.ingress) ∧ (p.ingress < 96) ∧ (s.flag Reg.Lan.LINK_UP [p.ingress - 64] = true) ∧ (s.flag Reg.Lan.UL_EN [p.ingress - 64] = true) ∧ (frameLen p.bytes ≤ 10240) ∧ (p.fcsOk = true) ∧ (s.flag Reg.Key.MACSEC_EN [p.ingress - 64] = false ∨ etherType p.bytes = 0x8808) :=
  ⟨sUpl, pkUp, by decide⟩

theorem test_SievePackets_3 : ∃ (s : State) (p : Packet), (64 ≤ p.ingress) ∧ (p.ingress < 96) ∧ (s.flag Reg.Lan.LINK_UP [p.ingress - 64] = true) ∧ (s.flag Reg.Lan.UL_EN [p.ingress - 64] = true) ∧ (10240 < frameLen p.bytes) ∧ (p.fcsOk = true) :=
  ⟨sUpl, { pkUp with bytes := List.replicate 10240 1 }, by decide, by decide, by decide, by decide, by simp only [frameLen, List.length_replicate]; decide, by decide⟩

theorem test_SievePackets_4 : ∃ (s : State) (p : Packet) (x : Seal), (64 ≤ p.ingress) ∧ (p.ingress < 96) ∧ (s.flag Reg.Lan.LINK_UP [p.ingress - 64] = true) ∧ (s.flag Reg.Lan.UL_EN [p.ingress - 64] = true) ∧ (frameLen p.bytes ≤ 10240) ∧ (p.fcsOk = true) ∧ (s.flag Reg.Key.MACSEC_EN [p.ingress - 64] = true) ∧ (etherType p.bytes ≠ 0x8808) ∧ (p.crypt = some x) :=
  ⟨(sUpl.wr Reg.Key.MACSEC_EN [4] 1), { pkUp with crypt := some ⟨2, 7⟩ }, ⟨2, 7⟩, by decide⟩

theorem test_SievePackets_5 : ∃ (s : State) (p : Packet), (p.ingress < 64) ∧ (s.mode p.ingress ≠ 0) ∧ (s.head p.ingress = true) ∧ (p.kind ≠ 3) ∧ (p.fcsOk = true) ∧ (p.crypt = none) ∧ (p.kind ≠ 1) ∧ (p.kind ≠ 2) :=
  ⟨sUpl, pk0, by decide⟩

theorem test_SievePackets_6 : ∃ (s : State) (p : Packet), (p.ingress < 64) ∧ (s.mode p.ingress ≠ 0) ∧ (s.head p.ingress = true) ∧ (p.kind ≠ 3) ∧ (p.fcsOk = true) ∧ (p.crypt = none) ∧ (p.kind = 1 ∨ p.kind = 2) ∧ (s.isEpon p.ingress = false) ∧ (s.understudy p.ingress = false) ∧ (p.term < 1020) :=
  ⟨sUpl, { pk0 with kind := 1 }, by decide⟩

theorem test_SievePackets_7 : ∃ (s : State) (p : Packet), (p.ingress < 64) ∧ (s.mode p.ingress ≠ 0) ∧ (s.head p.ingress = true) ∧ (p.kind ≠ 3) ∧ (p.fcsOk = false) ∧ (p.crypt = none) :=
  ⟨sUpl, { pk0 with fcsOk := false }, by decide⟩

theorem test_SievePackets_8 : ∃ (s : State) (p : Packet) (x : Seal), (p.ingress < 64) ∧ (s.mode p.ingress ≠ 0) ∧ (s.head p.ingress = true) ∧ (p.kind ≠ 3) ∧ (p.crypt = some x) ∧ (s.understudy p.ingress = false) ∧ (s.isEpon p.ingress = true ∨ p.kind ≠ 0 ∨ (s.flowOf p.ingress p.flowId p.term).isSome = true) :=
  ⟨sUpl, { pk0 with kind := 2, crypt := some ⟨2, 7⟩ }, ⟨2, 7⟩, by decide⟩

theorem test_SievePackets_9 : ∃ (s : State) (p : Packet) (c : Nat), (s.channelFor p = some c) ∧ (c = 0) ∧ (s.head p.ingress = false ∨ s.understudy p.ingress = false) ∧ ((((s.strike p.full.ents).strikeRows p.full.rows).chanTaken c p.full.taken).rd Reg.Hid.CHQ [c] < chanDepth c) :=
  ⟨sUpl, { pk0 with kind := 1 }, 0, by decide⟩

theorem test_SievePackets_10 : ∃ (s : State) (p : Packet) (c : Nat), (s.channelFor p = some c) ∧ (s.head p.ingress = false ∨ s.understudy p.ingress = false) ∧ (c ≠ 2 ∨ isReport p.bytes = false) ∧ (chanDepth c ≤ (((s.strike p.full.ents).strikeRows p.full.rows).chanTaken c p.full.taken).rd Reg.Hid.CHQ [c]) :=
  ⟨(sUpl.wr Reg.Hid.CHQ [0] 5000), { pk0 with kind := 1 }, 0, by decide⟩

theorem test_SievePackets_11 : ∃ (s : State) (p : Packet), (p.ingress < 64) ∧ (s.head p.ingress = true) ∧ (s.channelFor p = none) ∧ (s.flowOf p.ingress p.flowId p.term = none) :=
  ⟨sUpl, pk0, by decide⟩

theorem test_SievePackets_12 : ∃ (s : State) (p : Packet), (64 ≤ p.ingress) ∧ (p.ingress < 96) ∧ (s.channelFor p = none) ∧ (etherType p.bytes ≠ 0x8808) :=
  ⟨sUpl, pkUp, by decide⟩

theorem test_SievePackets_13 : ∃ (_s : State) (p : Packet) (_n _x _f : Nat), (p.full.input = true) :=
  ⟨sUpl, { pkUp with full := ⟨true, 0, 0, false, [], []⟩ }, 0, 5, 6, by decide⟩

theorem test_SievePackets_14 : ∃ (s t : State) (p : Packet) (n _x _f k : Nat), (p.full.input = false) ∧ (s.allocBuf (frameLen p.bytes) false (ownerHw 4 p.ingress) n = (some k, t)) :=
  ⟨sUpl, (sUpl.allocBuf 64 false (ownerHw 4 68) 0).2, pkUp, 0, 5, 6, ((sUpl.allocBuf 64 false (ownerHw 4 68) 0).1.getD 0), by decide, rfl⟩

theorem test_SievePackets_15 : ∃ (s : State) (p : RPkt) (v : VSet) (nx : VSet → Nat) (w : Walk), (s.setOf p.ver = some v) ∧ (v.walk p.bytes 17 (nx v) 0 0 p.bytes.length [] = w) ∧ (w.fin = .drop) :=
  ⟨(sRec.wr Reg.Sve.V_CUR [] 1), rpkt0, vsDrop, (fun _ => 0x300), ⟨.drop, 0, rpkt0.bytes.length, []⟩, by decide⟩

theorem test_SievePackets_16 : ∃ (s : State) (p : RPkt) (v : VSet) (nx : VSet → Nat) (w : Walk) (k : Nat), (s.setOf p.ver = some v) ∧ (v.walk p.bytes 17 (nx v) 0 0 p.bytes.length [] = w) ∧ (w.fin = .profile k) ∧ (s.classify v k p.tenant (v.key k p w (v.pattern k p.bytes)) = none) ∧ (actDisp (v.profiles.get (32 * k + 3)).toNat = 0) :=
  ⟨(sRec.wr Reg.Sve.V_CUR [] 1), rpkt0, vsDrop, (fun _ => 0x107), ⟨.profile 7, 0, rpkt0.bytes.length, []⟩, 7, by decide⟩

theorem test_SievePackets_17 : ∃ (s : State) (p : RPkt) (_nx : VSet → Nat), (s.setOf p.ver = none) :=
  ⟨(sRec.wr Reg.Sve.V_CUR [] 2), rpkt0, (fun _ => 0x300), by decide⟩

theorem test_SievePackets_18 : ∃ (s : State) (p : RPkt) (rest : List RPkt), (s.sieve.recirc = p :: rest) :=
  ⟨(sRec.wr Reg.Sve.V_CUR [] 1), rpkt0, [], by decide⟩

theorem test_SievePackets_19 : ∃ (s : State) (cx : Cx) (c : Ctx) (a : Word) (b : List Nat) (fl : Full) (k : Nat), (s.ctx? cx = some c) ∧ (c.tenant = 0) ∧ (c.tree? = none) ∧ (actionOk a.toNat = true) ∧ ((s.chanTaken 5 fl.punt).rd Reg.Hid.CHQ [5] < chanDepth 5) ∧ (((s.chanTaken 5 fl.punt).allocBuf (frameLen b) true (ownerHw 4 127) 0).1 = some k) :=
  ⟨(sUpl.putCtx ⟨72, 0⟩ cInj), ⟨72, 0⟩, cInj, 0x1400001, [1, 2], full0, (((((sUpl.putCtx ⟨72, 0⟩ cInj).chanTaken 5 full0.punt).allocBuf (frameLen [1, 2]) true (ownerHw 4 127) 0).1).getD 0), by decide, by decide, by decide, by decide, by decide, rfl⟩

theorem test_SievePackets_20 : ∃ (s : State) (cx : Cx) (c : Ctx) (_a : Word) (_b : List Nat) (_fl : Full), (s.ctx? cx = some c) ∧ (c.tenant ≠ 0 ∨ c.tree? ≠ none) :=
  ⟨sPr, cx0, cPr, 0, [], full0, by decide⟩

theorem test_SievePackets_21 : ∃ (s : State) (cx : Cx) (c : Ctx) (a : Word) (_b : List Nat) (fl : Full), (s.ctx? cx = some c) ∧ (c.tenant = 0) ∧ (c.tree? = none) ∧ (actionOk a.toNat = true) ∧ (chanDepth 5 ≤ (s.chanTaken 5 fl.punt).rd Reg.Hid.CHQ [5]) :=
  ⟨((sUpl.wr Reg.Hid.CHQ [5] 9000).putCtx ⟨72, 0⟩ cInj), ⟨72, 0⟩, cInj, 0x1400001, [1, 2], full0, by decide⟩

theorem test_SievePackets_22 : ∃ (s : State) (bk row : Nat), (row ∈ s.rowsHeld bk) ∧ ((4096 * bk + row) ∉ s.sieve.bad) :=
  ⟨sRul, 3, 9, by decide⟩

theorem test_SievePackets_23 : ∃ (s : State) (r : Rule) (bk : Nat), (bk ∈ r.banks) ∧ (4096 * bk + r.row ∈ s.sieve.struck) ∧ (4096 * bk + r.row ∉ s.sieve.bad) :=
  ⟨{ sRul with sieve := { sRul.sieve with struck := [4096 * 3 + 9] } }, rul0, 3, by decide⟩

theorem test_SievePackets_24 : ∃ (s : State) (r : Rule) (bk : Nat), (bk ∈ r.banks) ∧ ((4096 * bk + r.row) ∈ s.sieve.bad) :=
  ⟨{ sRul with sieve := { sRul.sieve with bad := [4096 * 3 + 9] } }, rul0, 3, by decide⟩

theorem test_SievePackets_25 : ∃ (s : State) (bk ph : Nat), (bk < 64) ∧ (ph < 66) ∧ (∀ b < 64, s.rd Reg.Sve.PHYS [b] ≠ ph) ∧ (∀ x ∈ s.reh.slices, x.target ≠ .bank ph ∧ (x.target = .bank bk → 64 ≤ ph)) :=
  ⟨sRul, 3, 64, by decide⟩

theorem test_ForwardingEngines_1 : ∃ (s : State) (z q n : Nat) (f : QFrame) (rest : List QFrame), (z < 64) ∧ (s.head z = true) ∧ (s.flag Reg.Pon.LIT [z] = true) ∧ (s.hasMax 1 z = true) ∧ (s.pick 3 1 z = some (q, n)) ∧ (s.queue q = f :: rest) ∧ (f.buf / 4194304 ≠ 4) ∧ ((s.rd Reg.Key.ENC [z, f.flow / 32]).testBit (f.flow % 32) = false) :=
  ⟨sQue, 0, 3, 64, qf0, [], by decide⟩

theorem test_ForwardingEngines_2 : ∃ (s : State) (z q n : Nat) (f : QFrame) (rest : List QFrame), (z < 64) ∧ (s.head z = true) ∧ (s.flag Reg.Pon.LIT [z] = true) ∧ (s.hasMax 1 z = true) ∧ (s.pick 3 1 z = some (q, n)) ∧ (s.queue q = f :: rest) ∧ (f.buf / 4194304 ≠ 4) ∧ ((s.rd Reg.Key.ENC [z, f.flow / 32]).testBit (f.flow % 32) = true) ∧ (s.flag Reg.Fwd.MCAST [z, f.flow] = false) ∧ (s.rd Reg.Key.DN_SLOT [z, s.rd Reg.Fwd.TERM [z, f.flow]] = 0) ∧ (s.queueRoom (.down z (s.rd Reg.Fwd.TERM [z, f.flow])) = true) :=
  ⟨sQue.wr Reg.Key.ENC [0, 1] 2, 0, 3, 64, qf0, [], by decide⟩

theorem test_ForwardingEngines_3 : ∃ (s v : State) (z q n : Nat) (f : QFrame), (z < 64) ∧ (s.head z = true) ∧ (s.flag Reg.Pon.LIT [z] = true) ∧ (s.hasMax 1 z = true) ∧ (s.pick 3 1 z = some (q, n)) ∧ (s.takeFrame 1 q = some (f, v)) ∧ (f.buf / 4194304 ≠ 4) :=
  ⟨sQue, (((sQue.takeFrame 1 3).getD (qf0, sQue)).2), 0, 3, 64, qf0, by decide, by decide, by decide, by decide, by decide, rfl, by decide⟩

theorem test_ForwardingEngines_4 : ∃ (s : State) (u c : Nat) (f : QFrame) (rest : List QFrame), (u < 32) ∧ (c < 8) ∧ (s.flag Reg.Lan.LINK_UP [u] = true) ∧ (s.flag Reg.Lan.UL_EN [u] = true) ∧ (s.flag Reg.Lan.REMOTE_FAULT [u] = false) ∧ (∀ i < modeLanes (s.rd Reg.Lan.UL_MODE [u]), s.rd Reg.Lan.PRBS_GEN [u + i] = 0) ∧ (s.upQueue (8 * u + c) = f :: rest) ∧ (∀ d < 8, c < d → s.upQueue (8 * u + d) = []) ∧ (f.buf / 4194304 ≠ 4) ∧ (s.flag Reg.Key.MACSEC_EN [u] = false) :=
  ⟨sUq, 4, 3, qf0, [], by decide⟩

theorem test_ForwardingEngines_5 : ∃ (s : State) (u c : Nat) (f : QFrame) (rest : List QFrame), (u < 32) ∧ (c < 8) ∧ (s.flag Reg.Lan.LINK_UP [u] = true) ∧ (s.flag Reg.Lan.UL_EN [u] = true) ∧ (s.flag Reg.Lan.REMOTE_FAULT [u] = false) ∧ (∀ i < modeLanes (s.rd Reg.Lan.UL_MODE [u]), s.rd Reg.Lan.PRBS_GEN [u + i] = 0) ∧ (s.upQueue (8 * u + c) = f :: rest) ∧ (∀ d < 8, c < d → s.upQueue (8 * u + d) = []) ∧ (f.buf / 4194304 ≠ 4) ∧ (s.flag Reg.Key.MACSEC_EN [u] = true) :=
  ⟨(sUq.wr Reg.Key.MACSEC_EN [4] 1), 4, 3, qf0, [], by decide⟩

theorem test_ForwardingEngines_6 : ∃ (s : State) (u : Nat), (s.flag Reg.Lan.REMOTE_FAULT [u] = true ∨ s.flag Reg.Lan.LINK_UP [u] = false) :=
  ⟨(sUq.wr Reg.Lan.REMOTE_FAULT [4] 1), 4, by decide⟩

theorem test_ForwardingEngines_7 : ∃ (s : State) (l : Learn) (rest : List Learn), (s.fwd.learns = l :: rest) ∧ (s.learning = true) ∧ (s.learnsAtUnit0 = false) :=
  ⟨sLrn, lrn0, [], by decide⟩

theorem test_ForwardingEngines_8 : ∃ (s : State) (l : Learn) (rest : List Learn), (s.fwd.learns = l :: rest) ∧ (s.learning = true) ∧ (s.learnsAtUnit0 = true) :=
  ⟨{ (tPair sGrT 1) with fwd := sLrn.fwd, env := { sGrT.env with unit := 1 } }, lrn0, [], by decide⟩

theorem test_ForwardingEngines_9 : ∃ (s : State), (s.learning = false) :=
  ⟨sGrT, by decide⟩

theorem test_ForwardingEngines_10 : ∃ (s : State) (l : Learn), (∀ x ∈ s.fwd.table, x.2.struck = false) ∧ (s.entOf l.svc l.mac = none) ∧ (s.freeWays (bucketOf 0 l.svc l.mac) ≠ []) :=
  ⟨sLrn, lrn0, by decide⟩

theorem test_ForwardingEngines_11 : ∃ (s : State) (l : Learn) (h : Nat) (e : FEnt), (∀ x ∈ s.fwd.table, x.2.struck = false) ∧ (s.entOf l.svc l.mac = some (h, e)) ∧ (e.parity = false) ∧ (e.static = true ∨ e.bound = true) :=
  ⟨{ sLrn with fwd := { sLrn.fwd with table := [(0, { fEnt0 with static := true })] } }, lrn0, 0, { fEnt0 with static := true }, by decide⟩

theorem test_ForwardingEngines_12 : ∃ (s : State) (l : Learn) (h : Nat) (e : FEnt), (∀ x ∈ s.fwd.table, x.2.struck = false) ∧ (s.entOf l.svc l.mac = some (h, e)) ∧ (e.parity = false) ∧ (e.static = false) ∧ (e.bound = false) ∧ (dKind e.dest < 2) ∧ (s.samePoint e.dest l.dest = false) :=
  ⟨{ sLrn with fwd := { sLrn.fwd with table := [(0, fEntM)] } }, lrn0, 0, fEntM, by decide⟩

theorem test_ForwardingEngines_13 : ∃ (s : State) (h : Nat) (e : FEnt), (s.fwd.table.get? h = some e) ∧ (e.struck = true) ∧ (e.parity = false) :=
  ⟨tEnt { fEnt9 with struck := true }, 0, { fEnt9 with struck := true }, by decide⟩

theorem test_ForwardingEngines_14 : ∃ (s : State) (b w h : Nat) (e : FEnt), (b < 262144) ∧ (b ≠ 0) ∧ (s.pairing = 0) ∧ ((s.fwd.table.map Prod.fst).Nodup) ∧ (w < 4) ∧ (s.inWay b w = some (h, e)) ∧ (e.static = false) ∧ (e.parity = false) ∧ (e.struck = false) ∧ (e.hit = true) :=
  ⟨tEnt { fEnt9 with hit := true }, 9, 2, 0, { fEnt9 with hit := true }, by decide⟩

theorem test_ForwardingEngines_15 : ∃ (s : State) (b w h : Nat) (e : FEnt), (b < 262144) ∧ (b ≠ 0) ∧ (s.pairing = 0) ∧ ((s.fwd.table.map Prod.fst).Nodup) ∧ (w < 4) ∧ (s.inWay b w = some (h, e)) ∧ (e.static = false) ∧ (e.parity = false) ∧ (e.struck = false) ∧ (e.hit = false) ∧ (1 ≤ s.rd Reg.Fwd.AGE_LIMIT [e.svc]) ∧ (s.rd Reg.Fwd.AGE_LIMIT [e.svc] ≤ (s.rd Reg.Fwd.EPOCH [] + 16 - e.age) % 16) :=
  ⟨(tEnt fEnt9).wr Reg.Fwd.EPOCH [] 15, 9, 2, 0, fEnt9, by decide⟩

theorem test_ForwardingEngines_16 : ∃ (s : State) (b w h : Nat) (e : FEnt), (b < 262144) ∧ (b ≠ 0) ∧ (s.pairing = 0) ∧ ((s.fwd.table.map Prod.fst).Nodup) ∧ (w < 4) ∧ (s.inWay b w = some (h, e)) ∧ (e.static = false) ∧ (e.parity = false) ∧ (e.struck = false) ∧ (e.hit = false) ∧ (s.rd Reg.Fwd.AGE_LIMIT [e.svc] = 0) :=
  ⟨(tEnt fEnt9).wr Reg.Fwd.AGE_LIMIT [5] 0, 9, 2, 0, fEnt9, by decide⟩

theorem test_ForwardingEngines_17 : ∃ (s : State) (b w h : Nat) (e : FEnt), (b < 262144) ∧ (b ≠ 0) ∧ (s.pairing = 0) ∧ ((s.fwd.table.map Prod.fst).Nodup) ∧ (w < 4) ∧ (s.inWay b w = some (h, e)) ∧ (e.static = true) ∧ (e.struck = false) :=
  ⟨tEnt { fEnt9 with static := true }, 9, 2, 0, { fEnt9 with static := true }, by decide⟩

theorem test_CipherRequests_1 : ∃ (s : State) (u : CUser), (s.requests u = true) :=
  ⟨sKey, .down 0 5, by decide⟩

theorem test_CipherRequests_2 : ∃ (s : State) (u : CUser), (s.queueRoom u = false) :=
  ⟨{ sKey with cipher := { sKey.cipher with bound := List.replicate 1024 { req0 with user := .mic 0 5 } } }, .mic 0 5, by decide +kernel⟩

theorem test_CipherRequests_3 : ∃ (s : State) (u : CUser) (n : Nat), (s.requests u = true) ∧ (s.queueRoom u = true) ∧ (n < 147456) ∧ (s.pairing = 0) ∧ (s.route u (s.bindingOf u) = .serve n) ∧ (s.spent n = false) :=
  ⟨sKey, .down 0 5, 70, by decide⟩

theorem test_CipherRequests_4 : ∃ (s : State) (u : CUser) (n : Nat), (s.requests u = true) ∧ (s.queueRoom u = true) ∧ (n < 147456) ∧ (s.route u (s.bindingOf u) = .hold n) :=
  ⟨sKey.wr Reg.Key.SWAP_PEND [70] 1, .down 0 5, 70, by decide⟩

theorem test_CipherRequests_5 : ∃ (s : State) (u : CUser), (s.requests u = true) ∧ (s.queueRoom u = true) ∧ (s.route u (s.bindingOf u) = .refuse 0x20) :=
  ⟨sKey, .down 0 6, by decide⟩

theorem test_CipherRequests_6 : ∃ (s : State) (z t n k : Nat) (r : CReq) (rest : List CReq), (z < 64) ∧ (n < 147456) ∧ (takeReq (.up z t k) n s.cipher.bound = some (r, rest)) ∧ (r.msg = none) ∧ (s.cipher.waiting = []) ∧ (s.rd Reg.Key.INFLIGHT [n] ≠ 0) :=
  ⟨sReq, 0, 5, 70, 0, req0, [], by decide⟩

theorem test_CipherRequests_7 : ∃ (s : State) (z t n k : Nat) (r : CReq) (rest : List CReq), (z < 64) ∧ (n < 147456) ∧ (takeReq (.up z t k) n s.cipher.bound = some (r, rest)) ∧ (r.verifies = true) ∧ (s.cipher.waiting = []) :=
  ⟨sReq, 0, 5, 70, 0, req0, [], by decide⟩

theorem test_CipherRequests_8 : ∃ (s : State) (z t n k : Nat) (r : CReq) (rest : List CReq) (p : Packet), (z < 64) ∧ (n < 147456) ∧ (takeReq (.up z t k) n s.cipher.bound = some (r, rest)) ∧ (r.msg = some (.frame p)) ∧ (p.crypt = none) :=
  ⟨{ sReq with cipher := { sReq.cipher with bound := [{ req0 with msg := some (.frame pk0) }] } }, 0, 5, 70, 0, { req0 with msg := some (.frame pk0) }, [], pk0, by decide⟩

theorem test_CipherRequests_9 : ∃ (s : State) (z t _i m : Nat) (_fr : List Nat), (z < 64) ∧ (t < 1020) ∧ (s.pairing = 0) ∧ (s.rd Reg.Key.MIC_SLOT [z, t] = 0) ∧ (s.flag Reg.Key.REKEY_BUSY [z, t] = true) ∧ (s.rd Reg.Key.TKEK_SLOT [z, t] ≠ 0) ∧ (s.rd Reg.Key.TKEK_SLOT [z, t] < 147456) ∧ (s.rd Reg.Key.STATE [s.rd Reg.Key.TKEK_SLOT [z, t]] = 1) ∧ (s.rd Reg.Key.MODE [s.rd Reg.Key.TKEK_SLOT [z, t]] = 4) ∧ (s.rd Reg.Key.DN_SLOT [z, t] = s.rd Reg.Key.UP_SLOT [z, t]) ∧ (s.rekeySlots z t = some [s.rd Reg.Key.DN_SLOT [z, t]]) ∧ (s.rd Reg.Key.STATE [s.rd Reg.Key.DN_SLOT [z, t]] = 1) ∧ (s.rd Reg.Key.K256 [s.rd Reg.Key.DN_SLOT [z, t]] = 0) ∧ (s.rd Reg.Key.DN_SLOT [z, t] < 147456) ∧ (s.rd Reg.Key.SUCC [s.rd Reg.Key.DN_SLOT [z, t]] = m) ∧ (m < 147456) ∧ (s.rd Reg.Key.INFLIGHT [m] = 0) ∧ ((s.slot m).ops = []) ∧ (s.cipher.held = []) ∧ (s.cipher.waiting = []) :=
  ⟨sRek, 0, 5, 9, 71, [1, 2], by decide⟩

theorem test_CipherRequests_10 : ∃ (s : State) (z t _i : Nat) (_fr : List Nat), (z < 64) ∧ (t < 1020) ∧ (s.flag Reg.Key.REKEY_BUSY [z, t] = true) ∧ (s.rd Reg.Key.MIC_SLOT [z, t] ≠ 0) :=
  ⟨sRek.wr Reg.Key.MIC_SLOT [0, 5] 3, 0, 5, 9, [1, 2], by decide⟩

theorem test_CipherRequests_11 : ∃ (s : State) (z t : Nat), (z < 64) ∧ (t < 1020) ∧ (s.flag Reg.Key.REKEY_BUSY [z, t] = true) ∧ (s.rd Reg.Hid.REKEY_TRY [z, t] < 3) :=
  ⟨sRek, 0, 5, by decide⟩

theorem test_CipherRequests_12 : ∃ (s : State) (z t : Nat), (z < 64) ∧ (t < 1020) ∧ (s.flag Reg.Key.REKEY_BUSY [z, t] = true) ∧ (3 ≤ s.rd Reg.Hid.REKEY_TRY [z, t]) :=
  ⟨sRek.wr Reg.Hid.REKEY_TRY [0, 5] 3, 0, 5, by decide⟩

theorem test_CipherRequests_13 : ∃ (s : State), (1023 ≤ s.rd Reg.Hid.ENT_RUN [0]) :=
  ⟨sKey.wr Reg.Hid.ENT_RUN [0] 1023, by decide⟩

theorem test_CipherRequests_14 : ∃ (s : State), (s.rd Reg.Hid.ENT_RUN [0] < 1023) :=
  ⟨sKey, by decide⟩

theorem test_RehearsalSlices_1 : ∃ (s : State) (e : Nat) (t : SliceTarget), (e < 1024) ∧ (s.lifecycle ≠ 4) ∧ (s.flag Reg.Reh.REH_EN [] = true) ∧ (s.reh.slices.length < 8) ∧ (∀ x ∈ s.reh.slices, targetPlace x.target ≠ targetPlace t ∧ x.entry ≠ e) ∧ (s.entryWaits e = false) ∧ (t ∉ s.reh.retired) ∧ (s.sliceReady t = none) ∧ (s.noFreeBuf t = false) :=
  ⟨sPr, 3, .bank 4, by decide⟩

theorem test_RehearsalSlices_2 : ∃ (s : State) (e : Nat) (t : SliceTarget), (e < 1024) ∧ (s.lifecycle ≠ 4) ∧ (s.flag Reg.Reh.REH_EN [] = true) ∧ (s.reh.slices.length < 8) ∧ (∀ x ∈ s.reh.slices, targetPlace x.target ≠ targetPlace t ∧ x.entry ≠ e) ∧ (s.entryWaits e = false) ∧ (t ∉ s.reh.retired) ∧ (s.sliceReady t = none) ∧ (s.noFreeBuf t = true) :=
  ⟨(sUpl.wr Reg.Buf.FREE [0] 0), 3, .buffer 0 1, by decide⟩

theorem test_RehearsalSlices_3 : ∃ (s : State) (_e : Nat) (_t : SliceTarget), (s.lifecycle = 4) :=
  ⟨(sPr.wr Reg.Reh.LC_STATE [] 4), 3, .bank 4, by decide⟩

theorem test_RehearsalSlices_4 : ∃ (s v : State) (e : Nat) (t : SliceTarget), (e < 1024) ∧ (s.lifecycle ≠ 4) ∧ (s.flag Reg.Reh.REH_EN [] = true) ∧ (s.reh.slices.length < 8) ∧ (∀ x ∈ s.reh.slices, targetPlace x.target ≠ targetPlace t ∧ x.entry ≠ e) ∧ (s.entryWaits e = false) ∧ (t ∉ s.reh.retired) ∧ (s.sliceReady t = some v) ∧ (∀ z < 64, t ≠ .dark z) ∧ (v.sliceWaits t = none) :=
  ⟨(sPr.wr Reg.Sve.PHYS [4] 64), (sPr.wr Reg.Sve.PHYS [4] 64), 3, .bank 4, by decide⟩

theorem test_RehearsalSlices_5 : ∃ (s v : State) (e z : Nat) (t : SliceTarget), (e < 1024) ∧ (s.lifecycle ≠ 4) ∧ (s.flag Reg.Reh.REH_EN [] = true) ∧ (s.reh.slices.length < 8) ∧ (∀ x ∈ s.reh.slices, targetPlace x.target ≠ targetPlace t ∧ x.entry ≠ e) ∧ (s.entryWaits e = false) ∧ (t ∉ s.reh.retired) ∧ (s.sliceReady t = some v) ∧ (v.sliceWaits t = some z) :=
  ⟨sPr, ((sPr.sliceReady (.prompter 5)).getD sPr), 3, 5, .prompter 5, by decide⟩

theorem test_RehearsalSlices_6 : ∃ (s : State) (b : Nat), (b < 64) ∧ (64 ≤ s.rd Reg.Sve.PHYS [b]) ∧ (∀ x < 64, s.rd Reg.Sve.PHYS [x] ≠ b) :=
  ⟨(sPr.wr Reg.Sve.PHYS [4] 64), 4, by decide⟩

theorem test_RehearsalSlices_7 : ∃ (s : State) (b x : Nat), (x < 64) ∧ (s.rd Reg.Sve.PHYS [x] = b) :=
  ⟨sPr, 4, 4, by decide⟩

theorem test_RehearsalSlices_8 : ∃ (_s : State) (z : Nat), (z < 64) :=
  ⟨sPr, 5, by decide⟩

theorem test_RehearsalSlices_9 : ∃ (s : State) (e : Nat) (_os : List SegObs) (_w : Bool) (x : Slice), (s.reh.slices.find? (fun x => x.entry == e) = some x) :=
  ⟨sSli, 3, [seg0], false, sl0, by decide⟩

theorem test_RehearsalSlices_10 : ∃ (s : State) (e b : Nat) (os : List SegObs) (_w : Bool) (x : Slice), (e < 1024) ∧ (s.reh.slices.find? (fun x => x.entry == e) = some x) ∧ (x.target = .bank b) ∧ (s.flag Reg.Reh.E_FAILED [e] = false) ∧ (os ≠ []) ∧ (∀ o ∈ os, o.run = o.expected ∧ o.sig = o.expSig) :=
  ⟨sSli, 3, 4, [seg0], false, sl0, by decide⟩

theorem test_RehearsalSlices_11 : ∃ (s : State) (e b : Nat) (os : List SegObs) (_w : Bool) (x : Slice) (o : SegObs), (e < 1024) ∧ (s.reh.slices.find? (fun x => x.entry == e) = some x) ∧ (x.target = .bank b) ∧ (o ∈ os) ∧ (o.run = o.expected) ∧ (o.sig ≠ o.expSig) :=
  ⟨sSli, 3, 4, [seg0, { seg0 with sig := 8 }], false, sl0, { seg0 with sig := 8 }, by decide⟩

theorem test_RehearsalSlices_12 : ∃ (s : State) (e b : Nat) (os : List SegObs) (_w : Bool) (x : Slice), (e < 1024) ∧ (s.reh.slices.find? (fun x => x.entry == e) = some x) ∧ (x.target = .bank b) ∧ (∃ o ∈ os, o.run ≠ o.expected) ∧ (∀ o ∈ os, o.run = o.expected → o.sig = o.expSig) :=
  ⟨sSli, 3, 4, [seg0, { seg0 with run := 8, sig := 7 }], false, sl0, by decide⟩

theorem test_RehearsalSlices_13 : ∃ (s : State) (e b : Nat) (x : Slice), (e < 1024) ∧ (s.reh.slices.find? (fun x => x.entry == e) = some x) ∧ (x.target = .bank b) :=
  ⟨sSli, 3, 4, sl0, by decide⟩

theorem test_RehearsalSlices_14 : ∃ (s : State), (s.timeOn = true) ∧ (s.rd Reg.Reh.CYCLE_LEFT [] ≠ 0) ∧ (s.flag Reg.Reh.CYCLE_LATE [] = false) :=
  ⟨sPr.wr Reg.Reh.CYCLE_LEFT [] 5, by decide⟩

theorem test_ConstantsAreBuilt_1 : ∃ (s : State) (cx : Cx) (c : Ctx) (n : BitVec 5) (v : Word), (s.Runs cx c) ∧ (n ≠ 0) ∧ ((v.setWidth 18).signExtend 40 = v) :=
  ⟨sRun, cx0, cRun, 9, 0xFFFFFFFFF0, by decide⟩

theorem test_ConstantsAreBuilt_2 : ∃ (s : State) (cx : Cx) (c : Ctx) (n : BitVec 5) (v : Word), (s.Runs cx c) ∧ (c.pc + 1 < c.icount) ∧ (n ≠ 0) ∧ (((v >>> 18).setWidth 18).signExtend 22 = (v >>> 18).setWidth 22) :=
  ⟨sRun, cx0, cRun, 9, 777600, by decide⟩

theorem test_ConstantsAreBuilt_3 : ∃ (s : State) (cx : Cx) (c : Ctx) (n : BitVec 5) (_v : Word), (s.Runs cx c) ∧ (c.pc + 2 < c.icount) ∧ (n ≠ 0) :=
  ⟨sRun, cx0, cRun, 9, 0x123456789A, by decide⟩

theorem test_TrapRaisesItsImmediate_1 : ∃ (s : State) (cx : Cx) (f : Fields) (c : Ctx), (s.Runs cx c) ∧ (useImm.ok f = true) :=
  ⟨sRun, cx0, fJ, cRun, by decide⟩

theorem test_TrapRaisesItsImmediate_2 : ∃ (s : State) (cx : Cx) (f : Fields) (c : Ctx), (s.Runs cx c) ∧ (useImm.ok f = true) ∧ (s.dataWord cx 0 ≠ 0) ∧ ((s.dataWord cx 0).toNat < 2 ^ 17) ∧ (s.dataWord cx 5 = 0) :=
  ⟨sVec, cx0, fJ, cVec, by decide⟩

theorem test_StepRunsTheFrontCommand_1 : ∃ (s : State) (c : Instr) (rest : List Instr), (s.pending = c :: rest) :=
  ⟨{ sRun with pending := [.now cx0 fW] }, .now cx0 fW, [], by decide⟩

theorem test_StepRunsTheFrontCommand_2 : ∃ (s : State), (s.pending = []) :=
  ⟨sRun, by decide⟩

theorem test_StepRunsTheFrontCommand_3 : ∃ (s : State), (s.timeOn = false ∨ s.pairing = 0) :=
  ⟨sRun, by decide⟩

theorem test_StepRunsTheFrontCommand_4 : ∃ (s : State), (s.timeOn = true) :=
  ⟨sGrT, by decide⟩

theorem test_AfterReset_1 : ∃ (p : Nat), (p < 64) :=
  ⟨63, by decide⟩

theorem test_AfterReset_2 : ∃ (n : Nat), (n < 147456) :=
  ⟨147455, by decide⟩

theorem test_StepsKeepTheStoresCanonical_1 : ∃ (s t : State), (s.Canonical) ∧ (step s = .next t) :=
  ⟨sRun, sRun, by decide, rfl⟩

theorem test_CommandsLeaveTheQueue_1 : ∃ (c : Instr) (s t : State), (exec c s = .next t) :=
  ⟨.trstN, sRun, sRun, rfl⟩

theorem test_ErtenWordsRoundTrip_1 : ∃ (i : Instr) (op : Nat) (cx : Cx) (f : Fields), (ertenOf i = some (op, cx, f)) :=
  ⟨.grant cx0 fGr, 0x58, cx0, fGr, by decide⟩

theorem test_ErtenWordsRoundTrip_2 : ∃ (i : Instr) (cx : Cx) (w : Word), (decodeErten cx w = some i) :=
  ⟨.add cx0 fR, cx0, ertenWord 0x01 fR, by decide⟩

/-! ### Words written out from R63 and R65 -/

/-- `NOP` is `ADD w0, w0, w0`, 0x02_0000_0000 (R65). -/
theorem test_word_nop : decodeErten cx0 0x0200000000 = some (.add cx0 ⟨0, 0, 0, 0⟩) := by decide
/-- The worked example of R77: `GRANT w7, w10, w11, w12, 1` is 0xB0_752D_8001. -/
theorem test_word_grant : decodeErten cx0 0xB0752D8001 = some (.grant cx0 ⟨7, 10, 11, 0x18001⟩) := by decide
/-- `LI w9, 2`. -/
theorem test_word_li : decodeErten cx0 0b0100000_01001_00000_00000_000000000000000010 = some (.li cx0 ⟨9, 0, 0, 2⟩) := by decide
/-- `SLTI w1, w2, -1`. -/
theorem test_word_slti : decodeErten cx0 0b0011111_00001_00010_00000_111111111111111111 = some (.slti cx0 ⟨1, 2, 0, 0x3FFFF⟩) := by decide
/-- `BNAFT w3, w4, -2`. -/
theorem test_word_bnaft : decodeErten cx0 0b0101111_00000_00011_00100_111111111111111110 = some (.bnaft cx0 ⟨0, 3, 4, 0x3FFFE⟩) := by decide
/-- `CALLR w5`. -/
theorem test_word_callr : decodeErten cx0 0b0110011_00000_00101_00000_000000000000000000 = some (.callr cx0 ⟨0, 5, 0, 0⟩) := by decide
/-- `OCAS w1, 4(w2), w3, w6`. -/
theorem test_word_ocas : decodeErten cx0 0b1000000_00001_00010_00011_00110_0000000000100 = some (.ocas cx0 ⟨1, 2, 3, 0xC004⟩) := by decide
/-- `WAIT w1, w2`. -/
theorem test_word_wait : decodeErten cx0 0b1001001_00001_00010_00000_000000000000000000 = some (.wait cx0 ⟨1, 2, 0, 0⟩) := by decide
/-- `NOW w31`. -/
theorem test_word_now : decodeErten cx0 0b1010000_11111_00000_00000_000000000000000000 = some (.now cx0 ⟨31, 0, 0, 0⟩) := by decide
/-- `TRAP 0x20001`. -/
theorem test_word_trap : decodeErten cx0 0b1100001_00000_00000_00000_100000000000000001 = some (.trap cx0 ⟨0, 0, 0, 0x20001⟩) := by decide
/-- Opcode 0x00 is undefined: a word of zeros is no instruction (R64). -/
theorem test_word_zero : decodeErten cx0 0 = none := by decide
/-- Opcode 0x14 is not in the table. -/
theorem test_word_undefined : decodeErten cx0 0x2800000000 = none := by decide
/-- The opcode table gives no row any bits. -/
theorem test_table_word : decodeTableWord 40 0xB0752D8001 = none := rfl

/-! ### Ill-formed commands, one for each check -/

theorem test_wf_good : (Instr.admin ⟨72, 15⟩ 63 1019 1).wf = true := by decide
theorem test_wf_core : (Instr.now ⟨80, 0⟩ fZ).wf = false := by decide
theorem test_wf_prompter_context : (Instr.now ⟨71, 1⟩ fZ).wf = false := by decide
theorem test_wf_stagehand_context : (Instr.now ⟨72, 16⟩ fZ).wf = false := by decide
theorem test_wf_port : (Instr.energyDetected 64).wf = false := by decide
theorem test_wf_terminal : (Instr.registerAck 0 1020).wf = false := by decide
theorem test_wf_slot : (Instr.keySwap 147456).wf = false := by decide
theorem test_wf_function : (Instr.cqHead 16 0).wf = false := by decide
theorem test_wf_tenant : (Instr.tenantDisable ⟨72, 0⟩ 64).wf = false := by decide
theorem test_wf_domain : (Instr.snap ⟨80, 0⟩).wf = false ∧ (Instr.holdEntryExpiry 2).wf = false := by decide
theorem test_wf_uplink : (Instr.ulLink 32 true false).wf = false := by decide
theorem test_wf_twin_lane : (Instr.twRestoreExpiry 24).wf = false := by decide
theorem test_wf_lane : (Instr.eqUpdate 88 0 ⟨[], none⟩).wf = false := by decide
theorem test_wf_i2c_master : (Instr.i2cGo ⟨72, 0⟩ 8).wf = false := by decide
theorem test_wf_pcie : (Instr.pcieLinkUp 7 8).wf = false ∧ (Instr.pcieLinkUp 16 3).wf = false := by decide
theorem test_wf_boot : (Instr.extest { boot0 with unit := 2 }).wf = false ∧ (Instr.extest { boot0 with src := 2 }).wf = false ∧ (Instr.extest { boot0 with trained := 65536 }).wf = false := by decide

/-! ### Commands against the spec's own figures -/

/-- R6: 0x10 lies 32 ticks after 0xFF_FFFF_FFF0. -/
theorem test_sdiff_wrap : Sys2Proof.sdiff 0x10 0xFFFFFFFFF0 = 32 := by decide
/-- R66: a shift right by 40 to 63 places fills with bit 39. -/
theorem test_sar_40 : (sRun.putCtx cx0 (tCtx (.prompter 0) [(2, 0x8000000000), (3, 40)])).regAfter [.sar cx0 fR] cx0 1 = some 0xFFFFFFFFFF := by decide
/-- R66: bits [39:6] of a shift amount are ignored. -/
theorem test_shl_64 : (sRun.putCtx cx0 (tCtx (.prompter 0) [(2, 5), (3, 64)])).regAfter [.shl cx0 fR] cx0 1 = some 5 := by decide
/-- R65: division by zero gives all ones. -/
theorem test_divu_zero : (sRun.putCtx cx0 (tCtx (.prompter 0) [(2, 5)])).regAfter [.divu cx0 fR] cx0 1 = some 0xFFFFFFFFFF := by decide
/-- R65: the upper half of a product. -/
theorem test_mulhu : (sRun.putCtx cx0 (tCtx (.prompter 0) [(2, 0xFFFFFFFFFF), (3, 0xFFFFFFFFFF)])).regAfter [.mulhu cx0 fR] cx0 1 = some 0xFFFFFFFFFE := by decide
/-- The worked example of R67: 777,600 is 2 × 2^18 + 0x3_DD80. -/
theorem test_one_frame : sRun.regAfter [.li cx0 ⟨9, 0, 0, 2⟩, .lim cx0 ⟨9, 9, 0, 0x3DD80⟩] cx0 9 = some 777600 := by decide
/-- R66: the sum wraps; R33: a write to w0 is discarded. -/
theorem test_add_wraps : (sRun.putCtx cx0 (tCtx (.prompter 0) [(2, 0xFFFFFFFFFF), (3, 2)])).regAfter [.add cx0 fR] cx0 1 = some 1 ∧ sRun.regAfter [.add cx0 { fR with wd := 0 }] cx0 0 = some 0 := by decide

/-- Tree 9 of the discovery example: XGS-PON, 14 km to 38 km. -/
def tree9 : State := ((((State.reset.wr Reg.Pon.MODE [9] 2).wr Reg.Rng.L_MIN [9] 140).wr Reg.Rng.L_MAX [9] 380).wr Reg.Rng.EQD_ZERO [9] 2488320).wr Reg.Rng.RAND_US [9] 48
/-- R161: `DISC_W`, `RANGE_W` and D_pre of the example. -/
theorem test_discovery_windows : tree9.discW 9 = 1764843 ∧ tree9.rangeW 9 = 1466244 ∧ tree9.dPre 9 = 1634827 ∧ (tree9.rate 9).tickBits (tree9.dPre 9) = 2615723 := by decide
/-- R164: terminal 87 answers at x = 1,680,107 bits; `EQD_RTT` reads 584,760 and `R_MEAS` 1,903,560. -/
theorem test_equalise : (tree9.equalise 9 87 1680107).rd Reg.Rng.EQD_RTT [9, 87] = 584760 ∧ (tree9.equalise 9 87 1680107).rd Reg.Rng.R_MEAS [9, 87] = 1903560 := by decide
/-- R133: preamble 512 bits are 320 ticks and guard 320 bits 200 ticks at XGS-PON. -/
theorem test_profile_xgs : (tree9.rate 9).bitTicks (tree9.rate 9).short = 320 ∧ (tree9.rate 9).bitTicks (tree9.rate 9).guard = 200 := by decide

/-- The four nodes of the parsing example after R276: Ethernet, VLAN, IPv4, UDP. -/
def vsEx : VSet :=
  { emptySet with
    nodes := [(0, 14 + 2 ^ 34), (2, 96 + 16 * 2 ^ 8 + 0x300 * 2 ^ 13 + 2 * 2 ^ 35), (4, 4), (6, 16 + 16 * 2 ^ 8 + 0x300 * 2 ^ 13 + 2 * 2 ^ 23 + 2 ^ 35),
      (8, 20 + 4 * 2 ^ 8 + 4 * 2 ^ 16 + 2 * 2 ^ 20 + 2 ^ 31 + 2 ^ 34), (9, 16 + 16 * 2 ^ 8 + 50 * 2 ^ 21 + 14 * 2 ^ 29),
      (10, 72 + 8 * 2 ^ 8 + 0x104 * 2 ^ 13 + 3 * 2 ^ 23 + 2 ^ 35), (12, 8 + 2 * 2 ^ 31 + 2 ^ 34), (13, 32 + 16 * 2 ^ 8), (14, 0x105 * 2 ^ 13)]
    arcs := [(0, 0x8100 + 2 ^ 16), (1, 0x800 + 2 * 2 ^ 16), (2, 0x800 + 2 * 2 ^ 16), (3, 17 + 3 * 2 ^ 16)] }
/-- The first 46 bytes of its frame, with an IPv4 total length. -/
def bytesEx (hi lo : Nat) : List Nat :=
  List.replicate 12 0 ++ [0x81, 0, 0, 1, 8, 0] ++ [0x45, 0, hi, lo, 0, 0, 0, 0, 64, 17] ++ List.replicate 10 0 ++ [0, 1, 0, 2, 0x3, 0x70, 0, 0]
/-- Total length 900: profile 5 after 4 nodes, the region ends at byte 918. -/
theorem test_walk_trailer : (vsEx.walk (bytesEx 0x3 0x84) 17 0 0 0 1000 []).fin = .profile 5 ∧ (vsEx.walk (bytesEx 0x3 0x84) 17 0 0 0 1000 []).nodes = 4 ∧
    (vsEx.walk (bytesEx 0x3 0x84) 17 0 0 0 1000 []).region = 918 := by decide
/-- Total length 1,100: malformed at node 2, only slot 0 recorded. -/
theorem test_walk_malformed : (vsEx.walk (bytesEx 0x4 0x4C) 17 0 0 0 1000 []).fin = .malformed ∧ (vsEx.walk (bytesEx 0x4 0x4C) 17 0 0 0 1000 []).slotValid = 1 := by decide

/-- The eight entries of the eviction example after R324, at epoch 6. -/
def tabEx : Map FEnt :=
  let e := fun (b w : Nat) (st hit : Bool) (age : Nat) => ({ fEnt0 with static := st, hit := hit, age := age, bucket := b, way := w } : FEnt)
  [(0, e 71402 0 true false 7), (1, e 71402 1 false false 9), (2, e 71402 2 false true 14), (3, e 71402 3 false false 2),
    (4, e 190553 0 false false 14), (5, e 190553 1 false false 6), (6, e 190553 2 false false 9), (7, e 190553 3 false false 0)]
/-- Of the two entries of age 13, the one in the lower bucket goes (R323). -/
theorem test_victim : ((({ State.reset with fwd := { State.reset.fwd with table := tabEx } } : State).wr Reg.Fwd.EPOCH [] 6).victim 190553 71402).map (fun x => (x.2.bucket, x.2.way)) = some (71402, 1) := by decide
/-- R112: count 128,000 with no wrap, sampled when bits [29:8] of stage time held 4,096. -/
theorem test_counter_window : (({ State.reset with ext := 4096 * 256 } : State).wr Reg.Cnt.CNT [9] 128000).bar2Counter 9 = 0x004000000001F400 := by decide
/-- The cue examples after R399: a cue 300,000 ticks past fires late, one 900,000 past is stale. -/
def cueAt (back : Nat) : State := (opW [0x540, BitVec.ofNat 40 (1000000000 - back), xAcc.addr, 7, 0]).cueAt { uT with ext := 1000000000, timeOn := true }
theorem test_cue_stale : ((cueAt 900000).cpu.tickets.get? 3).map (fun t => t.st) = some (.done (cword 2 0)) := by decide
theorem test_cue_late : ((cueAt 300000).cpu.tickets.get? 3).map (fun t => t.st) = some (.done (cword 1 300000)) := by decide
/-- R23, R64: a `QUIET` of kind 3 and a `STANDING` add of period 0 are refused encodings. -/
theorem test_reserved_encodings : useQuiet.ok { fQu with imm := 3 } = false ∧ useStanding.ok { fSt with imm := 0x8000 } = false ∧ useStanding.ok fSt = true := by decide
/-- R473: life-cycle steps go one state on, or to SCRAP. -/
theorem test_life_cycle : lcStepOk 0 1 = true ∧ lcStepOk 0 2 = false ∧ lcStepOk 2 4 = true ∧ lcStepOk 3 2 = false := by decide
/-- R479: a matching signature never makes a short count a pass. -/
theorem test_verdict : verdict [⟨10, 10, 7, 7⟩] = .pass ∧ verdict [⟨10, 9, 7, 7⟩] = .incomplete ∧ verdict [⟨10, 9, 7, 7⟩, ⟨10, 10, 7, 8⟩] = .fail 1 := by decide
/-- R365: the counter spaces. -/
theorem test_key_space : keySpace 2 = 2 ^ 51 ∧ keySpace 5 = 2 ^ 48 ∧ keySpace 8 = 2 ^ 32 - 1 ∧ keySpace 10 = 2 ^ 64 - 1 := by decide
/-- The queue runs first in, first out. -/
theorem test_step_front : step { sRun with pending := [.now cx0 fW, .add cx0 fR] } = exec (.now cx0 fW) { sRun with pending := [.add cx0 fR] } := rfl
/-- The word a test row would place: none, so the state is as it was. -/
theorem test_with_fetch_word : State.reset.withFetchWord 40 0xB0752D8001 = State.reset := rfl
end

section
/-! SUPPORT. What the checks of an instruction, a branch trace and the entry of an exception do, then `TRAP` (R52). -/

namespace Sys2Proof.Machine

/-! ### Registers and events do not reach data memory -/

/-- Data memory is the same in two states that differ in registers and events alone. -/
theorem State.SameBut.dataWord_eq {s t : State} (h : s.SameBut t) (cx : Cx) (a : Nat) : t.dataWord cx a = s.dataWord cx a := by
  obtain ⟨r, e, rfl⟩ := h
  rfl

/-- The freezing of a trace changes registers and events alone (R470). -/
theorem State.freezeTrace_same (s : State) (core cause : Nat) : s.SameBut (s.freezeTrace core cause) := by
  have h := State.SameBut.rfl' s
  unfold State.freezeTrace
  split
  · exact h
  · exact ((h.wr' _ _ _).wr' _ _ _).trans' (State.raise_same _ _ _ _)

/-- The state with one entry written to a core's trace and the write position moved on (R470). -/
def State.traceEntry (s : State) (core kind src dst ctx : Nat) : State :=
  let e := s.rd Reg.Cnt.TR_PTR [core]
  (((((s.wr Reg.Cnt.TR_FROM [core, e] src).wr Reg.Cnt.TR_TO [core, e] dst).wr Reg.Cnt.TR_KIND [core, e] kind).wr
    Reg.Cnt.TR_TIME [core, e] s.now).wr Reg.Cnt.TR_CTX [core, e] ctx).wr Reg.Cnt.TR_PTR [core] (e + 1)

theorem State.traceEntry_same (s : State) (core kind src dst ctx : Nat) : s.SameBut (s.traceEntry core kind src dst ctx) :=
  ((((((State.SameBut.rfl' s).wr' _ _ _).wr' _ _ _).wr' _ _ _).wr' _ _ _).wr' _ _ _).wr' _ _ _

/-- A branch trace changes registers and events alone, whether it is off, full or frozen by its last entry (R470). -/
theorem State.trace_same (s : State) (core kind src dst ctx : Nat) : s.SameBut (s.trace core kind src dst ctx) := by
  have hentry := s.traceEntry_same core kind src dst ctx
  unfold State.trace
  split
  · exact State.SameBut.rfl' s
  · dsimp only
    split
    · split
      · exact (hentry.wr' _ _ _).trans' (State.freezeTrace_same _ _ _)
      · exact hentry.wr' _ _ _
    · exact hentry

@[simp] theorem State.dataWord_trace (s : State) (core kind src dst ctx : Nat) (cx : Cx) (a : Nat) :
    (s.trace core kind src dst ctx).dataWord cx a = s.dataWord cx a :=
  (s.trace_same core kind src dst ctx).dataWord_eq cx a

/-! ### The checks every instruction goes through -/

/-- In a context that executes, a well-formed instruction that is not reserved to prompters does its operation, its cycles counted (R65). -/
theorem erten_of_runs {s : State} {cx : Cx} {c : Ctx} {f : Fields} {u : Use} (hs : s.Runs cx c) (hok : u.ok f = true) (hp : u.prompter = false)
    (op cost : Nat) (body : Ctx → State → State) : erten op u cost cx f body s = body (c.spend cost) s := by
  obtain ⟨hctx, hruns, hcore, hfetch⟩ := hs
  simp [erten, hctx, hruns, hcore, hfetch, hok, hp, Ctx.spend]

/-! ### The entry of an exception (R49) -/

/-- The state with the five words of an exception frame saved in the context's data memory. -/
def State.saveFrame (s : State) (cx : Cx) (epc ecause eaddr einstr : Word) : State :=
  ((((s.setDataWord cx 1 epc).setDataWord cx 2 ecause).setDataWord cx 3 eaddr).setDataWord cx 4 einstr).setDataWord cx 5 1

/-- A data word after an exception frame is saved. -/
theorem State.dataWord_saveFrame (s : State) (cx : Cx) (epc ecause eaddr einstr : Word) (a : Nat) :
    (s.saveFrame cx epc ecause eaddr einstr).dataWord cx a =
      if a = 5 then 1 else if a = 4 then einstr else if a = 3 then eaddr else if a = 2 then ecause else if a = 1 then epc else s.dataWord cx a := by
  simp only [State.saveFrame, State.dataWord_setDataWord]

/-- With a handler and `DEPTH` 0, an exception saves its frame and goes to `VECTOR` with 2 cycles more, leaving a trace entry (R49, R470). -/
theorem State.takeException_handled {s : State} {cx : Cx} (hvec : s.dataWord cx 0 ≠ 0) (hfit : (s.dataWord cx 0).toNat < 2 ^ 17) (hdepth : s.dataWord cx 5 = 0)
    (c : Ctx) (code sub epc : Nat) (addr instr : Word) (posted : Bool) :
    s.takeException cx c code sub epc addr instr posted =
      ((s.saveFrame cx (BitVec.ofNat 40 epc) (BitVec.ofNat 40 (code + sub * 256 + bit posted * 65536)) addr instr).putCtx cx
        { c with block := .none, pc := (s.dataWord cx 0).toNat, cycles := c.cycles + 2 }).trace cx.core 2 epc (s.dataWord cx 0).toNat cx.ctx := by
  have hhandler : ¬ ((s.dataWord cx 0).toNat = 0 ∨ s.dataWord cx 5 ≠ 0) :=
    not_or.mpr ⟨fun h => hvec (BitVec.eq_of_toNat_eq h), fun h => h hdepth⟩
  simp only [State.takeException, if_neg hhandler, if_neg (Nat.not_le.mpr hfit), State.saveFrame]

/-- With a handler and `DEPTH` 0, the data memory after an exception is that with its frame saved (R49). -/
theorem State.dataWord_takeException {s : State} {cx : Cx} (hvec : s.dataWord cx 0 ≠ 0) (hfit : (s.dataWord cx 0).toNat < 2 ^ 17) (hdepth : s.dataWord cx 5 = 0)
    (c : Ctx) (code sub epc : Nat) (addr instr : Word) (posted : Bool) (a : Nat) :
    (s.takeException cx c code sub epc addr instr posted).dataWord cx a =
      (s.saveFrame cx (BitVec.ofNat 40 epc) (BitVec.ofNat 40 (code + sub * 256 + bit posted * 65536)) addr instr).dataWord cx a := by
  rw [State.takeException_handled hvec hfit hdepth, State.dataWord_trace, State.dataWord_putCtx]

/-! ### `TRAP` (R52) -/

/-- The vector that a branch trace names for a `TRAP`: the handler's address, and 0 inside a handler (R470). -/
def State.trapVector (s : State) (cx : Cx) : Nat := if s.dataWord cx 5 = 0 then (s.dataWord cx 0).toNat % 2 ^ 17 else 0

/-- `TRAP` in a context that executes: a trace entry of kind 6, then an exception with its immediate as the address (R52). -/
theorem exec_trap_of_runs {s : State} {cx : Cx} {f : Fields} {c : Ctx} (hs : s.Runs cx c) (hok : useImm.ok f = true) :
    exec (.trap cx f) s = .next ((s.trace cx.core 6 c.pc (s.trapVector cx) cx.ctx).takeException cx (c.spend 6) 0x7E 8 c.pc
      (f.imm.setWidth 40) (ertenWord 0x61 f) false) :=
  congrArg Host.Outcome.next (erten_of_runs hs hok rfl 0x61 6 _)

/-- Settles O55: `TRAP` passes the instruction checks, and the frame that its exception saves reads back through the two trace entries. -/
theorem trapRaisesItsImmediate : Obligations.TrapRaisesItsImmediate := by
  refine ⟨fun s cx f c hs hok => exec_trap_of_runs hs hok, fun s cx f c hs hok hvec hfit hdepth => ⟨_, exec_trap_of_runs hs hok, ?_⟩⟩
  rw [← s.dataWord_trace cx.core 6 c.pc (s.trapVector cx) cx.ctx] at hvec hfit hdepth
  simp only [State.dataWord_takeException hvec hfit hdepth, State.dataWord_saveFrame]
  exact ⟨rfl, (BitVec.ofNat_toNat 40 f.imm).symm, rfl⟩

end Sys2Proof.Machine
end

section
/-! SUPPORT. What an exception, a fetch that fails and `LI` make of a context, then the constants of R67. -/

namespace Sys2Proof.Machine

/-! ### A context after an exception -/

/-- Contexts are the same in two states that differ in registers and events alone. -/
theorem State.SameBut.ctx?_eq {s t : State} (h : s.SameBut t) (cx : Cx) : t.ctx? cx = s.ctx? cx := by
  obtain ⟨r, e, rfl⟩ := h
  rfl

/-- With a handler and `DEPTH` 0, an exception takes its context to `VECTOR` with the registers as they were (R49). -/
theorem State.ctx?_takeException {s : State} {cx : Cx} (hvec : s.dataWord cx 0 ≠ 0) (hfit : (s.dataWord cx 0).toNat < 2 ^ 17) (hdepth : s.dataWord cx 5 = 0)
    (c : Ctx) (code sub epc : Nat) (addr instr : Word) (posted : Bool) :
    (s.takeException cx c code sub epc addr instr posted).ctx? cx =
      some { c with block := .none, pc := (s.dataWord cx 0).toNat, cycles := c.cycles + 2 } := by
  rw [State.takeException_handled hvec hfit hdepth, (State.trace_same _ _ _ _ _ _).ctx?_eq, State.ctx?_putCtx_self]

/-! ### A fetch that fails (R36, R50, R64) -/

/-- An instruction whose fetch fails is the exception of that fetch, whatever the instruction is. -/
theorem erten_of_fetchFault {s : State} {cx : Cx} {c : Ctx} {x : Nat × Option Word} (hctx : s.ctx? cx = some c) (hruns : c.runs = true)
    (hcore : s.onCore cx = true) (hfetch : s.fetchFault cx c = some x) (op : Nat) (u : Use) (cost : Nat) (f : Fields) (body : Ctx → State → State) :
    erten op u cost cx f body s = s.raiseFetch cx c x := by
  simp [erten, hctx, hruns, hcore, hfetch]

/-- With a handler and `DEPTH` 0, a fetch that fails at an address (R36, R50) takes its context to `VECTOR` with the registers as they were. -/
theorem State.ctx?_raiseFetch_address {s : State} {cx : Cx} (hvec : s.dataWord cx 0 ≠ 0) (hfit : (s.dataWord cx 0).toNat < 2 ^ 17) (hdepth : s.dataWord cx 5 = 0)
    (c : Ctx) (sub : Nat) :
    (s.raiseFetch cx c (sub, none)).ctx? cx = some { c with block := .none, pc := (s.dataWord cx 0).toNat, cycles := c.cycles + 2 } :=
  State.ctx?_takeException (s := s.freeWord.2) hvec hfit hdepth c _ _ _ _ _ _

/-! ### `LI` (R67) -/

/-- `LI` in a context that executes: the register holds the sign-extended immediate, and the context goes on. -/
theorem exec_li_of_runs {s : State} {cx : Cx} {c : Ctx} {f : Fields} (hs : s.Runs cx c) (hok : useLi.ok f = true) :
    exec (.li cx f) s = .next (s.wrote cx c 1 f f.sext) :=
  congrArg Host.Outcome.next (erten_writeReg 0x20 useLi 1 f (fun _ => f.sext) hs hok rfl)

/-! ### A `LIM` whose word has an uncorrectable error -/

/-- The context of the prompter of tree 0. -/
def prompterCx : Cx := ⟨0, 0⟩

/-- The fields of the two instructions that load 777,600, R67's worked example: `LI w9, 2` and `LIM w9, w9, 0x3DD80`. -/
def frameLengthLi : Fields := ⟨9, 0, 0, 2⟩
def frameLengthLim : Fields := ⟨9, 9, 0, 0x3DD80⟩

/-- A context at the first word of an image of those two instructions and a handler of one `NOP` behind them. -/
def frameLengthCtx : Ctx :=
  { kind := .prompter 0, tenant := 0, regs := [], pc := 0, icount := 3, dwords := 64, cycles := 0, limit := 0, block := .none, order := false,
    refused := [], ended := none, kill := none, job := none, res0 := 0, res1 := 0, segs := [],
    code := [ertenWord 0x20 frameLengthLi, ertenWord 0x21 frameLengthLim, ertenWord 0x01 ⟨0, 0, 0, 0⟩] }

/-- A machine that runs that context, its handler at address 2, with an uncorrectable error in the word of the `LIM` (R50). -/
def badLimState : State :=
  let s := (State.reset.putCtx prompterCx frameLengthCtx).setDataWord prompterCx 0 2
  { s with cpu := { s.cpu with badCode := [cxKey prompterCx * 2 ^ 17 + 1] } }

/-- The context, and the machine, behind the `LI`. -/
def frameLengthCtxNext : Ctx := { (frameLengthCtx.spend 1).setReg 9 2 with pc := 1 }
def badLimStateNext : State := badLimState.putCtx prompterCx frameLengthCtxNext

/-- The context executes: the word of the `LI` reads soundly. -/
theorem badLimState_runs : badLimState.Runs prompterCx frameLengthCtx := by decide

theorem exec_li_badLimState : exec (.li prompterCx frameLengthLi) badLimState = .next badLimStateNext :=
  exec_li_of_runs badLimState_runs (by decide)

/-- The fetch of the `LIM` faults with subcause 0x07 (R50). -/
theorem exec_lim_badLimStateNext :
    exec (.lim prompterCx frameLengthLim) badLimStateNext = .next (badLimStateNext.raiseFetch prompterCx frameLengthCtxNext (7, none)) := by
  have hfetch : badLimStateNext.fetchFault prompterCx frameLengthCtxNext = some (7, none) := by decide
  exact congrArg Host.Outcome.next (erten_of_fetchFault (by decide) (by decide) (by decide) hfetch _ _ _ _ _)

/-- After `LI` and `LIM` the register still holds the word of the `LI` alone. -/
theorem regAfter_badLimState :
    badLimState.regAfter [.li prompterCx frameLengthLi, .lim prompterCx frameLengthLim] prompterCx 9 = some 2 := by
  have hctx := State.ctx?_raiseFetch_address (s := badLimStateNext) (cx := prompterCx) (by decide) (by decide) (by decide) frameLengthCtxNext 7
  simp only [State.regAfter, State.after, exec_li_badLimState, exec_lim_badLimStateNext, Option.bind_some, hctx, Option.map_some]
  rfl

/-- Refutes O54 in its second clause: the context executes at the `LI`, and no premise has the word of the `LIM` behind it read soundly (R50). -/
theorem not_constantsAreBuilt : ¬ Obligations.ConstantsAreBuilt := by
  rintro ⟨-, hone, -⟩
  have hbuilt : badLimState.regAfter [.li prompterCx frameLengthLi, .lim prompterCx frameLengthLim] prompterCx 9 = some 777600 :=
    hone badLimState prompterCx frameLengthCtx 9 777600 badLimState_runs (by decide) (by decide) (by decide)
  rw [regAfter_badLimState] at hbuilt
  exact absurd hbuilt (by decide)

end Sys2Proof.Machine
end
